-- ==== Sys2Proof/Word.lean ====
section
/-! DEFINITION. The words of the model: what the manual treats as bits. Quantities with a unit are numbers, not words. -/

namespace Sys2Proof

/-- A byte of the control link (R197). -/
abbrev Byte := BitVec 8

/-- A raw value of the 12-bit converter, 0..4095 (chapter 1). -/
abbrev Raw := BitVec 12

/-- One mark per event source 0..24, bit i for source i, as the event and flag word carries them (R213). -/
abbrev EventWord := BitVec 25

end Sys2Proof
end

