-- ==== Sys2Proof/Syntax.lean ====
section
/-! DEFINITION. The commands of the DL24: one constructor for each row of spec/opcode_table.json. The table gives no
operands, so the operands are the model's (log 10): what the outside brings with the occurrence, and the order in which
blocks act where the manual lets them act in either order. -/

namespace Sys2Proof

/-- The general analog channels A0 to A7 (chapter 1). -/
inductive Chan where
  | a0 | a1 | a2 | a3 | a4 | a5 | a6 | a7
  deriving DecidableEq, Repr

/-- The sides of the machine, as seen in the direction of travel. -/
inductive Side where
  | left | right
  deriving DecidableEq, Repr

/-- The pulse inputs (chapter 2). -/
inductive PulseInput where
  | travel | belt | drum
  deriving DecidableEq, Repr

/-- One value for each general channel. -/
structure Chans (α : Type) where
  (a0 a1 a2 a3 a4 a5 a6 a7 : α)
  deriving DecidableEq, Repr

/-- One value for each side. -/
structure Sides (α : Type) where
  (left right : α)
  deriving DecidableEq, Repr

/-- One value for each pulse input. -/
structure Pulses (α : Type) where
  (travel belt drum : α)
  deriving DecidableEq, Repr

/-- The raw values of one scan of A0..A7 and S (R1). -/
structure Scan where
  chans  : Chans Raw
  supply : Raw
  deriving DecidableEq, Repr

/-- The levels of the configuration straps, true for high (R196). -/
structure Straps where
  (cfg0 cfg1 cfg2 cfg3 : Bool)
  deriving DecidableEq, Repr

/-- The orders that one sample set leaves open (log 4). -/
structure SampleOrder where
  /-- R21: the ZERO capture counts the sample set before a channel's loss fails it. -/
  captureFirst : Bool
  /-- R192: the supply monitor judges before the side readings are worked out. -/
  monitorFirst : Bool
  /-- R114: the DLM acts before the loop updates. -/
  loadFirst : Bool
  /-- R92: the CSC acts on a reference loss before the loop updates. -/
  lossFirst : Bool
  /-- Steps the table lists by themselves are left due for their own commands (log 3). -/
  apart : Bool
  deriving DecidableEq, Repr

/-- The commands. A request carries the tag and the payload bytes of its telegram; a request row that fixes the first
payload byte (a section id, a selector, a kind, a mode) carries the bytes after it. -/
inductive Instr where
  /-- POWER_ON_RESET (R196): RESETn is released with these strap levels. -/
  | powerOnReset (straps : Straps)
  /-- RESTART_RESET (R202). -/
  | restartReset
  /-- SAMPLE_SET (R1). -/
  | sampleSet (scan : Scan) (order : SampleOrder)
  /-- CHANNEL_UNLOCK (R11): the channel's raw value of the sample set that unlocks it (log 7). -/
  | channelUnlock (ch : Chan) (raw : Raw)
  /-- CHANNEL_LOCK (R12): the channel's raw value of the sample set that locks it (log 7). -/
  | channelLock (ch : Chan) (raw : Raw)
  /-- ZERO_CAPTURE_COMPLETE (R20). -/
  | zeroCaptureComplete
  /-- ENGAGE_DONE (R165). -/
  | engageDone
  /-- LIFT_DONE (R167). -/
  | liftDone
  /-- CLASS_WINDOW_CLOSE (R110). -/
  | classWindowClose
  /-- SUPPLY_LOW_SET (R191). -/
  | supplyLowSet
  /-- SUPPLY_LOW_CLEAR (R191). -/
  | supplyLowClear
  /-- SUPPLY_CUTOFF (R193). -/
  | supplyCutoff
  /-- QUALIFYING_EDGE (R26): a transition of a pulse pin (to high when `rising`), the level of TRAVEL_DIR, and whether
  the ramp acts before the intake if an advance follows (R103). -/
  | qualifyingEdge (input : PulseInput) (rising dirHigh rampFirst : Bool)
  /-- COUNTED_TRAVEL_EVENT (R28): the level of TRAVEL_DIR, and whether the ramp acts before the intake (R103). -/
  | countedTravelEvent (dirHigh rampFirst : Bool)
  /-- COUNTED_BELT_EVENT (R32). -/
  | countedBeltEvent
  /-- COUNTED_DRUM_EVENT (R34). -/
  | countedDrumEvent
  /-- SPEED_WINDOW_CLOSE (R33); `apart` leaves a belt stall due for its own command (log 3). -/
  | speedWindowClose (apart : Bool)
  /-- BELT_STALL (R132). -/
  | beltStall
  /-- DRUM_SPEED_UPDATE (R34); `apart` leaves the CSC's part of a drum stall for its own command (log 3). -/
  | drumSpeedUpdate (apart : Bool)
  /-- DRUM_STALL (R35). -/
  | drumStall
  /-- STATE_TIMER_EXPIRY (R168). -/
  | stateTimerExpiry
  /-- SILENCE_TIMER_EXPIRY (R177). -/
  | silenceTimerExpiry
  /-- JOG_EXPIRY (R188) of one leg output. -/
  | jogExpiry (side : Side)
  /-- STOP_ASSERTED (R173). -/
  | stopAsserted
  /-- STOP_RELEASED (R174). -/
  | stopReleased
  /-- STATUS_PERIOD_EXPIRY (R207). -/
  | statusPeriodExpiry
  /-- TRANSMIT_COMPLETE (R201). -/
  | transmitComplete
  /-- TELEGRAM_BAD_CRC (R197): the second CRC byte of a telegram whose CRC does not match. -/
  | telegramBadCrc (byte : Byte)
  /-- TELEGRAM_OVERLENGTH (R197): a length byte of 61..255. -/
  | telegramOverlength (byte : Byte)
  /-- FRAMING_ERROR (R196). -/
  | framingError
  /-- RECEIVE_GAP_TIMEOUT (R197). -/
  | receiveGapTimeout
  /-- UNKNOWN_REQUEST (R198): a good telegram that no other request row names. -/
  | unknownRequest (kind tag : Byte) (payload : List Byte)
  /-- IDENTIFY (R206). -/
  | identify (tag : Byte) (payload : List Byte)
  /-- POLL (R208). -/
  | poll (tag : Byte) (payload : List Byte)
  /-- RESTART (R202). -/
  | restart (tag : Byte) (payload : List Byte)
  /-- CONFIG_SET of section SENSOR (R23); the bytes after the section id. -/
  | configSetSensor (tag : Byte) (rest : List Byte)
  /-- CONFIG_SET of section SIDE (R52). -/
  | configSetSide (tag : Byte) (rest : List Byte)
  /-- CONFIG_SET of section PLAN (R76). -/
  | configSetPlan (tag : Byte) (rest : List Byte)
  /-- CONFIG_SET of section PULSE (R36). -/
  | configSetPulse (tag : Byte) (rest : List Byte)
  /-- CONFIG_SET of section BELT (R136). -/
  | configSetBelt (tag : Byte) (rest : List Byte)
  /-- CONFIG_SET of section LIMITS (R116). -/
  | configSetLimits (tag : Byte) (rest : List Byte)
  /-- CONFIG_SET of section OUTPUT (R194). -/
  | configSetOutput (tag : Byte) (rest : List Byte)
  /-- CONFIG_SET of section LINK (R205). -/
  | configSetLink (tag : Byte) (rest : List Byte)
  /-- CONFIG_SET of section SUPPLY (R194). -/
  | configSetSupply (tag : Byte) (rest : List Byte)
  /-- CONFIG_GET of section SENSOR (R24); the bytes after the section id. -/
  | configGetSensor (tag : Byte) (rest : List Byte)
  /-- CONFIG_GET of section SIDE (R53). -/
  | configGetSide (tag : Byte) (rest : List Byte)
  /-- CONFIG_GET of section PLAN (R77). -/
  | configGetPlan (tag : Byte) (rest : List Byte)
  /-- CONFIG_GET of section PULSE (R37). -/
  | configGetPulse (tag : Byte) (rest : List Byte)
  /-- CONFIG_GET of section BELT (R139). -/
  | configGetBelt (tag : Byte) (rest : List Byte)
  /-- CONFIG_GET of section LIMITS (R117, R182). -/
  | configGetLimits (tag : Byte) (rest : List Byte)
  /-- CONFIG_GET of section OUTPUT (R195). -/
  | configGetOutput (tag : Byte) (rest : List Byte)
  /-- CONFIG_GET of section LINK (R204). -/
  | configGetLink (tag : Byte) (rest : List Byte)
  /-- CONFIG_GET of section SUPPLY (R195). -/
  | configGetSupply (tag : Byte) (rest : List Byte)
  /-- LINTAB_LOAD (R9). -/
  | lintabLoad (tag : Byte) (payload : List Byte)
  /-- COMMISSION (R162). -/
  | commission (tag : Byte) (payload : List Byte)
  /-- DECOMMISSION (R163). -/
  | decommission (tag : Byte) (payload : List Byte)
  /-- PLAN_APPEND (R56). -/
  | planAppend (tag : Byte) (payload : List Byte)
  /-- PLAN_CLEAR (R59). -/
  | planClear (tag : Byte) (payload : List Byte)
  /-- PLAN_READ with selector WAYPOINTS (R60); the bytes after the selector. -/
  | planReadWaypoints (tag : Byte) (rest : List Byte)
  /-- PLAN_READ with selector WINDOWS (R60); the bytes after the selector. -/
  | planReadWindows (tag : Byte) (rest : List Byte)
  /-- WINDOW_SET (R68). -/
  | windowSet (tag : Byte) (payload : List Byte)
  /-- WINDOW_CLEAR (R72). -/
  | windowClear (tag : Byte) (payload : List Byte)
  /-- STATION_SET (R31). -/
  | stationSet (tag : Byte) (payload : List Byte)
  /-- ENGAGE (R164). -/
  | engage (tag : Byte) (payload : List Byte)
  /-- LIFT (R166). -/
  | lift (tag : Byte) (payload : List Byte)
  /-- HOLD of kind SOFT (R169); the bytes after the kind. -/
  | holdSoft (tag : Byte) (rest : List Byte)
  /-- HOLD of kind HARD (R169); the bytes after the kind. -/
  | holdHard (tag : Byte) (rest : List Byte)
  /-- RESUME (R170). -/
  | resume (tag : Byte) (payload : List Byte)
  /-- JOG (R187). -/
  | jog (tag : Byte) (payload : List Byte)
  /-- ZERO (R19). -/
  | zero (tag : Byte) (payload : List Byte)
  /-- SUBSTITUTE (R16). -/
  | substitute (tag : Byte) (payload : List Byte)
  /-- RELEASE (R17). -/
  | release (tag : Byte) (payload : List Byte)
  /-- MATERIAL_SET of mode MANUAL (R113); the bytes after the mode. -/
  | materialSetManual (tag : Byte) (rest : List Byte)
  /-- MATERIAL_SET of mode AUTO (R113); the bytes after the mode. -/
  | materialSetAuto (tag : Byte) (rest : List Byte)
  /-- BELT_MODE (R134). -/
  | beltMode (tag : Byte) (payload : List Byte)
  /-- TRUCK_NEXT (R142). -/
  | truckNext (tag : Byte) (payload : List Byte)
  /-- TRUCK_IN (R143). -/
  | truckIn (tag : Byte) (payload : List Byte)
  /-- TRUCK_OUT (R150). -/
  | truckOut (tag : Byte) (payload : List Byte)
  /-- TALLY_READ (R153). -/
  | tallyRead (tag : Byte) (payload : List Byte)
  /-- EVENT_ROUTE (R212). -/
  | eventRoute (tag : Byte) (payload : List Byte)
  /-- EVENT_ACK (R211). -/
  | eventAck (tag : Byte) (payload : List Byte)
  /-- RECEIVER_BYTE_TAKEN (R197): a byte arrives on LINK_RX. -/
  | receiverByteTaken (byte : Byte)
  /-- RESETN_ASSERTED (R180): RESETn is driven low. -/
  | resetnAsserted
  deriving DecidableEq, Repr

end Sys2Proof
end

