-- ==== Sys2Proof/WellFormed.lean ====
section
/-! DEFINITION. Which commands the outside can send: payloads that a frame can carry (R197), a length byte that is too
large, and a telegram that no other row names. -/

namespace Sys2Proof

/-- The kinds whose telegrams one row names whatever the payload (R198). -/
def wholeKinds : List Nat :=
  [0x01, 0x02, 0x03, 0x12, 0x13, 0x14, 0x20, 0x21, 0x23, 0x24, 0x25, 0x30, 0x31, 0x33, 0x34, 0x35, 0x36, 0x37, 0x40,
   0x41, 0x42, 0x43, 0x44, 0x50, 0x51]

/-- Whether a request row other than UNKNOWN_REQUEST names the telegrams of a kind with a payload: a CONFIG_SET or
CONFIG_GET by its section id, a PLAN_READ, HOLD or MATERIAL_SET by its first byte. -/
def namedByRow (kind : Byte) (payload : List Byte) : Bool :=
  wholeKinds.contains kind.toNat ||
    match payload with
    | [] => false
    | b :: _ =>
      ((kind.toNat == 0x10 || kind.toNat == 0x11) && decide (1 ≤ b.toNat) && decide (b.toNat ≤ 9)) ||
        ((kind.toNat == 0x22 || kind.toNat == 0x32 || kind.toNat == 0x38) && decide (b.toNat ≤ 1))

/-- A payload of a frame (R197). -/
def payloadFits (payload : List Byte) : Bool := decide (payload.length ≤ 60)

/-- The bytes after a first payload byte that the row fixes. -/
def restFits (rest : List Byte) : Bool := decide (rest.length ≤ 59)

/-- Whether a command is one that the outside can send. -/
def Instr.wellFormed : Instr → Bool
  | .telegramOverlength byte => decide (60 < byte.toNat)
  | .unknownRequest kind _ payload => payloadFits payload && !namedByRow kind payload
  | .identify _ payload | .poll _ payload | .restart _ payload | .lintabLoad _ payload | .commission _ payload
  | .decommission _ payload | .planAppend _ payload | .planClear _ payload | .windowSet _ payload
  | .windowClear _ payload | .stationSet _ payload | .engage _ payload | .lift _ payload | .resume _ payload
  | .jog _ payload | .zero _ payload | .substitute _ payload | .release _ payload | .beltMode _ payload
  | .truckNext _ payload | .truckIn _ payload | .truckOut _ payload | .tallyRead _ payload | .eventRoute _ payload
  | .eventAck _ payload => payloadFits payload
  | .configSetSensor _ rest | .configSetSide _ rest | .configSetPlan _ rest | .configSetPulse _ rest
  | .configSetBelt _ rest | .configSetLimits _ rest | .configSetOutput _ rest | .configSetLink _ rest
  | .configSetSupply _ rest | .configGetSensor _ rest | .configGetSide _ rest | .configGetPlan _ rest
  | .configGetPulse _ rest | .configGetBelt _ rest | .configGetLimits _ rest | .configGetOutput _ rest
  | .configGetLink _ rest | .configGetSupply _ rest | .planReadWaypoints _ rest | .planReadWindows _ rest
  | .holdSoft _ rest | .holdHard _ rest | .materialSetManual _ rest | .materialSetAuto _ rest => restFits rest
  | .powerOnReset _ | .restartReset | .sampleSet _ _ | .channelUnlock _ _ | .channelLock _ _ | .zeroCaptureComplete
  | .engageDone | .liftDone | .classWindowClose | .supplyLowSet | .supplyLowClear | .supplyCutoff
  | .qualifyingEdge _ _ _ _ | .countedTravelEvent _ _ | .countedBeltEvent | .countedDrumEvent | .speedWindowClose _
  | .beltStall | .drumSpeedUpdate _ | .drumStall | .stateTimerExpiry | .silenceTimerExpiry | .jogExpiry _
  | .stopAsserted | .stopReleased | .statusPeriodExpiry | .transmitComplete | .telegramBadCrc _ | .framingError
  | .receiveGapTimeout | .receiverByteTaken _ | .resetnAsserted => true

end Sys2Proof
end

