-- ==== Sys2Proof/Decode.lean ====
section
/-! DEFINITION. The command that bits spell. The opcode table gives no row any bits (log 20); the control link spells
requests as telegrams, whose kind and payload name the row (R198, R199, R203). -/

namespace Sys2Proof

/-- The command of a table word: no row gives bits, so no word spells one. -/
def decodeTableWord (_nbits _w : Nat) : Option Instr := none

/-- The CONFIG_SET row of a section id (R203). -/
def configSetRow (sec : Nat) (tag : Byte) (rest : List Byte) : Option Instr :=
  match sec with
  | 1 => some (.configSetSensor tag rest)
  | 2 => some (.configSetSide tag rest)
  | 3 => some (.configSetPlan tag rest)
  | 4 => some (.configSetPulse tag rest)
  | 5 => some (.configSetBelt tag rest)
  | 6 => some (.configSetLimits tag rest)
  | 7 => some (.configSetOutput tag rest)
  | 8 => some (.configSetLink tag rest)
  | 9 => some (.configSetSupply tag rest)
  | _ => none

/-- The CONFIG_GET row of a section id (R203, R204). -/
def configGetRow (sec : Nat) (tag : Byte) (rest : List Byte) : Option Instr :=
  match sec with
  | 1 => some (.configGetSensor tag rest)
  | 2 => some (.configGetSide tag rest)
  | 3 => some (.configGetPlan tag rest)
  | 4 => some (.configGetPulse tag rest)
  | 5 => some (.configGetBelt tag rest)
  | 6 => some (.configGetLimits tag rest)
  | 7 => some (.configGetOutput tag rest)
  | 8 => some (.configGetLink tag rest)
  | 9 => some (.configGetSupply tag rest)
  | _ => none

/-- The row of a kind whose first payload byte names the row (R199). -/
def firstByteRow (kind b : Nat) (tag : Byte) (rest : List Byte) : Option Instr :=
  match kind, b with
  | 0x10, sec => configSetRow sec tag rest
  | 0x11, sec => configGetRow sec tag rest
  | 0x22, 0 => some (.planReadWaypoints tag rest)
  | 0x22, 1 => some (.planReadWindows tag rest)
  | 0x32, 0 => some (.holdSoft tag rest)
  | 0x32, 1 => some (.holdHard tag rest)
  | 0x38, 0 => some (.materialSetAuto tag rest)
  | 0x38, 1 => some (.materialSetManual tag rest)
  | _, _ => none

/-- The row of a kind that one row names whatever the payload (R198). -/
def wholeRow (kind : Nat) (tag : Byte) (payload : List Byte) : Option Instr :=
  match kind with
  | 0x01 => some (.identify tag payload)
  | 0x02 => some (.poll tag payload)
  | 0x03 => some (.restart tag payload)
  | 0x12 => some (.lintabLoad tag payload)
  | 0x13 => some (.commission tag payload)
  | 0x14 => some (.decommission tag payload)
  | 0x20 => some (.planAppend tag payload)
  | 0x21 => some (.planClear tag payload)
  | 0x23 => some (.windowSet tag payload)
  | 0x24 => some (.windowClear tag payload)
  | 0x25 => some (.stationSet tag payload)
  | 0x30 => some (.engage tag payload)
  | 0x31 => some (.lift tag payload)
  | 0x33 => some (.resume tag payload)
  | 0x34 => some (.jog tag payload)
  | 0x35 => some (.zero tag payload)
  | 0x36 => some (.substitute tag payload)
  | 0x37 => some (.release tag payload)
  | 0x40 => some (.beltMode tag payload)
  | 0x41 => some (.truckNext tag payload)
  | 0x42 => some (.truckIn tag payload)
  | 0x43 => some (.truckOut tag payload)
  | 0x44 => some (.tallyRead tag payload)
  | 0x50 => some (.eventRoute tag payload)
  | 0x51 => some (.eventAck tag payload)
  | _ => none

/-- The command of a good telegram: UNKNOWN_REQUEST where no other row names it. -/
def decodeTelegram (kind tag : Byte) (payload : List Byte) : Instr :=
  match wholeRow kind.toNat tag payload with
  | some i => i
  | none =>
    match payload with
    | [] => .unknownRequest kind tag payload
    | b :: rest => (firstByteRow kind.toNat b.toNat tag rest).getD (.unknownRequest kind tag payload)

/-- The telegram (kind, tag, payload) of a request command; none for a command that is no request. -/
def Instr.telegram : Instr → Option (Byte × Byte × List Byte)
  | .unknownRequest kind tag payload => some (kind, tag, payload)
  | .identify tag p => some (0x01#8, tag, p)
  | .poll tag p => some (0x02#8, tag, p)
  | .restart tag p => some (0x03#8, tag, p)
  | .configSetSensor tag r => some (0x10#8, tag, 1#8 :: r)
  | .configSetSide tag r => some (0x10#8, tag, 2#8 :: r)
  | .configSetPlan tag r => some (0x10#8, tag, 3#8 :: r)
  | .configSetPulse tag r => some (0x10#8, tag, 4#8 :: r)
  | .configSetBelt tag r => some (0x10#8, tag, 5#8 :: r)
  | .configSetLimits tag r => some (0x10#8, tag, 6#8 :: r)
  | .configSetOutput tag r => some (0x10#8, tag, 7#8 :: r)
  | .configSetLink tag r => some (0x10#8, tag, 8#8 :: r)
  | .configSetSupply tag r => some (0x10#8, tag, 9#8 :: r)
  | .configGetSensor tag r => some (0x11#8, tag, 1#8 :: r)
  | .configGetSide tag r => some (0x11#8, tag, 2#8 :: r)
  | .configGetPlan tag r => some (0x11#8, tag, 3#8 :: r)
  | .configGetPulse tag r => some (0x11#8, tag, 4#8 :: r)
  | .configGetBelt tag r => some (0x11#8, tag, 5#8 :: r)
  | .configGetLimits tag r => some (0x11#8, tag, 6#8 :: r)
  | .configGetOutput tag r => some (0x11#8, tag, 7#8 :: r)
  | .configGetLink tag r => some (0x11#8, tag, 8#8 :: r)
  | .configGetSupply tag r => some (0x11#8, tag, 9#8 :: r)
  | .lintabLoad tag p => some (0x12#8, tag, p)
  | .commission tag p => some (0x13#8, tag, p)
  | .decommission tag p => some (0x14#8, tag, p)
  | .planAppend tag p => some (0x20#8, tag, p)
  | .planClear tag p => some (0x21#8, tag, p)
  | .planReadWaypoints tag r => some (0x22#8, tag, 0#8 :: r)
  | .planReadWindows tag r => some (0x22#8, tag, 1#8 :: r)
  | .windowSet tag p => some (0x23#8, tag, p)
  | .windowClear tag p => some (0x24#8, tag, p)
  | .stationSet tag p => some (0x25#8, tag, p)
  | .engage tag p => some (0x30#8, tag, p)
  | .lift tag p => some (0x31#8, tag, p)
  | .holdSoft tag r => some (0x32#8, tag, 0#8 :: r)
  | .holdHard tag r => some (0x32#8, tag, 1#8 :: r)
  | .resume tag p => some (0x33#8, tag, p)
  | .jog tag p => some (0x34#8, tag, p)
  | .zero tag p => some (0x35#8, tag, p)
  | .substitute tag p => some (0x36#8, tag, p)
  | .release tag p => some (0x37#8, tag, p)
  | .materialSetManual tag r => some (0x38#8, tag, 1#8 :: r)
  | .materialSetAuto tag r => some (0x38#8, tag, 0#8 :: r)
  | .beltMode tag p => some (0x40#8, tag, p)
  | .truckNext tag p => some (0x41#8, tag, p)
  | .truckIn tag p => some (0x42#8, tag, p)
  | .truckOut tag p => some (0x43#8, tag, p)
  | .tallyRead tag p => some (0x44#8, tag, p)
  | .eventRoute tag p => some (0x50#8, tag, p)
  | .eventAck tag p => some (0x51#8, tag, p)
  | .powerOnReset _ | .restartReset | .sampleSet _ _ | .channelUnlock _ _ | .channelLock _ _ | .zeroCaptureComplete
  | .engageDone | .liftDone | .classWindowClose | .supplyLowSet | .supplyLowClear | .supplyCutoff
  | .qualifyingEdge _ _ _ _ | .countedTravelEvent _ _ | .countedBeltEvent | .countedDrumEvent | .speedWindowClose _
  | .beltStall | .drumSpeedUpdate _ | .drumStall | .stateTimerExpiry | .silenceTimerExpiry | .jogExpiry _
  | .stopAsserted | .stopReleased | .statusPeriodExpiry | .transmitComplete | .telegramBadCrc _
  | .telegramOverlength _ | .framingError | .receiveGapTimeout | .receiverByteTaken _ | .resetnAsserted => none

end Sys2Proof
end

