-- ==== Sys2Proof/Config.lean ====
section
/-! DEFINITION. What the part fixes for good, and the codes the manual leaves open (free values). -/

namespace Sys2Proof.Config

/-- The greatest station, in mm (R28). -/
def maxStation : Nat := 50000000

/-- The supply cutoff level, 16.0 V (chapter 10). -/
def cutoffLevel : Nat := 160

/-- The lower bound of every effective setpoint, in dmm (R78). -/
def minSetpoint : Int := -500

/-- Millionths of a decilitre in a decilitre (R121). -/
def perDecilitre : Nat := 1000000

/-- FREE VALUE (log 13): the two-byte code of a condition that is true or false (PLAN_LOW, SUPPLY_LOW) in a
CONFIG_GET response. R204 gives codes for listed values only, and no list is given for these. -/
opaque conditionCode : Bool → BitVec 16

/-- FREE VALUE (log 13): the two-byte code of an event entry's pending mark in CONFIG_GET LINK. -/
opaque pendingCode : Bool → BitVec 16

/-- FREE VALUE (log 13): the two-byte code of the ADVANCE_PERMIT level, high or low, in CONFIG_GET LIMITS. -/
opaque permitCode : Bool → BitVec 16

end Sys2Proof.Config
end

