-- ==== Sys2Proof/Machine/State.lean ====
section
/-! DEFINITION. The state of the DL24 as plain data: every register, FIFO, counter, mode and pin the manual names,
block by block, the commands that wait, and the state right after reset. What the manual calls "not stored" is computed
(Machine/Plan.lean, Machine/Load.lean, Machine/CutState.lean, Machine/Outputs.lean). -/

namespace Sys2Proof

/-! ### Access to the containers -/

/-- The value of a channel. -/
def Chans.get {α : Type} (c : Chans α) : Chan → α
  | .a0 => c.a0 | .a1 => c.a1 | .a2 => c.a2 | .a3 => c.a3
  | .a4 => c.a4 | .a5 => c.a5 | .a6 => c.a6 | .a7 => c.a7

/-- The values with one channel's replaced. -/
def Chans.set {α : Type} (c : Chans α) (i : Chan) (x : α) : Chans α :=
  match i with
  | .a0 => { c with a0 := x } | .a1 => { c with a1 := x } | .a2 => { c with a2 := x } | .a3 => { c with a3 := x }
  | .a4 => { c with a4 := x } | .a5 => { c with a5 := x } | .a6 => { c with a6 := x } | .a7 => { c with a7 := x }

/-- A value for each channel, from a function of the channel. -/
def Chans.of {α : Type} (f : Chan → α) : Chans α :=
  ⟨f .a0, f .a1, f .a2, f .a3, f .a4, f .a5, f .a6, f .a7⟩

/-- The channels in increasing order. -/
def Chan.all : List Chan := [.a0, .a1, .a2, .a3, .a4, .a5, .a6, .a7]

/-- The value of a side. -/
def Sides.get {α : Type} (c : Sides α) : Side → α
  | .left => c.left
  | .right => c.right

/-- The values with one side's replaced. -/
def Sides.set {α : Type} (c : Sides α) (i : Side) (x : α) : Sides α :=
  match i with
  | .left => { c with left := x }
  | .right => { c with right := x }

/-- A function applied to both sides. -/
def Sides.map {α β : Type} (f : α → β) (c : Sides α) : Sides β := ⟨f c.left, f c.right⟩

/-- The value of a pulse input. -/
def Pulses.get {α : Type} (c : Pulses α) : PulseInput → α
  | .travel => c.travel
  | .belt => c.belt
  | .drum => c.drum

/-- The values with one input's replaced. -/
def Pulses.set {α : Type} (c : Pulses α) (i : PulseInput) (x : α) : Pulses α :=
  match i with
  | .travel => { c with travel := x }
  | .belt => { c with belt := x }
  | .drum => { c with drum := x }

end Sys2Proof

namespace Sys2Proof.Machine

/-! ### Sensor Front End (chapter 1) -/

/-- The roles of a general channel (R3). -/
inductive Role where
  | unused | height | slope | pressure
  deriving DecidableEq, Repr

/-- The underlying state of a channel (R10). -/
inductive Qual where
  | qualified | unqualified
  deriving DecidableEq, Repr

/-- The published state of a channel (R15). -/
inductive PubState where
  | qualified | unqualified | substituted
  deriving DecidableEq, Repr

/-- A SENSOR record (section 1.8). -/
structure SensorRec where
  role    : Role
  side    : Side
  trim    : Int
  lockN   : Nat
  unlockN : Nat
  tol     : Nat
  zero    : Int
  deriving DecidableEq, Repr

/-- A general channel: its record, its table (R7), its qualification context (R10) and its last readings (R24). -/
structure Channel where
  cfg      : SensorRec
  table    : List Int
  qual     : Qual
  lock     : Nat
  unlock   : Nat
  cmp      : Option Int
  accepted : Int
  subst    : Option Int
  raw      : Nat
  trimmed  : Nat
  lin      : Int
  fault    : Bool
  deriving DecidableEq, Repr

/-- The context of a ZERO capture in flight (R19): a sum for each channel involved. -/
structure Capture where
  sums     : List (Chan × Int)
  depthNow : Int
  count    : Nat
  deriving DecidableEq, Repr

/-- What the SFE owns. -/
structure Sfe where
  chans    : Chans Channel
  capture  : Option Capture
  scanLeft : Nat
  deriving DecidableEq, Repr

/-! ### Pulse Counter Unit (chapter 2) -/

/-- The edge selects (R25). -/
inductive EdgeSelect where
  | rising | falling | both
  deriving DecidableEq, Repr

/-- The direction polarities of TRAVEL (R27). -/
inductive DirPolarity where
  | highForward | lowForward
  deriving DecidableEq, Repr

/-- The fields every PULSE record has (section 2.6). -/
structure PulseRec where
  edge     : EdgeSelect
  prescale : Nat
  scale    : Nat
  deriving DecidableEq, Repr

/-- What the PCU owns. -/
structure Pcu where
  count       : Pulses Nat
  station     : Nat
  high        : Nat
  travelRem   : Nat
  beltRem     : Nat
  travelSum   : Int
  beltSum     : Nat
  drumSum     : Nat
  travelSpeed : Int
  beltSpeed   : Nat
  drumSpeed   : Nat
  stall       : Nat
  forward     : Bool
  speedLeft   : Nat
  drumLeft    : Nat
  deriving DecidableEq, Repr

/-! ### Side Reference Unit (chapter 3) -/

/-- The reference states (R40). -/
inductive RefState where
  | full | degraded | lost
  deriving DecidableEq, Repr

/-- The tracking states (R43, R44). -/
inductive Tracking where
  | track | rebase
  deriving DecidableEq, Repr

/-- The modes of a side (R47). -/
inductive SideMode where
  | depth | slope
  deriving DecidableEq, Repr

/-- The readings of one side at the last sample set (R38, R53); `depth` is the measured depth m. -/
structure SideRef where
  heightSet : List Chan
  members   : List Chan
  ref       : RefState
  avg       : Int
  depth     : Int
  tracking  : Tracking
  leftLost  : Bool
  deriving DecidableEq, Repr

/-- What the SRU owns: the side readings, whether RIGHT's mode has been changed since the last sample set (R50), and
the slope channel with its value at the last sample set (R53). -/
structure Sru where
  sides       : Sides SideRef
  modeChanged : Bool
  slope       : Option (Chan × Int)
  deriving DecidableEq, Repr

/-! ### Plan Table (chapter 4) -/

/-- A waypoint record (R54); `ramp` is the ramp override. -/
structure Waypoint where
  station : Nat
  left    : Nat
  right   : Int
  ramp    : Option Nat
  deriving DecidableEq, Repr

/-- A lift window slot (R67). -/
structure Window where
  valid   : Bool
  entered : Bool
  start   : Nat
  length  : Nat
  lead    : Nat
  lift    : Nat
  deriving DecidableEq, Repr

/-- The four window slots. -/
structure Windows where
  (w0 w1 w2 w3 : Window)
  deriving DecidableEq, Repr

/-- What the PT owns. -/
structure Pt where
  list    : List Waypoint
  windows : Windows
  armed   : Bool
  deriving DecidableEq, Repr

/-! ### Depth Loop Unit (chapter 5) -/

/-- The gain sets (R91). -/
inductive GainSet where
  | normal | hard
  deriving DecidableEq, Repr

/-- What the DLU holds for one side; `err` is e, `acc` is A and `integ` is I. -/
structure Loop where
  sp     : Int
  acc    : Nat
  integ  : Int
  gain   : GainSet
  err    : Int
  u      : Int
  drive  : Int
  settle : Nat
  far    : Bool
  deriving DecidableEq, Repr

/-! ### Drum Load Monitor (chapter 6) -/

/-- The material classes (R111). -/
inductive Material where
  | soft | hard
  deriving DecidableEq, Repr

/-- The class modes (R112). -/
inductive ClassMode where
  | auto | manual
  deriving DecidableEq, Repr

/-- What the DLM owns; `load` is the load index L. -/
structure Dlm where
  load      : Nat
  usable    : Bool
  winSum    : Nat
  winCount  : Nat
  lastMean  : Nat
  hardCount : Nat
  softCount : Nat
  auto      : Material
  mode      : ClassMode
  manual    : Material
  deriving DecidableEq, Repr

/-! ### Belt Transit Queue (chapter 7) -/

/-- The tags of a segment (R119). -/
inductive Tag where
  | current | next
  deriving DecidableEq, Repr

/-- A belt segment. -/
structure Segment where
  vol : Nat
  tag : Tag
  deriving DecidableEq, Repr

/-- The belt modes (R134). -/
inductive BeltMode where
  | stop | fixed | follow
  deriving DecidableEq, Repr

/-- What the BTQ owns; `segs` is index 0 (intake) first, `bins` newest first. -/
structure Btq where
  segs        : List Segment
  acc         : Nat
  carry       : Nat
  openBin     : Nat
  bins        : List Nat
  mode        : BeltMode
  spB         : Nat
  drive       : Nat
  stall       : Nat
  stalled     : Bool
  paused      : Bool
  intakeTotal : Nat
  lostTotal   : Nat
  deriving DecidableEq, Repr

/-! ### Truck Loading Unit (chapter 8) -/

/-- The states of a current truck; ABSENT is the slot without one (R141). -/
inductive TruckState where
  | loading | closing
  deriving DecidableEq, Repr

/-- The current truck. -/
structure Truck where
  state     : TruckState
  number    : Nat
  target    : Nat
  delivered : Nat
  opened    : Nat
  deriving DecidableEq, Repr

/-- The announced truck. -/
structure NextTruck where
  number : Nat
  target : Nat
  deriving DecidableEq, Repr

/-- The reasons of a close (R152). -/
inductive CloseReason where
  | full | out
  deriving DecidableEq, Repr

/-- A tally record (R152). -/
structure Tally where
  number    : Nat
  target    : Nat
  delivered : Nat
  opened    : Nat
  closed    : Nat
  reason    : CloseReason
  deriving DecidableEq, Repr

/-- What the TLU owns; `log` is newest first. -/
structure Tlu where
  current     : Option Truck
  next        : Option NextTruck
  log         : List Tally
  closedTotal : Nat
  deriving DecidableEq, Repr

/-! ### Cut State Controller (chapter 9) -/

/-- The cut states (R160). -/
inductive CutState where
  | config | ready | engaging | cutting | lifting | holdSoft | holdHard
  deriving DecidableEq, Repr

/-- The hold causes (R161). -/
inductive HoldCause where
  | request | silence | silenceEscalated | refLost | drumStall | timeout | stop | supply
  deriving DecidableEq, Repr

/-- The model's own: whether the last good telegram was taken just ahead of a silence expiry that was due, and whether
it was then a JOG that was taken, which R188 lets the expiry follow (log 38). -/
inductive Overtaken where
  | no | byTelegram | byJog
  deriving DecidableEq, Repr

/-- What the CSC owns. `stateTimer` is none when stopped. `stallHanded` and `cutoffHanded` are the model's own: a
hand-over that the CSC has not applied yet (log 3); so is `overtaken` (log 38). -/
structure Csc where
  state        : CutState
  cause        : Option HoldCause
  stateTimer   : Option Nat
  silenceLeft  : Nat
  overtaken    : Overtaken
  commissioned : Bool
  stallHanded  : Bool
  cutoffHanded : Bool
  deriving DecidableEq, Repr

/-! ### Valve Output Stage (chapter 10) -/

/-- The owners of a leg output (R184). -/
inductive Owner where
  | none | loop | jog
  deriving DecidableEq, Repr

/-- A leg output. -/
structure Leg where
  owner   : Owner
  held    : Int
  jogLeft : Nat
  deriving DecidableEq, Repr

/-- What the VOS owns; `supply` is the supply value of the latest sample set. -/
structure Vos where
  legs         : Sides Leg
  beltHeld     : Nat
  supply       : Nat
  low          : Bool
  lowCount     : Nat
  recoverCount : Nat
  cutoffCount  : Nat
  deriving DecidableEq, Repr

/-! ### Link Interface (chapter 11) -/

/-- The receiver states (R197). -/
inductive RxState where
  | hunt | length | header | body | check
  deriving DecidableEq, Repr

/-- A telegram formed by the part. `dropAfter` is the model's own: a request was dropped after the telegram was
formed (R200). -/
structure Telegram where
  kind      : Byte
  tag       : Byte
  payload   : List Byte
  dropAfter : Bool
  deriving DecidableEq, Repr

/-- The event table (R209), bit i for source i; a set route bit is NOTICE; `cond` is the condition that the owner of a
level source holds. -/
structure Events where
  pending : EventWord
  enable  : EventWord
  route   : EventWord
  cond    : EventWord
  deriving DecidableEq, Repr

/-- What the LI owns. `sending` is the telegram on LINK_TX; `buf` holds the bytes taken after the sync byte. -/
structure Li where
  straps      : Straps
  rx          : RxState
  buf         : List Byte
  gapLeft     : Nat
  replies     : List Telegram
  notice      : Bool
  status      : Option Telegram
  sending     : Option Telegram
  dropped     : Bool
  statusTimer : Option Nat
  events      : Events
  restarting  : Bool
  deriving DecidableEq, Repr

/-! ### Configuration records -/

/-- One gain set of a SIDE record. -/
structure Gains where
  kp   : Nat
  ki   : Nat
  ilim : Nat
  umax : Nat
  deriving DecidableEq, Repr

/-- A SIDE record (section 3.7). -/
structure SideRec where
  mode       : SideMode
  minMembers : Nat
  rebaseRate : Nat
  deadband   : Nat
  normal     : Gains
  hard       : Gains
  vmin       : Nat
  engageTol  : Nat
  farTol     : Nat
  deriving DecidableEq, Repr

/-- The PLAN record (section 4.7). -/
structure PlanRec where
  maxSlope   : Nat
  engageRate : Nat
  liftRate   : Nat
  clearance  : Nat
  maxDepth   : Nat
  lowMark    : Nat
  timeLimit  : Nat
  deriving DecidableEq, Repr

/-- The BELT record (section 7.8). -/
structure BeltRec where
  length : Nat
  cap    : Nat
  fill   : Nat
  vmin   : Nat
  vmax   : Nat
  vfull  : Nat
  kb     : Nat
  fixed  : Nat
  deriving DecidableEq, Repr

/-- The LIMITS record (section 6.7). -/
structure LimitsRec where
  vmax        : Nat
  vminAdv     : Nat
  creep       : Nat
  ls          : Nat
  lh          : Nat
  gain        : Nat
  offset      : Nat
  hardOn      : Nat
  hardOff     : Nat
  classLock   : Nat
  classUnlock : Nat
  width       : Nat
  deriving DecidableEq, Repr

/-- The polarities of an output (R189). -/
inductive Polarity where
  | normal | swapped
  deriving DecidableEq, Repr

/-- The OUTPUT record of a leg (section 10.5). -/
structure OutRec where
  imax     : Nat
  polarity : Polarity
  deriving DecidableEq, Repr

/-- The LINK record (R205). -/
structure LinkRec where
  silence : Nat
  period  : Nat
  deriving DecidableEq, Repr

/-- The records that are not one channel's. BELT_DRV's polarity is NORMAL alone (R194), so only its Imax is held. -/
structure Records where
  side        : Sides SideRec
  plan        : PlanRec
  pulse       : Pulses PulseRec
  dirPolarity : DirPolarity
  drumMin     : Nat
  belt        : BeltRec
  limits      : LimitsRec
  out         : Sides OutRec
  beltImax    : Nat
  link        : LinkRec
  lowLevel    : Nat
  deriving DecidableEq, Repr

/-- The pins the part reads; `resetHeld` is RESETn held low. -/
structure Pins where
  stop      : Bool
  resetHeld : Bool
  travelDir : Bool
  pulse     : Pulses Bool
  cfg       : Straps
  deriving DecidableEq, Repr

/-- The whole part, and the commands that wait (first in, first out). -/
structure State where
  pins    : Pins
  cfg     : Records
  sfe     : Sfe
  pcu     : Pcu
  sru     : Sru
  pt      : Pt
  dlu     : Sides Loop
  dlm     : Dlm
  btq     : Btq
  tlu     : Tlu
  csc     : Csc
  vos     : Vos
  li      : Li
  pending : List Instr
  deriving DecidableEq, Repr

/-- The DL24 has no fault: every event has an outcome in every cut state. No meaning ends in one. -/
inductive Fault where
  deriving DecidableEq, Repr

/-- The reasons a command is refused by the model. -/
inductive Refusal where
  /-- Raised by exec alone, for a command that has no meaning yet; safe: no claim can be proved of its effect. -/
  | notModelled (mnemonic : String)
  deriving DecidableEq, Repr

/-! ### The state after reset -/

/-- R8: the default table, y_i = 512 i − 2048. -/
def defaultTable : List Int := [-2048, -1536, -1024, -512, 0, 512, 1024, 1536, 2048]

/-- R10, R23, R24: a channel after reset. -/
def Channel.reset : Channel where
  cfg := { role := .unused, side := .left, trim := 0, lockN := 8, unlockN := 3, tol := 40, zero := 0 }
  table := defaultTable
  qual := .unqualified
  lock := 0
  unlock := 0
  cmp := none
  accepted := 0
  subst := none
  raw := 0
  trimmed := 0
  lin := 0
  fault := false

/-- R51: a side reading after reset. -/
def SideRef.reset : SideRef where
  heightSet := []
  members := []
  ref := .lost
  avg := 0
  depth := 0
  tracking := .track
  leftLost := false

/-- R100: a side of the DLU after reset. -/
def Loop.reset : Loop where
  sp := 0
  acc := 0
  integ := 0
  gain := .normal
  err := 0
  u := 0
  drive := 0
  settle := 0
  far := false

/-- R67: a window slot after reset. -/
def Window.reset : Window where
  valid := false
  entered := false
  start := 0
  length := 0
  lead := 0
  lift := 0

/-- The defaults of a SIDE record (section 3.7). -/
def SideRec.reset : SideRec where
  mode := .depth
  minMembers := 1
  rebaseRate := 5
  deadband := 3
  normal := { kp := 24, ki := 40, ilim := 300, umax := 800 }
  hard := { kp := 32, ki := 56, ilim := 400, umax := 900 }
  vmin := 150
  engageTol := 10
  farTol := 60

/-- Every strap low. DESIGN CHOICE (log 8): the pins' levels before any command; unsafe. -/
def Straps.low : Straps := ⟨false, false, false, false⟩

/-- The defaults of the records; the fields a strap sets stand for all straps low (R116, R52). -/
def Records.reset : Records where
  side := ⟨SideRec.reset, SideRec.reset⟩
  plan := { maxSlope := 30, engageRate := 2, liftRate := 4, clearance := 200, maxDepth := 3500, lowMark := 4,
            timeLimit := 20 }
  pulse := ⟨⟨.rising, 1, 1000⟩, ⟨.rising, 1, 500⟩, ⟨.rising, 1, 60⟩⟩
  dirPolarity := .highForward
  drumMin := 40
  belt := { length := 12800, cap := 40, fill := 60, vmin := 500, vmax := 4000, vfull := 4500, kb := 16, fixed := 2500 }
  limits := { vmax := 250, vminAdv := 40, creep := 50, ls := 600, lh := 950, gain := 8, offset := 800, hardOn := 700,
              hardOff := 550, classLock := 6, classUnlock := 4, width := 1000 }
  out := ⟨⟨1000, .normal⟩, ⟨1000, .normal⟩⟩
  beltImax := 1500
  link := { silence := 6, period := 100 }
  lowLevel := 1

/-- The machine right after a power-on reset with every strap low and STOP released (log 8). PLAN_LOW's condition is
true with its default low mark, so it has latched (R73, R209). -/
def State.reset : State where
  pins := { stop := false, resetHeld := false, travelDir := true, pulse := ⟨false, false, false⟩, cfg := Straps.low }
  cfg := Records.reset
  sfe := { chans := Chans.of fun _ => Channel.reset, capture := none, scanLeft := 10 }
  pcu := { count := ⟨0, 0, 0⟩, station := 0, high := 0, travelRem := 0, beltRem := 0, travelSum := 0, beltSum := 0,
           drumSum := 0, travelSpeed := 0, beltSpeed := 0, drumSpeed := 0, stall := 0, forward := true,
           speedLeft := 100, drumLeft := 500 }
  sru := { sides := ⟨SideRef.reset, SideRef.reset⟩, modeChanged := false, slope := none }
  pt := { list := [], windows := ⟨Window.reset, Window.reset, Window.reset, Window.reset⟩, armed := false }
  dlu := ⟨Loop.reset, Loop.reset⟩
  dlm := { load := 0, usable := false, winSum := 0, winCount := 0, lastMean := 0, hardCount := 0, softCount := 0,
           auto := .soft, mode := .auto, manual := .soft }
  btq := { segs := List.replicate 32 ⟨0, .next⟩, acc := 0, carry := 0, openBin := 0, bins := List.replicate 10 0,
           mode := .stop, spB := 0, drive := 0, stall := 0, stalled := false, paused := false, intakeTotal := 0,
           lostTotal := 0 }
  tlu := { current := none, next := none, log := [], closedTotal := 0 }
  csc := { state := .config, cause := none, stateTimer := none, silenceLeft := 1024, overtaken := .no,
           commissioned := false, stallHanded := false, cutoffHanded := false }
  vos := { legs := ⟨⟨.none, 0, 0⟩, ⟨.none, 0, 0⟩⟩, beltHeld := 0, supply := 0, low := false, lowCount := 0,
           recoverCount := 0, cutoffCount := 0 }
  li := { straps := Straps.low, rx := .hunt, buf := [], gapLeft := 0, replies := [], notice := false, status := none,
          sending := none, dropped := false, statusTimer := some 100,
          events := { pending := 1#25 <<< 7, enable := BitVec.allOnes 25, route := 0#25, cond := 1#25 <<< 7 },
          restarting := false }
  pending := []

end Sys2Proof.Machine
end

