-- ==== Sys2Proof/Machine/Ops.lean ====
section
/-! DEFINITION. The named operations every block is written with: the manual's arithmetic (section "Arithmetic" of file
00), and one update per block of the state. -/

namespace Sys2Proof

/-- The channel numbered i on the link, if there is one. -/
def Chan.ofNat? : Nat → Option Chan
  | 0 => some .a0 | 1 => some .a1 | 2 => some .a2 | 3 => some .a3
  | 4 => some .a4 | 5 => some .a5 | 6 => some .a6 | 7 => some .a7
  | _ => none

/-- The number of a channel on the link. -/
def Chan.num : Chan → Nat
  | .a0 => 0 | .a1 => 1 | .a2 => 2 | .a3 => 3 | .a4 => 4 | .a5 => 5 | .a6 => 6 | .a7 => 7

/-- The side numbered i on the link: 0 LEFT, 1 RIGHT. -/
def Side.ofNat? : Nat → Option Side
  | 0 => some .left
  | 1 => some .right
  | _ => none

end Sys2Proof

namespace Sys2Proof.Machine

/-- "x limited to a..b". -/
def clamp (a b x : Int) : Int := if x < a then a else if b < x then b else x

/-- "x limited to a..b" for a value that is never negative. -/
def clampNat (a b x : Nat) : Nat := if x < a then a else if b < x then b else x

/-- "x moves toward t by at most d". -/
def moveToward (t : Int) (d : Nat) (x : Int) : Int :=
  if (t - x).natAbs ≤ d then t else if x < t then x + d else x - d

/-- A quotient rounded up. -/
def ceilDiv (a b : Nat) : Nat := (a + (b - 1)) / b

/-- Update of the pins. -/
def State.mapPins (f : Pins → Pins) (s : State) : State := { s with pins := f s.pins }
/-- Update of the records. -/
def State.mapCfg (f : Records → Records) (s : State) : State := { s with cfg := f s.cfg }
/-- Update of the SFE. -/
def State.mapSfe (f : Sfe → Sfe) (s : State) : State := { s with sfe := f s.sfe }
/-- Update of the PCU. -/
def State.mapPcu (f : Pcu → Pcu) (s : State) : State := { s with pcu := f s.pcu }
/-- Update of the SRU. -/
def State.mapSru (f : Sru → Sru) (s : State) : State := { s with sru := f s.sru }
/-- Update of the PT. -/
def State.mapPt (f : Pt → Pt) (s : State) : State := { s with pt := f s.pt }
/-- Update of the DLU. -/
def State.mapDlu (f : Sides Loop → Sides Loop) (s : State) : State := { s with dlu := f s.dlu }
/-- Update of the DLM. -/
def State.mapDlm (f : Dlm → Dlm) (s : State) : State := { s with dlm := f s.dlm }
/-- Update of the BTQ. -/
def State.mapBtq (f : Btq → Btq) (s : State) : State := { s with btq := f s.btq }
/-- Update of the TLU. -/
def State.mapTlu (f : Tlu → Tlu) (s : State) : State := { s with tlu := f s.tlu }
/-- Update of the CSC. -/
def State.mapCsc (f : Csc → Csc) (s : State) : State := { s with csc := f s.csc }
/-- Update of the VOS. -/
def State.mapVos (f : Vos → Vos) (s : State) : State := { s with vos := f s.vos }
/-- Update of the LI. -/
def State.mapLi (f : Li → Li) (s : State) : State := { s with li := f s.li }

/-- Update of one channel. -/
def State.mapChan (i : Chan) (f : Channel → Channel) (s : State) : State :=
  s.mapSfe fun b => { b with chans := b.chans.set i (f (b.chans.get i)) }

/-- The active states (R160). -/
def CutState.active : CutState → Bool
  | .config | .ready => false
  | .engaging | .cutting | .lifting | .holdSoft | .holdHard => true

/-- The states in which every output is forced neutral (R185). -/
def CutState.neutral : CutState → Bool
  | .config | .holdHard => true
  | .ready | .engaging | .cutting | .lifting | .holdSoft => false

/-- The states in which the loop law runs for an output of owner LOOP (R90). -/
def CutState.loops : CutState → Bool
  | .engaging | .cutting | .lifting | .holdSoft => true
  | .config | .ready | .holdHard => false

/-- The states in which a high-water advance takes in material (R121). -/
def CutState.takesIn : CutState → Bool
  | .cutting | .lifting | .holdSoft => true
  | .config | .ready | .engaging | .holdHard => false

end Sys2Proof.Machine
end

