-- ==== Sys2Proof/Machine/Operands.lean ====
section
/-! DEFINITION. The operands of requests and the bytes of replies: byte order and sign (R199, R203), the check of fields
in field order, and the reply payloads (R200). -/

namespace Sys2Proof.Machine

/-- A two-byte unsigned value, low byte first. -/
def u16 (a b : Byte) : Nat := a.toNat + 256 * b.toNat

/-- A two-byte signed value, low byte first. -/
def s16 (a b : Byte) : Int := if u16 a b < 32768 then (u16 a b : Int) else (u16 a b : Int) - 65536

/-- A four-byte unsigned value, low byte first. -/
def u32 (a b c d : Byte) : Nat := a.toNat + 256 * b.toNat + 65536 * c.toNat + 16777216 * d.toNat

/-- The n low bytes of a number, low byte first. -/
def le : Nat → Nat → List Byte
  | 0, _ => []
  | n + 1, v => BitVec.ofNat 8 v :: le n (v / 256)

/-- The n low bytes of a signed number in two's complement, low byte first. -/
def leInt (n : Nat) (v : Int) : List Byte := le n (v % (256 ^ n : Nat)).toNat

/-- The two-byte fields of a record in field order, signed where the sign list says so (R203). -/
def readFields : List Bool → List Byte → List Int
  | sg :: sgs, a :: b :: rest => (if sg then s16 a b else (u16 a b : Int)) :: readFields sgs rest
  | _, _ => []

/-- Whether a value lies in lo..hi. -/
def within (lo hi x : Int) : Bool := decide (lo ≤ x) && decide (x ≤ hi)

/-- The index of the first check that fails, counted from i. -/
def firstBad : Nat → List Bool → Option Nat
  | _, [] => none
  | i, ok :: rest => if ok then firstBad (i + 1) rest else some i

/-- A reply payload: the reason code and what follows it (R200). -/
abbrev Reply := List Byte

/-- OK with the result of the kind. -/
def replyOk (result : List Byte) : Reply := 0x00#8 :: result
/-- ACCEPTED. -/
def replyAccepted : Reply := [0x01#8]
/-- UNKNOWN. -/
def replyUnknown : Reply := [0x10#8]
/-- LENGTH. -/
def replyLength : Reply := [0x11#8]
/-- FIELD with the field index. -/
def replyField (i : Nat) : Reply := [0x12#8, BitVec.ofNat 8 i]
/-- MODE. -/
def replyMode : Reply := [0x13#8]
/-- BUSY. -/
def replyBusy : Reply := [0x14#8]
/-- PREREQUISITE. -/
def replyPrerequisite : Reply := [0x15#8]
/-- FULL with the position of the first record that does not fit. -/
def replyFull (p : Nat) : Reply := [0x16#8, BitVec.ofNat 8 p]
/-- ORDER with the position of the first record that fails, 0 where the rule names none. -/
def replyOrder (p : Nat) : Reply := [0x17#8, BitVec.ofNat 8 p]
/-- INCOMPLETE with the section id and the item number. -/
def replyIncomplete (sec item : Nat) : Reply := [0x18#8, BitVec.ofNat 8 sec, BitVec.ofNat 8 item]

end Sys2Proof.Machine
end

