-- ==== Sys2Proof/Machine/Flags.lean ====
section
/-! DEFINITION. The event table (R209, R210): edge sources raise, level sources hold a condition, the LI latches and
queues a notice. -/

namespace Sys2Proof.Machine

/-- The event sources 0..24, in the order of the table of section 11.7. -/
inductive EventSrc where
  | refDegradedL | refDegradedR | refLostL | refLostR | channelFault | zeroDone | zeroFailed | planLow | planEnd
  | windowEntered | windowPassed | engageDone | liftDone | stateTimeout | holdEntered | linkSilence | supplyLow
  | stopActive | drumStall | beltStall | materialHard | truckClosing | truckClosed | beltPaused | spill
  deriving DecidableEq, Repr

/-- The id of a source. -/
def EventSrc.id : EventSrc → Nat
  | .refDegradedL => 0 | .refDegradedR => 1 | .refLostL => 2 | .refLostR => 3 | .channelFault => 4
  | .zeroDone => 5 | .zeroFailed => 6 | .planLow => 7 | .planEnd => 8 | .windowEntered => 9
  | .windowPassed => 10 | .engageDone => 11 | .liftDone => 12 | .stateTimeout => 13 | .holdEntered => 14
  | .linkSilence => 15 | .supplyLow => 16 | .stopActive => 17 | .drumStall => 18 | .beltStall => 19
  | .materialHard => 20 | .truckClosing => 21 | .truckClosed => 22 | .beltPaused => 23 | .spill => 24

/-- The level sources of the event table: 0 to 4, 7, 16, 17, 19, 20 and 23. -/
def levelSources : EventWord := 0x9B009F#25

/-- The mark of source number i in a word. -/
def markBit (i : Nat) : EventWord := 1#25 <<< i

/-- Whether source number i is marked in a word. -/
def marked (w : EventWord) (i : Nat) : Bool := w.getLsbD i

/-- A word with the mark of source number i set or cleared. -/
def setMark (w : EventWord) (i : Nat) (b : Bool) : EventWord :=
  if b then w ||| markBit i else w &&& ~~~(markBit i)

/-- Source number i becomes pending; a transition from not pending fills the notice slot when it is routed NOTICE
(R210). -/
def latch (i : Nat) (s : State) : State :=
  if marked s.li.events.pending i then s
  else s.mapLi fun l =>
    { l with events := { l.events with pending := l.events.pending ||| markBit i },
             notice := l.notice || marked l.events.route i }

/-- An occurrence of an edge source (R209). -/
def raise (e : EventSrc) (s : State) : State :=
  if marked s.li.events.enable e.id then latch e.id s else s

/-- The owner of a level source holds its condition true or false (R209). -/
def setCond (e : EventSrc) (b : Bool) (s : State) : State :=
  let s1 := s.mapLi fun l => { l with events := { l.events with cond := setMark l.events.cond e.id b } }
  if b && marked s.li.events.enable e.id then latch e.id s1 else s1

/-- Whether a source is pending. -/
def isPending (e : EventSrc) (s : State) : Bool := marked s.li.events.pending e.id

/-- Whether the condition of a level source is true. -/
def condition (e : EventSrc) (s : State) : Bool := marked s.li.events.cond e.id

end Sys2Proof.Machine
end

