-- ==== Sys2Proof/Machine/Sensor.lean ====
section
/-! DEFINITION. The Sensor Front End (chapter 1): trim, raw fault, linearisation, qualification, substitution and the
ZERO capture. -/

namespace Sys2Proof.Machine

/-- R5: the trimmed value. -/
def trimmedValue (k : Int) (r : Nat) : Nat := (clamp 0 4095 ((r : Int) + 2 * k)).toNat

/-- R6: a raw fault. -/
def rawFault (r : Nat) : Bool := decide (r ≤ 8) || decide (4087 ≤ r)

/-- Point i of a table. -/
def tablePoint (t : List Int) (i : Nat) : Int := t.getD i 0

/-- R7: the linearised value of a trimmed value. -/
def linearise (t : List Int) (c : Nat) : Int :=
  let i := c / 512
  let f : Int := (c : Int) - 512 * (i : Int)
  tablePoint t i + (tablePoint t (i + 1) - tablePoint t i) * f / 512

/-- R2: the supply value of a raw value of S. -/
def supplyValue (r : Nat) : Nat := r * 25 / 256

/-- Whether a value is within a channel's jump tolerance of another. -/
def Channel.near (c : Channel) (v w : Int) : Bool := decide ((v - w).natAbs ≤ c.cfg.tol)

/-- The readings of a new sample, before it is judged (R5 to R7). -/
def Channel.read (r : Nat) (c : Channel) : Channel :=
  let t := trimmedValue c.cfg.trim r
  { c with raw := r, trimmed := t, lin := linearise c.table t, fault := rawFault r }

/-- R11: the judgement of a sample in QUALIFIED. -/
def Channel.judgeQualified (c : Channel) : Channel :=
  if !c.fault && c.near c.lin c.accepted then { c with accepted := c.lin, unlock := 0 }
  else if c.cfg.unlockN ≤ c.unlock + 1 then
    { c with qual := .unqualified, lock := 0, unlock := 0, cmp := some c.lin }
  else { c with unlock := c.unlock + 1 }

/-- R12: the judgement of a sample in UNQUALIFIED. -/
def Channel.judgeUnqualified (c : Channel) : Channel :=
  match c.cmp with
  | none => { c with cmp := some c.lin }
  | some w =>
    if !c.fault && c.near c.lin w then
      if c.cfg.lockN ≤ c.lock + 1 then
        { c with qual := .qualified, accepted := c.lin, lock := 0, unlock := 0, cmp := some c.lin }
      else { c with lock := c.lock + 1, cmp := some c.lin }
    else { c with lock := 0, cmp := some c.lin }

/-- A channel worked through one sample set (R1): trim, raw fault, linearisation, qualification. -/
def Channel.sample (r : Nat) (c : Channel) : Channel :=
  let d := c.read r
  match d.qual with
  | .qualified => d.judgeQualified
  | .unqualified => d.judgeUnqualified

/-- R15: the published state. -/
def Channel.pubState (c : Channel) : PubState :=
  match c.subst with
  | some _ => .substituted
  | none => match c.qual with
    | .qualified => .qualified
    | .unqualified => .unqualified

/-- R15: the published value. -/
def Channel.pubValue (c : Channel) : Int :=
  match c.subst with
  | some v => v
  | none => c.accepted

/-- Whether a channel's published state is QUALIFIED or SUBSTITUTED. -/
def Channel.usable (c : Channel) : Bool := c.pubState != .unqualified

/-- R42: a member's contribution. -/
def Channel.contribution (c : Channel) : Int := c.pubValue - c.cfg.zero

/-- R4: the restart of a channel's qualification. -/
def Channel.requalify (c : Channel) : Channel :=
  { c with qual := .unqualified, lock := 0, unlock := 0, cmp := none, accepted := 0 }

/-- The channels that satisfy a test, in increasing order. -/
def channelsWith (cs : Chans Channel) (p : Channel → Bool) : List Chan := Chan.all.filter fun i => p (cs.get i)

/-- R39: the HEIGHT set of a side. -/
def heightSet (cs : Chans Channel) (side : Side) : List Chan :=
  channelsWith cs fun c => c.cfg.role == .height && c.cfg.side == side

/-- R14: an assigned channel is UNQUALIFIED underneath. -/
def channelFault (cs : Chans Channel) : Bool :=
  Chan.all.any fun i => (cs.get i).cfg.role != .unused && (cs.get i).qual == .unqualified

/-- R14: the CHANNEL_FAULT condition is evaluated. -/
def judgeChannelFault (s : State) : State := setCond .channelFault (channelFault s.sfe.chans) s

/-- Whether a channel is one of those of a capture. -/
def Capture.involves (c : Capture) (i : Chan) : Bool := c.sums.any fun p => p.1 == i

/-- Whether a capture in flight involves one of these channels. -/
def captureInvolves (s : State) (is : List Chan) : Bool :=
  match s.sfe.capture with
  | none => false
  | some c => is.any fun i => c.involves i

/-- R20: the zero that a completed capture gives a channel. -/
def capturedZero (sum depthNow : Int) : Int := clamp (-20000) 20000 (sum / 32 - depthNow)

/-- R20: the zeros of the channels of a capture. -/
def writeZeros (depthNow : Int) (cs : Chans Channel) : List (Chan × Int) → Chans Channel
  | [] => cs
  | (i, sum) :: rest =>
    let c := cs.get i
    writeZeros depthNow (cs.set i { c with cfg := { c.cfg with zero := capturedZero sum depthNow } }) rest

/-- R20: a capture that has counted 32 sample sets completes. -/
def completeCapture (s : State) : State :=
  match s.sfe.capture with
  | none => s
  | some c =>
    if 32 ≤ c.count then
      raise .zeroDone (s.mapSfe fun b => { b with chans := writeZeros c.depthNow b.chans c.sums, capture := none })
    else s

/-- R21: an occurrence that fails a capture in flight; nothing without one. A capture whose 32nd sample set has been
taken has completed and cannot fail: a completion that was left due (log 3) is carried out instead. -/
def failCapture (s : State) : State :=
  match s.sfe.capture with
  | none => s
  | some c =>
    if 32 ≤ c.count then completeCapture s else raise .zeroFailed (s.mapSfe fun b => { b with capture := none })

/-- R20: a capture in flight counts the sample set, with the published values of that sample set. -/
def countCapture (s : State) : State :=
  s.mapSfe fun b =>
    { b with capture := b.capture.map fun c =>
        { c with sums := c.sums.map fun p => (p.1, p.2 + (b.chans.get p.1).pubValue), count := c.count + 1 } }

/-- R18: every substitute becomes absent. -/
def removeSubstitutes (s : State) : State :=
  s.mapSfe fun b => { b with chans := Chans.of fun i => { b.chans.get i with subst := none } }

/-- R1: the scan is worked through every channel; the supply value is published (R2). -/
def scanChannels (scan : Scan) (s : State) : State :=
  judgeChannelFault ((s.mapSfe fun b =>
    { b with chans := Chans.of fun i => (b.chans.get i).sample (scan.chans.get i).toNat, scanLeft := 10 }).mapVos
      fun v => { v with supply := supplyValue scan.supply.toNat })

/-- The channels whose underlying state becomes UNQUALIFIED between two sets of channels (R21). -/
def newlyUnqualified (before after : Chans Channel) : List Chan :=
  Chan.all.filter fun i => (before.get i).qual == .qualified && (after.get i).qual == .unqualified

end Sys2Proof.Machine
end

