-- ==== Sys2Proof/Machine/Reference.lean ====
section
/-! DEFINITION. The Side Reference Unit (chapter 3): membership, reference state, side average, measured depth. -/

namespace Sys2Proof.Machine

/-- R40: the reference state from n, a and min members. -/
def refState (n a minMembers : Nat) : RefState :=
  if n < minMembers then .lost else if n < a then .degraded else .full

/-- R42: the side average over the members; without one the last average stands. -/
def sideAverage (cs : Chans Channel) (members : List Chan) (last : Int) : Int :=
  match members with
  | [] => last
  | _ => clamp (-5000) 5000 ((members.map fun i => (cs.get i).contribution).sum / (members.length : Int))

/-- R39: the member set. -/
def memberSet (cs : Chans Channel) (set : List Chan) : List Chan := set.filter fun i => (cs.get i).usable

/-- R43 to R46: the measured depth and tracking state of a side in DEPTH mode, from the reading before and what has been
worked out at this sample set. `wasLost` is R46's "LOST at the sample set before", or R50's "as if". -/
def depthTrack (prev : SideRef) (wasLost : Bool) (rate : Nat) (new : SideRef) : SideRef :=
  if new.ref = .lost then { new with depth := prev.depth, tracking := .track, leftLost := false }
  else if wasLost then { new with depth := new.avg, tracking := .track, leftLost := true }
  else if prev.tracking = .rebase ∨ new.members ≠ prev.members then
    let m := moveToward new.avg rate prev.depth
    { new with depth := m, tracking := if m = new.avg then .track else .rebase, leftLost := false }
  else { new with depth := new.avg, tracking := .track, leftLost := false }

/-- R38: the reading of a side in DEPTH mode. -/
def depthReading (cs : Chans Channel) (rec : SideRec) (side : Side) (wasLost : Bool) (prev : SideRef) : SideRef :=
  let set := heightSet cs side
  let members := memberSet cs set
  depthTrack prev wasLost rec.rebaseRate
    { prev with heightSet := set, members := members,
                ref := refState members.length set.length rec.minMembers, avg := sideAverage cs members prev.avg }

/-- R47, R53: the slope channel and its published value, when exactly one channel has role SLOPE. -/
def slopeChannel (cs : Chans Channel) : Option (Chan × Int) :=
  match channelsWith cs fun c => c.cfg.role == .slope with
  | [i] => some (i, (cs.get i).pubValue)
  | _ => none

/-- R48: RIGHT's reference state in SLOPE mode. -/
def slopeRef (cs : Chans Channel) (left : RefState) : RefState :=
  match slopeChannel cs with
  | none => .lost
  | some (i, _) => if (cs.get i).usable then left else .lost

/-- R49: RIGHT's measured depth in SLOPE mode. -/
def slopeDepth (leftDepth s : Int) (width : Nat) : Int := clamp (-5000) 5000 (leftDepth + s * (width : Int) / 1000)

/-- R47 to R50: the reading of RIGHT in SLOPE mode. Where RIGHT is not LOST its tracking state is TRACK at the first
sample set after a change of the mode (R50; log 16), and otherwise LEFT's (R49). Where RIGHT is LOST the manual gives its
tracking state in DEPTH mode alone (R45): TRACK here too is the model's choice (DESIGN CHOICE, log 39). -/
def slopeReading (cs : Chans Channel) (width : Nat) (left : SideRef) (modeChanged : Bool) (prev : SideRef) : SideRef :=
  let set := heightSet cs .right
  let ref := slopeRef cs left.ref
  let new := { prev with heightSet := set, members := memberSet cs set, ref := ref }
  if ref = .lost then { new with tracking := .track, leftLost := false }
  else
    let s : Int := match slopeChannel cs with
      | some (_, v) => v
      | none => 0
    { new with depth := slopeDepth left.depth s width, tracking := if modeChanged then .track else left.tracking,
               leftLost := modeChanged || prev.ref == .lost }

/-- R38: both sides, LEFT first. -/
def sideReadings (s : State) : Sides SideRef :=
  let cs := s.sfe.chans
  let prev := s.sru.sides
  let left := depthReading cs s.cfg.side.left .left (prev.left.ref == .lost) prev.left
  let right := match s.cfg.side.right.mode with
    | .depth => depthReading cs s.cfg.side.right .right (s.sru.modeChanged || prev.right.ref == .lost) prev.right
    | .slope => slopeReading cs s.cfg.limits.width left s.sru.modeChanged prev.right
  ⟨left, right⟩

/-- R41: the four conditions of the reference states. -/
def judgeReferences (s : State) : State :=
  let l := s.sru.sides.left.ref
  let r := s.sru.sides.right.ref
  setCond .refLostR (r == .lost) (setCond .refLostL (l == .lost)
    (setCond .refDegradedR (r == .degraded) (setCond .refDegradedL (l == .degraded) s)))

/-- R38: the SRU's work at a sample set. The slope channel and its value are stored at every sample set in either mode,
so after a change of RIGHT's mode to SLOPE they read, until the next one, as at that sample set in DEPTH mode
(DESIGN CHOICE, log 35). -/
def readSides (s : State) : State :=
  judgeReferences (s.mapSru fun _ =>
    { sides := sideReadings s, modeChanged := false, slope := slopeChannel s.sfe.chans })

/-- R45, R171: whether a side enters LOST between two sets of readings. The stored reference states are compared, so
RIGHT that is LOST at the first sample set after a change of its mode, and was not LOST at its last reading, enters LOST
and hands the loss, although R50 works it out as if it had been LOST before (DESIGN CHOICE, log 34). -/
def entersLost (before after : Sides SideRef) : Bool :=
  (before.left.ref != .lost && after.left.ref == .lost) || (before.right.ref != .lost && after.right.ref == .lost)

/-- Whether either side is LOST at the latest sample set. -/
def anyLost (s : State) : Bool := s.sru.sides.left.ref == .lost || s.sru.sides.right.ref == .lost

end Sys2Proof.Machine
end

