-- ==== Sys2Proof/Machine/Belt.lean ====
section
/-! DEFINITION. The Belt Transit Queue and the Truck Loading Unit (chapters 7 and 8): intake, shifts, discharge, tags,
pause, closing, tallies, the belt speed law and the stall. -/

namespace Sys2Proof.Machine

/-! ### The queue -/

/-- The belt holding: the sum of the segment volumes. -/
def beltHolding (segs : List Segment) : Nat := (segs.map Segment.vol).sum

/-- The sum of the volumes of the CURRENT-tagged segments (R146). -/
def currentHolding (segs : List Segment) : Nat := ((segs.filter fun g => g.tag == .current).map Segment.vol).sum

/-- The segment length in mm (chapter 7). -/
def segLen (b : BeltRec) : Nat := b.length / 32

/-- The volume of the intake segment. -/
def intakeVolume (segs : List Segment) : Nat :=
  match segs with
  | [] => 0
  | g :: _ => g.vol

/-- Whether the current truck is LOADING. -/
def isLoading (t : Option Truck) : Bool := t.any fun x => x.state == .loading

/-- Whether the current truck is CLOSING. -/
def isClosing (t : Option Truck) : Bool := t.any fun x => x.state == .closing

/-- R128: the pause mark for the last segment and the current truck. -/
def pauseMark (t : Option Truck) (segs : List Segment) : Bool :=
  match segs.getLast? with
  | none => false
  | some g => decide (0 < g.vol) && !isLoading t && !(isClosing t && g.tag == .current)

/-- The belt drive handed to the VOS as the command of BELT_DRV (R131, R184). -/
def setBeltDrive (d : Nat) (s : State) : State :=
  (s.mapBtq fun b => { b with drive := d }).mapVos fun v => { v with beltHeld := d }

/-- R128, R131: the pause mark worked out, with its condition; a set mark brings the drive to 0 at once. -/
def workOutPause (s : State) : State :=
  let p := pauseMark s.tlu.current s.btq.segs
  let s1 := setCond .beltPaused p (s.mapBtq fun b => { b with paused := p })
  if p then setBeltDrive 0 s1 else s1

/-- Volume added to the lost total; SPILL when it is above 0 (R122, R126, R137). -/
def spillVolume (v : Nat) (s : State) : State :=
  let s1 := s.mapBtq fun b => { b with lostTotal := b.lostTotal + v }
  if 0 < v then raise .spill s1 else s1

/-! ### Trucks -/

/-- R146: the closing prediction. -/
def predictClosing (s : State) : State :=
  match s.tlu.current with
  | none => s
  | some t =>
    if t.state = .loading ∧ t.target ≤ t.delivered + currentHolding s.btq.segs then
      workOutPause (raise .truckClosing (s.mapTlu fun b => { b with current := some { t with state := .closing } }))
    else s

/-- R152, R154: the tally of the current truck is written, its delivered total joins the closed total, and the slot
becomes ABSENT. -/
def closeTruck (reason : CloseReason) (s : State) : State :=
  match s.tlu.current with
  | none => s
  | some t =>
    s.mapTlu fun b =>
      { b with current := none,
               log := ({ number := t.number, target := t.target, delivered := t.delivered, opened := t.opened,
                         closed := s.pcu.station, reason := reason } :: b.log).take 8,
               closedTotal := b.closedTotal + t.delivered }

/-- R147: the close FULL judged at a shift. -/
def judgeClose (s : State) : State :=
  if isClosing s.tlu.current && !(s.btq.segs.any fun g => g.tag == .current && decide (0 < g.vol)) then
    workOutPause (raise .truckClosed (closeTruck .full s))
  else s

/-- R127: every segment of one tag turned to the other. -/
def retag (a b : Tag) (segs : List Segment) : List Segment :=
  segs.map fun g => if g.tag = a then { g with tag := b } else g

/-! ### Shifts and discharge -/

/-- The volume of the discharge segment. -/
def lastVolume (segs : List Segment) : Nat :=
  match segs.getLast? with
  | none => 0
  | some g => g.vol

/-- R126: the volume of the discharge segment goes to the current truck or to the lost total. The segment itself leaves
the queue at the move of the same shift. -/
def discharge (s : State) : State :=
  let v := lastVolume s.btq.segs
  match s.tlu.current with
  | some t => s.mapTlu fun b => { b with current := some { t with delivered := t.delivered + v } }
  | none => spillVolume v s

/-- R125 steps 2 and 3: every segment moves one index; the new segment 0 is empty under the intake tag rule. -/
def moveSegments (t : Option Truck) (segs : List Segment) : List Segment :=
  ⟨0, if isLoading t then .current else .next⟩ :: segs.dropLast

/-- R125: one shift. -/
def shift (s : State) : State :=
  let s1 := discharge s
  workOutPause (judgeClose (s1.mapBtq fun b => { b with segs := moveSegments s1.tlu.current b.segs }))

/-- n shifts, one after another. -/
def shifts : Nat → State → State
  | 0, s => s
  | n + 1, s => shifts n (shift s)

/-- R124: belt travel of d mm. -/
def beltTravel (d : Nat) (s : State) : State :=
  let acc := s.btq.acc + d
  let len := segLen s.cfg.belt
  shifts (acc / len) (s.mapBtq fun b => { b with acc := acc % len })

/-! ### Intake -/

/-- R121: the depth of a side that the intake uses. -/
def intakeDepth (r : SideRef) (l : Loop) : Int := if r.ref = .lost then l.sp else r.depth

/-- R121: the mean depth D of both sides. -/
def meanDepth (s : State) : Nat :=
  ((max 0 (intakeDepth s.sru.sides.left s.dlu.left) + max 0 (intakeDepth s.sru.sides.right s.dlu.right)) / 2).toNat

/-- R121: the quantity Q of an advance of Δ mm. -/
def intakeQuantity (delta : Nat) (s : State) : Nat :=
  s.cfg.limits.width * meanDepth s * delta + s.btq.carry

/-- Volume offered to segment 0 with saturation at a limit: the segments after, and what does not fit. -/
def offerVolume (limit v : Nat) (segs : List Segment) : List Segment × Nat :=
  match segs with
  | [] => ([], v)
  | g :: rest => ({ g with vol := min (g.vol + v) limit } :: rest, g.vol + v - limit)

/-- R122: a volume taken in, whole. -/
def takeIn (v carry : Nat) (s : State) : State :=
  let o := offerVolume (2 * s.cfg.belt.cap) v s.btq.segs
  predictClosing (spillVolume o.2 (s.mapBtq fun b =>
    { b with segs := o.1, carry := carry, intakeTotal := b.intakeTotal + v, openBin := b.openBin + v }))

/-- R121, R122: the intake of an advance, in the cut states that take in. -/
def intake (delta : Nat) (s : State) : State :=
  if s.csc.state.takesIn then
    let q := intakeQuantity delta s
    takeIn (q / Config.perDecilitre) (q % Config.perDecilitre) s
  else s

/-- The volume above a limit in all segments. -/
def excessVolume (limit : Nat) (segs : List Segment) : Nat := (segs.map fun g => g.vol - limit).sum

/-- R137: a new C is in force. -/
def applyCapacity (s : State) : State :=
  let limit := 2 * s.cfg.belt.cap
  predictClosing (workOutPause (spillVolume (excessVolume limit s.btq.segs) (s.mapBtq fun b =>
    { b with segs := b.segs.map fun g => { g with vol := min g.vol limit } })))

/-! ### Belt speed update -/

/-- The rate: the sum of the ten closed bins (R129). -/
def rate (b : Btq) : Nat := b.bins.sum

/-- R130: the belt setpoint formed for a belt mode. -/
def beltSetpoint (b : BeltRec) (mode : BeltMode) (r : Nat) : Nat :=
  match mode with
  | .stop => 0
  | .fixed => b.fixed
  | .follow => max (min (ceilDiv (r * segLen b) (b.cap * b.fill / 100)) b.vmax) b.vmin

/-- R131: the drive for a setpoint and a belt speed, when nothing holds it at 0. -/
def beltLaw (b : BeltRec) (sp v : Nat) : Nat :=
  (clamp 0 1000 ((sp : Int) * 1000 / (b.vfull : Int)
    + (b.kb : Int) * ((sp : Int) - (v : Int)) / 16)).toNat

/-- R129 step 1: the rate bins rotated. -/
def rotateBins (s : State) : State :=
  s.mapBtq fun b => { b with bins := (b.openBin :: b.bins).take 10, openBin := 0 }

/-- R132: the stall condition on a belt speed, with the setpoint and drive standing. -/
def stallCondition (b : Btq) (v : Nat) : Bool := decide (300 ≤ b.drive) && decide (v < b.spB / 10)

/-- R132: the belt is stalled. -/
def callBeltStall (s : State) : State :=
  setCond .beltStall true (setBeltDrive 0 (s.mapBtq fun b =>
    { b with stalled := true, mode := .stop, stall := 0, spB := 0 }))

/-- R132: a stall that has been counted is called. -/
def settleBeltStall (s : State) : State := if 20 ≤ s.btq.stall then callBeltStall s else s

/-- R132: whether a stall has been counted and not yet called (log 3). -/
def stallDue (b : Btq) : Bool := decide (20 ≤ b.stall)

/-- R129 step 2: the stall test; a stall is called with it unless it is left due (log 3). -/
def testBeltStall (apart : Bool) (s : State) : State :=
  let s1 := s.mapBtq fun b => { b with stall := if stallCondition b s.pcu.beltSpeed then b.stall + 1 else 0 }
  if apart then s1 else settleBeltStall s1

/-- R129 steps 3 and 4: the setpoint and the drive formed; under STOP and as 0 at the update that counts a stall, called
with it or left due (R132). -/
def formBeltDrive (s : State) : State :=
  let sp := beltSetpoint s.cfg.belt (if stallDue s.btq then .stop else s.btq.mode) (rate s.btq)
  let zero := s.btq.paused || s.btq.stalled || stallDue s.btq || s.csc.state.neutral
  setBeltDrive (if zero then 0 else beltLaw s.cfg.belt sp s.pcu.beltSpeed) (s.mapBtq fun b => { b with spB := sp })

/-- R129: the belt speed update. -/
def beltSpeedUpdate (apart : Bool) (s : State) : State := formBeltDrive (testBeltStall apart (rotateBins s))

/-! ### Terms of the ceiling -/

/-- R135: the belt term. -/
def beltTerm (b : Btq) (cap vmax : Nat) : Nat :=
  if b.stalled || decide (cap ≤ intakeVolume b.segs) || b.mode == .stop then 0 else vmax

/-- R156: the truck term. -/
def truckTerm (t : Tlu) (vmax : Nat) : Nat := if !isLoading t.current && t.next.isNone then 0 else vmax

end Sys2Proof.Machine
end

