-- ==== Sys2Proof/Machine/Load.lean ====
section
/-! DEFINITION. The Drum Load Monitor (chapter 6): load index, classification window, material class, load term. -/

namespace Sys2Proof.Machine

/-- R106: the pressure channel's published value, when exactly one channel has role PRESSURE and it is usable. -/
def pressure (cs : Chans Channel) : Option Int :=
  match channelsWith cs fun c => c.cfg.role == .pressure with
  | [i] => if (cs.get i).usable then some (cs.get i).pubValue else none
  | _ => none

/-- R107: the load index of a pressure. -/
def loadIndex (p : Int) (offset gain : Nat) : Nat :=
  (clamp 0 1000 ((p - (offset : Int)) * (gain : Int) / 16)).toNat

/-- R112: the material class. -/
def Dlm.material (d : Dlm) : Material :=
  match d.mode with
  | .auto => d.auto
  | .manual => d.manual

/-- R112: the MATERIAL_HARD condition worked out. -/
def judgeMaterial (s : State) : State := setCond .materialHard (s.dlm.material == .hard) s

/-- R110: the counters at a window close with this mean. -/
def moveCounters (mean : Nat) (l : LimitsRec) (d : Dlm) : Dlm :=
  if l.hardOn ≤ mean then { d with hardCount := min 15 (d.hardCount + 1), softCount := 0 }
  else if mean < l.hardOff then { d with hardCount := 0, softCount := min 7 (d.softCount + 1) }
  else { d with hardCount := 0, softCount := 0 }

/-- R111: the automatic class judged. -/
def judgeClass (l : LimitsRec) (d : Dlm) : Dlm :=
  if l.classLock ≤ d.hardCount then { d with auto := .hard }
  else if l.classUnlock ≤ d.softCount then { d with auto := .soft }
  else d

/-- R110, R111: the close of a classification window. -/
def Dlm.closeWindow (l : LimitsRec) (d : Dlm) : Dlm :=
  let mean := d.winSum / 50
  judgeClass l (moveCounters mean l { d with lastMean := mean, winSum := 0, winCount := 0 })

/-- R110: a window that has counted 50 sample sets closes. -/
def closeClassWindow (s : State) : State :=
  if 50 ≤ s.dlm.winCount then judgeMaterial (s.mapDlm (Dlm.closeWindow s.cfg.limits)) else s

/-- R106 to R109: the load usable mark, the load index and the window moved by one sample set. -/
def Dlm.sample (p : Option Int) (l : LimitsRec) (d : Dlm) : Dlm :=
  match p with
  | some x =>
    let load := loadIndex x l.offset l.gain
    { d with usable := true, load := load, winSum := d.winSum + load, winCount := d.winCount + 1 }
  | none => { d with usable := false, winSum := 0, winCount := 0 }

/-- The DLM's work at a sample set; a window that reaches 50 closes with it unless it is left due (log 3). -/
def sampleLoad (apart : Bool) (s : State) : State :=
  let s1 := s.mapDlm (Dlm.sample (pressure s.sfe.chans) s.cfg.limits)
  if apart then s1 else closeClassWindow s1

/-- R115: the load term of the advance ceiling. -/
def loadTerm (d : Dlm) (l : LimitsRec) : Nat :=
  if !d.usable then l.vminAdv
  else if l.lh ≤ d.load then 0
  else if d.load ≤ l.ls then l.vmax
  else
    ((l.vminAdv : Int) + ((l.vmax : Int) - (l.vminAdv : Int)) * ((l.lh : Int) - (d.load : Int))
      / ((l.lh : Int) - (l.ls : Int))).toNat

end Sys2Proof.Machine
end

