-- ==== Sys2Proof/Machine/Outputs.lean ====
section
/-! DEFINITION. The Valve Output Stage (chapter 10): owners, held commands, applied drives and currents, and the supply
monitor's counters. -/

namespace Sys2Proof.Machine

/-- R189, R192: the applied drive of a leg output. -/
def appliedDrive (low : Bool) (held : Int) : Int := if low then clamp (-700) 700 held else held

/-- The coils of a leg output (R195). -/
inductive Coil where
  | none | lower | raise
  deriving DecidableEq, Repr

/-- R189: the coil an applied drive energises: a positive drive lowers, whichever pin carries it. -/
def coil (applied : Int) : Coil := if 0 < applied then .lower else if applied < 0 then .raise else .none

/-- R189: whether the plus pin of a leg output carries the current. -/
def plusPin (p : Polarity) (applied : Int) : Bool :=
  match p with
  | .normal => decide (0 < applied)
  | .swapped => decide (applied < 0)

/-- R189: whether the minus pin of a leg output carries the current. -/
def minusPin (p : Polarity) (applied : Int) : Bool :=
  match p with
  | .normal => decide (applied < 0)
  | .swapped => decide (0 < applied)

/-- R189, R190: the current, in mA, of an applied drive. -/
def coilCurrent (applied : Int) (imax : Nat) : Nat := applied.natAbs * imax / 1000

/-- R185: the owner of a leg output after a change of the cut state. -/
def ownerAfter (old new : CutState) (o : Owner) : Owner :=
  match new with
  | .config => .none
  | .ready => .none
  | .engaging => if old = .ready then .loop else o
  | .holdHard => if old = .ready then .none else o
  | .cutting => o
  | .lifting => o
  | .holdSoft => o

/-- R184, R185, R188: a leg output at a change of the cut state. Its JOG time left becomes 0; its held command becomes 0
where the outputs are forced neutral, under owner NONE, and at the handover to LOOP, at which the DLU's drive stands at 0
(log 15). -/
def Leg.changeState (old new : CutState) (l : Leg) : Leg :=
  { owner := ownerAfter old new l.owner,
    held := if new.neutral || new == .ready || old == .ready then 0 else l.held,
    jogLeft := 0 }

/-- R188: the end of a JOG: a leg output of owner JOG goes to NONE. -/
def Leg.endJog (l : Leg) : Leg := if l.owner = .jog then { owner := .none, held := 0, jogLeft := 0 } else l

/-- Whether a time left is in its last millisecond, at whose end it reaches 0: its expiry is due (log 19). -/
def expiryDue (left : Nat) : Bool := decide (left ≤ 1)

/-- R188: whether the end of a JOG's time is due. -/
def Leg.jogDue (l : Leg) : Bool := l.owner == .jog && expiryDue l.jogLeft

/-- R186: a loop drive handed to a leg output. -/
def Leg.takeDrive (st : CutState) (d : Int) (l : Leg) : Leg :=
  if l.owner = .loop ∧ st.neutral = false then { l with held := d } else l

/-- R191: the low threshold. -/
def lowThreshold (level : Nat) : Nat := 200 + 10 * level

/-- R191: the low and recover counters moved by a supply value. -/
def Vos.countSupply (level : Nat) (v : Vos) : Vos :=
  if v.low then
    { v with recoverCount := if lowThreshold level + 5 ≤ v.supply then v.recoverCount + 1 else 0 }
  else
    { v with lowCount := if v.supply < lowThreshold level then v.lowCount + 1 else 0 }

/-- R191: SUPPLY_LOW becomes true when the low counter has reached 20. -/
def settleLowSet (s : State) : State :=
  if s.vos.low = false ∧ 20 ≤ s.vos.lowCount then
    setCond .supplyLow true (s.mapVos fun v => { v with low := true, lowCount := 0, recoverCount := 0 })
  else s

/-- R191: SUPPLY_LOW becomes false when the recover counter has reached 50. -/
def settleLowClear (s : State) : State :=
  if s.vos.low = true ∧ 50 ≤ s.vos.recoverCount then
    setCond .supplyLow false (s.mapVos fun v => { v with low := false, lowCount := 0, recoverCount := 0 })
  else s

/-- R193: the cutoff counter moved by a supply value; at 5 a cutoff is handed to the CSC. -/
def countCutoff (s : State) : State :=
  let n := if s.vos.supply < Config.cutoffLevel then s.vos.cutoffCount + 1 else 0
  if 5 ≤ n then
    (s.mapVos fun v => { v with cutoffCount := 0 }).mapCsc fun c => { c with cutoffHanded := true }
  else s.mapVos fun v => { v with cutoffCount := n }

end Sys2Proof.Machine
end

