-- ==== Sys2Proof/Machine/Plan.lean ====
section
/-! DEFINITION. The Plan Table (chapter 4): the waypoint list, the lift windows, the target and the plan events. -/

namespace Sys2Proof.Machine

/-- The plan positions (R62). -/
inductive PlanPosition where
  | none | before | between | past
  deriving DecidableEq, Repr

/-- R73: the count of waypoints ahead of h. -/
def countAhead (h : Nat) (l : List Waypoint) : Nat := (l.filter fun w => decide (h < w.station)).length

/-- The station of the last waypoint. -/
def lastStation (l : List Waypoint) : Option Nat := l.getLast?.map Waypoint.station

/-- R62: the plan position. -/
def planPosition (h : Nat) (l : List Waypoint) : PlanPosition :=
  match l with
  | [] => .none
  | w :: _ =>
    if h < w.station then .before
    else if (lastStation l).any fun s => decide (s ≤ h) then .past
    else .between

/-- R63: the interpolated value between two waypoints. -/
def interpolate (d0 d1 : Int) (s0 s1 h : Nat) : Int :=
  d0 + (d1 - d0) * ((h : Int) - (s0 : Int)) / ((s1 : Int) - (s0 : Int))

/-- The values of a waypoint, LEFT and RIGHT. -/
def Waypoint.values (w : Waypoint) : Sides Int := ⟨(w.left : Int), w.right⟩

/-- R62, R63: the values of the plan at h, before mode and limits. -/
def planValues (h : Nat) (l : List Waypoint) : Option (Sides Int) :=
  match planPosition h l, l with
  | .before, w :: _ => some w.values
  | .between, w :: x :: _ =>
    some ⟨interpolate (w.left : Int) (x.left : Int) w.station x.station h,
          interpolate w.right x.right w.station x.station h⟩
  | .past, _ => l.getLast?.map Waypoint.values
  | _, _ => none

/-- Whether h has reached the beginning of a window's span, start − lead (R67). -/
def Window.begun (w : Window) (h : Nat) : Bool := decide (w.start ≤ h + w.lead)

/-- Whether h has reached the end of a window's span, start + length. -/
def Window.ended (w : Window) (h : Nat) : Bool := decide (w.start + w.length ≤ h)

/-- R65: a window's cap on a target. -/
def Window.cap (h : Nat) (t : Int) (w : Window) : Int :=
  if w.valid && w.begun h && !w.ended h then min t (w.lift : Int) else t

/-- The windows in index order. -/
def Windows.all (w : Windows) : List Window := [w.w0, w.w1, w.w2, w.w3]

/-- R65: a side's value limited to 0..max depth and capped by the window that applies. -/
def limitTarget (maxDepth h : Nat) (ws : Windows) (d : Int) : Int :=
  ws.all.foldl (Window.cap h) (clamp 0 (maxDepth : Int) d)

/-- R64: RIGHT's target before limits. -/
def rightDepth (mode : SideMode) (width : Nat) (left right : Int) : Int :=
  match mode with
  | .depth => right
  | .slope => left + right * (width : Int) / 1000

/-- R61: each side's target at the present h, none while the list is empty. -/
def targets (s : State) : Option (Sides Int) :=
  (planValues s.pcu.high s.pt.list).map fun v =>
    ⟨limitTarget s.cfg.plan.maxDepth s.pcu.high s.pt.windows v.left,
     limitTarget s.cfg.plan.maxDepth s.pcu.high s.pt.windows
       (rightDepth s.cfg.side.right.mode s.cfg.limits.width v.left v.right)⟩

/-- R66: the active ramp slope. -/
def activeSlope (s : State) : Nat :=
  match s.pt.list.find? fun w => decide (s.pcu.high < w.station) with
  | some w => w.ramp.getD s.cfg.plan.maxSlope
  | none => s.cfg.plan.maxSlope

/-- R58: the waypoints before the latest one at or below h are removed. -/
def consume (h : Nat) : List Waypoint → List Waypoint
  | w :: x :: rest => if x.station ≤ h then consume h (x :: rest) else w :: x :: rest
  | l => l

/-- R70, R71: a window judged at a change of h; the marks say that it is entered and that it is passed. A passed window
keeps its entered mark (log 17). -/
def judgeWindow (h : Nat) (w : Window) : Window × Bool × Bool :=
  if w.valid then
    ({ w with entered := w.begun h, valid := !w.ended h }, w.begun h && !w.entered, w.ended h)
  else (w, false, false)

/-- The events of a judged window, entry first (R70). -/
def raiseWindow (marks : Bool × Bool) (s : State) : State :=
  let s1 := if marks.1 then raise .windowEntered s else s
  if marks.2 then raise .windowPassed s1 else s1

/-- R70: the four windows judged in index order. -/
def judgeWindows (s : State) : State :=
  let h := s.pcu.high
  let j0 := judgeWindow h s.pt.windows.w0
  let j1 := judgeWindow h s.pt.windows.w1
  let j2 := judgeWindow h s.pt.windows.w2
  let j3 := judgeWindow h s.pt.windows.w3
  raiseWindow j3.2 (raiseWindow j2.2 (raiseWindow j1.2 (raiseWindow j0.2
    (s.mapPt fun p => { p with windows := ⟨j0.1, j1.1, j2.1, j3.1⟩ }))))

/-- R74: the plan-end mark judged at a change of h. -/
def judgePlanEnd (s : State) : State :=
  if s.pt.armed && (lastStation s.pt.list).any fun x => decide (x ≤ s.pcu.high) then
    raise .planEnd (s.mapPt fun p => { p with armed := false })
  else s

/-- R73: the PLAN_LOW condition worked out. -/
def judgePlanLow (s : State) : State :=
  setCond .planLow (decide (countAhead s.pcu.high s.pt.list < s.cfg.plan.lowMark)) s

/-- R58: what the PT does at every change of h, in order. -/
def highWaterChanged (s : State) : State :=
  judgePlanLow (judgePlanEnd (judgeWindows (s.mapPt fun p => { p with list := consume s.pcu.high p.list })))

/-- R30, R31: a re-base of h, which is no advance. -/
def rebaseHigh (h : Nat) (s : State) : State := highWaterChanged (s.mapPcu fun p => { p with high := h })

/-- The list emptied and the plan-end mark disarmed (R55, R59). -/
def emptyPlan (s : State) : State := judgePlanLow (s.mapPt fun p => { p with list := [], armed := false })

end Sys2Proof.Machine
end

