-- ==== Sys2Proof/Machine/Depth.lean ====
section
/-! DEFINITION. The Depth Loop Unit (chapter 5): the effective setpoint, the loop law, the dead-zone compensation and
the settle counters. -/

namespace Sys2Proof.Machine

/-- R78: a value given to sp is limited before it is stored. -/
def limitSetpoint (maxDepth : Nat) (x : Int) : Int := clamp Config.minSetpoint (maxDepth : Int) x

/-- R81: the distance ramp of one side over Δ mm of new ground. -/
def rampSide (maxDepth slope delta : Nat) (target : Int) (l : Loop) : Loop :=
  let a := l.acc + slope * delta
  let allowance := a / 1000
  if (target - l.sp).natAbs ≤ allowance then { l with sp := limitSetpoint maxDepth target, acc := 0 }
  else { l with sp := limitSetpoint maxDepth (moveToward target allowance l.sp), acc := a - 1000 * allowance }

/-- R81 to R83: the DLU's work at a high-water advance: both sides ramp in CUTTING while there is a target. -/
def rampSides (delta : Nat) (s : State) : State :=
  match s.csc.state, targets s with
  | .cutting, some t =>
    s.mapDlu fun d => ⟨rampSide s.cfg.plan.maxDepth (activeSlope s) delta t.left d.left,
                       rampSide s.cfg.plan.maxDepth (activeSlope s) delta t.right d.right⟩
  | _, _ => s

/-- R80, R84: sp moved at a side reading. -/
def moveSetpoint (st : CutState) (plan : PlanRec) (target : Option Int) (l : Loop) : Loop :=
  match st, target with
  | .engaging, some t => { l with sp := limitSetpoint plan.maxDepth (moveToward t plan.engageRate l.sp) }
  | .lifting, _ =>
    { l with sp := limitSetpoint plan.maxDepth (moveToward (-(plan.clearance : Int)) plan.liftRate l.sp) }
  | _, _ => l

/-- R89: the error and the far mark. -/
def judgeError (farTol : Nat) (depth : Int) (l : Loop) : Loop :=
  let e := l.sp - depth
  { l with err := e, far := decide (farTol < e.natAbs) }

/-- The gains of a gain set. -/
def SideRec.gains (r : SideRec) : GainSet → Gains
  | .normal => r.normal
  | .hard => r.hard

/-- R91: the gain set that a material class selects. -/
def gainFor : Material → GainSet
  | .soft => .normal
  | .hard => .hard

/-- A value limited to −Ilim..+Ilim. -/
def limitInteg (g : Gains) (x : Int) : Int := clamp (-(g.ilim : Int)) (g.ilim : Int) x

/-- R91: the gain set selected and the integrator limited to it. -/
def selectGains (r : SideRec) (m : Material) (l : Loop) : Loop :=
  { l with gain := gainFor m, integ := limitInteg (r.gains (gainFor m)) l.integ }

/-- R94: the candidate integrator. -/
def candidateInteg (g : Gains) (e i : Int) : Int := limitInteg g (i + (g.ki : Int) * e / 256)

/-- R94: the raw command. -/
def rawCommand (g : Gains) (e i : Int) : Int := (g.kp : Int) * e / 16 + candidateInteg g e i

/-- R92 to R95: the loop command and the integrator. -/
def loopLaw (g : Gains) (lost : Bool) (deadband : Nat) (l : Loop) : Loop :=
  if lost then { l with u := 0, integ := 0 }
  else if l.err.natAbs ≤ deadband then { l with u := 0 }
  else
    let ic := candidateInteg g l.err l.integ
    let raw := rawCommand g l.err l.integ
    if raw.natAbs ≤ g.umax then { l with u := raw, integ := ic }
    else { l with u := if raw < 0 then -(g.umax : Int) else (g.umax : Int),
                  integ := if l.err.sign ≠ raw.sign then ic else l.integ }

/-- R97: the drive of a loop command. -/
def deadZone (vmin : Nat) (u : Int) : Int :=
  let mag : Int := (vmin : Int) + (u.natAbs : Int) * (1000 - (vmin : Int)) / 1000
  if u = 0 then 0 else if u < 0 then -mag else mag

/-- R87, R88: the settle condition of a cut state. -/
def settled (st : CutState) (plan : PlanRec) (r : SideRec) (target : Option Int) (ref : SideRef) (l : Loop) : Bool :=
  match st, target with
  | .engaging, some t =>
    ref.ref != .lost && l.sp == t && decide ((t - ref.depth).natAbs ≤ r.engageTol)
  | .lifting, _ => ref.ref != .lost && decide (ref.depth ≤ -(plan.clearance : Int) + (r.engageTol : Int))
  | _, _ => false

/-- R86: the settle counter moved. -/
def judgeSettle (ok : Bool) (l : Loop) : Loop := { l with settle := if ok then min 10 (l.settle + 1) else 0 }

/-- R96: the reset of the integrator at a reading with the left-LOST mark. -/
def resetInteg (leftLost : Bool) (l : Loop) : Loop := if leftLost then { l with integ := 0 } else l

/-- R91 to R95, R97: the law of one loop update. -/
def lawSide (r : SideRec) (m : Material) (lost : Bool) (l : Loop) : Loop :=
  let a := selectGains r m l
  let b := loopLaw (r.gains a.gain) lost r.deadband a
  { b with drive := deadZone r.vmin b.u }

/-- R90: the DLU's work on one side at a side reading; `runs` says that the law runs. -/
def loopSide (st : CutState) (plan : PlanRec) (r : SideRec) (m : Material) (target : Option Int) (ref : SideRef)
    (runs : Bool) (l : Loop) : Loop :=
  let a := judgeError r.farTol ref.depth (moveSetpoint st plan target (resetInteg ref.leftLost l))
  let b := if runs then lawSide r m (ref.ref == .lost) a else a
  judgeSettle (settled st plan r target ref b) b

/-- R90: whether the loop law runs for a leg output. -/
def lawRuns (st : CutState) (l : Leg) : Bool := st.loops && l.owner == .loop

/-- R90: the loop updates of both sides at a sample set, and the drives handed to the VOS (R186). -/
def updateLoops (s : State) : State :=
  let t := targets s
  let side (i : Side) : Loop :=
    loopSide s.csc.state s.cfg.plan (s.cfg.side.get i) s.dlm.material (t.map fun x => x.get i) (s.sru.sides.get i)
      (lawRuns s.csc.state (s.vos.legs.get i)) (s.dlu.get i)
  let hand (i : Side) (l : Leg) : Leg :=
    if lawRuns s.csc.state l then l.takeDrive s.csc.state (side i).drive else l
  (s.mapDlu fun _ => ⟨side .left, side .right⟩).mapVos fun v =>
    { v with legs := ⟨hand .left v.legs.left, hand .right v.legs.right⟩ }

/-- R79, R85, R86, R90, R96: a side of the DLU at a change of the cut state; `depth` is its measured depth. -/
def Loop.changeState (old new : CutState) (maxDepth : Nat) (depth : Int) (l : Loop) : Loop :=
  let stops := new.neutral || new == .ready
  { l with acc := 0, settle := 0,
           sp := if old = .ready ∧ new = .engaging then limitSetpoint maxDepth depth else l.sp,
           integ := if new = .engaging then 0 else l.integ,
           u := if stops then 0 else l.u,
           drive := if stops then 0 else l.drive }

end Sys2Proof.Machine
end

