-- ==== Sys2Proof/Machine/CutState.lean ====
section
/-! DEFINITION. The Cut State Controller (chapter 9): the change of the cut state with what every neighbour does at it,
the holds, the completions, the timers and the advance ceiling. -/

namespace Sys2Proof.Machine

/-- R168: the states in which the state timer runs. -/
def CutState.timed : CutState → Bool
  | .engaging | .lifting => true
  | .config | .ready | .cutting | .holdSoft | .holdHard => false

/-- The CSC's own part of a change (R160, R168). -/
def cscChange (new : CutState) (s : State) : State :=
  s.mapCsc fun c =>
    { c with state := new, stateTimer := if new.timed then some (1000 * s.cfg.plan.timeLimit) else none }

/-- The PCU's part of a change: the stall counter returns to 0 (R35). -/
def pcuChange (s : State) : State := s.mapPcu fun p => { p with stall := 0 }

/-- The DLU's part of a change (R79, R85, R86, R90, R96). -/
def dluChange (old new : CutState) (s : State) : State :=
  s.mapDlu fun d =>
    ⟨d.left.changeState old new s.cfg.plan.maxDepth s.sru.sides.left.depth,
     d.right.changeState old new s.cfg.plan.maxDepth s.sru.sides.right.depth⟩

/-- The VOS's part of a change (R185). -/
def vosChange (old new : CutState) (s : State) : State :=
  s.mapVos fun v => { v with legs := v.legs.map (Leg.changeState old new) }

/-- The BTQ's part of a change: the drive becomes 0 into CONFIG or HOLD_HARD (R140). -/
def btqChange (new : CutState) (s : State) : State := if new.neutral then setBeltDrive 0 s else s

/-- The SFE's part of a change: a capture fails at a change away from READY (R21), substitutes go on entry to CONFIG
(R18). -/
def sfeChange (old new : CutState) (s : State) : State :=
  let s1 := if old = .ready then failCapture s else s
  if new = .config then removeSubstitutes s1 else s1

/-- The PCU's and the PT's part of the entry into ENGAGING from READY: the re-base of h (R30). -/
def highChange (old new : CutState) (s : State) : State :=
  if old = .ready ∧ new = .engaging then rebaseHigh s.pcu.station s else s

/-- R160: a change of the cut state, with what each neighbour does at it. -/
def changeState (new : CutState) (s : State) : State :=
  let old := s.csc.state
  highChange old new (sfeChange old new (btqChange new (vosChange old new (dluChange old new
    (pcuChange (cscChange new s))))))

/-- R161: the hold cause recorded and HOLD_ENTERED raised. -/
def recordHold (cause : HoldCause) (s : State) : State :=
  raise .holdEntered (s.mapCsc fun c => { c with cause := some cause })

/-- R161: an entry into a hold state. -/
def enterHold (new : CutState) (cause : HoldCause) (s : State) : State := recordHold cause (changeState new s)

/-! ### Completions and what the part detects -/

/-- Both settle counters stand at 10. -/
def bothSettled (s : State) : Bool := decide (10 ≤ s.dlu.left.settle) && decide (10 ≤ s.dlu.right.settle)

/-- R165: engaging is complete. -/
def settleEngage (s : State) : State :=
  if s.csc.state = .engaging ∧ bothSettled s = true then raise .engageDone (changeState .cutting s) else s

/-- R167: lifting is complete. -/
def settleLift (s : State) : State :=
  if s.csc.state = .lifting ∧ bothSettled s = true then raise .liftDone (changeState .ready s) else s

/-- R171: a reference loss handed to the CSC. -/
def applyLoss (lost : Bool) (s : State) : State :=
  if lost then
    match s.csc.state with
    | .engaging | .cutting | .lifting => enterHold .holdSoft .refLost s
    | .config | .ready | .holdSoft | .holdHard => s
  else s

/-- R172: a drum stall that has been handed is applied to the state the CSC is then in. -/
def applyStall (s : State) : State :=
  if s.csc.stallHanded then
    let s1 := s.mapCsc fun c => { c with stallHanded := false }
    match s1.csc.state with
    | .engaging | .cutting => enterHold .holdSoft .drumStall s1
    | .config | .ready | .lifting | .holdSoft | .holdHard => s1
  else s

/-- R175: a supply cutoff that has been handed is applied to the state the CSC is then in. -/
def applyCutoff (s : State) : State :=
  if s.csc.cutoffHanded then
    let s1 := s.mapCsc fun c => { c with cutoffHanded := false }
    match s1.csc.state with
    | .ready | .engaging | .cutting | .lifting | .holdSoft => enterHold .holdHard .supply s1
    | .config | .holdHard => s1
  else s

/-- R168: the state timer expires; nothing while it is stopped or has longer to run (log 2, log 19). -/
def expireStateTimer (s : State) : State :=
  match s.csc.stateTimer with
  | none => s
  | some n => if expiryDue n then raise .stateTimeout (enterHold .holdSoft .timeout s) else s

/-- R176: the silence period in ms. -/
def silencePeriod (l : LinkRec) : Nat := 16 * 2 ^ l.silence

/-- R176: the silence timer restarts with the full period, and no expiry is left to follow. -/
def restartSilence (s : State) : State :=
  s.mapCsc fun c => { c with silenceLeft := silencePeriod s.cfg.link, overtaken := .no }

/-- R176: a good telegram restarts the silence timer; an expiry that was due is overtaken by it (log 38). -/
def hearTelegram (s : State) : State :=
  s.mapCsc fun c =>
    { c with silenceLeft := silencePeriod s.cfg.link,
             overtaken := if expiryDue c.silenceLeft then .byTelegram else .no }

/-- R188: a JOG that is taken lets the expiry that it overtook follow it (log 38). -/
def Csc.takeJog (c : Csc) : Csc := { c with overtaken := if c.overtaken = .byTelegram then .byJog else c.overtaken }

/-- R176, R188: whether an expiry of the silence timer can take place: its time runs out, or in READY it follows the JOG
that overtook it (log 19, log 38). -/
def Csc.silenceDue (c : Csc) : Bool := expiryDue c.silenceLeft || (c.state == .ready && c.overtaken == .byJog)

/-- R177, R188: a JOG in progress on either leg output ends. -/
def endJogs (s : State) : State := s.mapVos fun v => { v with legs := v.legs.map Leg.endJog }

/-- R177: the silence timer expires. -/
def escalateSilence (s : State) : State :=
  let s1 := restartSilence (raise .linkSilence s)
  match s1.csc.state with
  | .engaging | .cutting | .lifting => enterHold .holdSoft .silence s1
  | .holdSoft => enterHold .holdHard .silenceEscalated s1
  | .ready => endJogs s1
  | .config | .holdHard => s1

/-- R176, R177: an expiry of the silence timer acts where it is due; a telegram taken first has restarted the timer, and
no expiry takes place. -/
def expireSilence (s : State) : State := if s.csc.silenceDue then escalateSilence s else s

/-- R173: the STOP line becomes asserted, as the CSC sees it. -/
def assertStop (s : State) : State :=
  let s1 := setCond .stopActive true (s.mapPins fun p => { p with stop := true })
  match s1.csc.state with
  | .ready | .engaging | .cutting | .lifting | .holdSoft => enterHold .holdHard .stop s1
  | .holdHard => recordHold .stop s1
  | .config => s1

/-- R174: the STOP line is released. -/
def releaseStop (s : State) : State :=
  setCond .stopActive false (s.mapPins fun p => { p with stop := false })

/-! ### The advance ceiling -/

/-- The reasons of the ceiling, in the order of R178. -/
inductive CeilingReason where
  | state | load | depth | belt | truck | supply
  deriving DecidableEq, Repr

/-- R178: the state term. -/
def stateTerm (s : State) : Nat := if s.csc.state = .cutting then s.cfg.limits.vmax else 0

/-- R178: the depth term. -/
def depthTerm (s : State) : Nat :=
  if s.dlu.left.far || s.dlu.right.far then s.cfg.limits.creep else s.cfg.limits.vmax

/-- R178: the supply term. -/
def supplyTerm (s : State) : Nat := if s.vos.low then s.cfg.limits.creep else s.cfg.limits.vmax

/-- R178: the six terms in order. -/
def ceilingTerms (s : State) : List (CeilingReason × Nat) :=
  [(.state, stateTerm s), (.load, loadTerm s.dlm s.cfg.limits), (.depth, depthTerm s),
   (.belt, beltTerm s.btq s.cfg.belt.cap s.cfg.limits.vmax), (.truck, truckTerm s.tlu s.cfg.limits.vmax),
   (.supply, supplyTerm s)]

/-- The first of the least terms after one that stands so far. -/
def leastTerm (best : CeilingReason × Nat) : List (CeilingReason × Nat) → CeilingReason × Nat
  | [] => best
  | t :: rest => leastTerm (if t.2 < best.2 then t else best) rest

/-- R178, R179: the ceiling with its reason. -/
def ceilingWithReason (s : State) : CeilingReason × Nat :=
  leastTerm (.state, stateTerm s) (ceilingTerms s)

/-- R178: the advance ceiling, in mm/s. -/
def ceiling (s : State) : Nat := (ceilingWithReason s).2

/-- R179: the reason of the ceiling. -/
def ceilingReason (s : State) : CeilingReason := (ceilingWithReason s).1

/-- R180: the level of ADVANCE_PERMIT; low while RESETn is held. -/
def advancePermit (s : State) : Bool := !s.pins.resetHeld && decide (0 < ceiling s)

end Sys2Proof.Machine
end

