-- ==== Sys2Proof/Machine/Pulse.lean ====
section
/-! DEFINITION. The Pulse Counter Unit (chapter 2): counted events, station and high-water advances, belt travel, speed
windows and the drum stall test. -/

namespace Sys2Proof.Machine

/-- R25: whether a transition of the pin is a qualifying edge. -/
def qualifies (e : EdgeSelect) (rising : Bool) : Bool :=
  match e with
  | .rising => rising
  | .falling => !rising
  | .both => true

/-- R27: whether a level of TRAVEL_DIR means forward. -/
def isForward (p : DirPolarity) (high : Bool) : Bool :=
  match p with
  | .highForward => high
  | .lowForward => !high

/-- R28: the signed thousandths of an edge that a counted TRAVEL event adds. -/
def travelGain (forward : Bool) (prescale : Nat) : Int :=
  if forward then (prescale : Int) * 1000 else -((prescale : Int) * 1000)

/-- R28: the movement d of a remainder. -/
def movement (rem : Int) (ppm : Nat) : Int := rem / (ppm : Int)

/-- R28: the station and remainder after a movement; at a limit the remainder becomes 0. -/
def moveStation (station : Nat) (rem : Int) (ppm : Nat) : Nat × Nat :=
  let d := movement rem ppm
  let x : Int := (station : Int) + d
  if x < 0 then (0, 0)
  else if (Config.maxStation : Int) < x then (Config.maxStation, 0)
  else (x.toNat, (rem - d * (ppm : Int)).toNat)

/-- R29: a high-water advance of Δ mm is handed to the PT, the DLU and the BTQ; the DLU's ramp and the BTQ's intake are
taken in either order (R103). -/
def advance (rampFirst : Bool) (delta : Nat) (s : State) : State :=
  let s1 := highWaterChanged s
  if rampFirst then intake delta (rampSides delta s1) else rampSides delta (intake delta s1)

/-- R27, R28, R33: the PCU's own part of a counted TRAVEL event. -/
def pcuTravel (dirHigh : Bool) (s : State) : State :=
  let fwd := isForward s.cfg.dirPolarity dirHigh
  let n := s.cfg.pulse.travel.prescale
  let m := moveStation s.pcu.station ((s.pcu.travelRem : Int) + travelGain fwd n) s.cfg.pulse.travel.scale
  (s.mapPins fun p => { p with travelDir := dirHigh }).mapPcu fun p =>
    { p with count := p.count.set .travel 0, station := m.1, travelRem := m.2, forward := fwd,
             travelSum := if fwd then p.travelSum + (n : Int) else p.travelSum - (n : Int) }

/-- R28, R29: a counted TRAVEL event. -/
def countedTravel (dirHigh rampFirst : Bool) (s : State) : State :=
  let s1 := pcuTravel dirHigh s
  if s1.pcu.high < s1.pcu.station then
    advance rampFirst (s1.pcu.station - s1.pcu.high) (s1.mapPcu fun p => { p with high := p.station })
  else s1

/-- R32, R33: a counted BELT event. -/
def countedBelt (s : State) : State :=
  let n := s.cfg.pulse.belt.prescale
  let r := s.pcu.beltRem + n * 1000
  let d := r / s.cfg.pulse.belt.scale
  let s1 := s.mapPcu fun p =>
    { p with count := p.count.set .belt 0, beltRem := r % s.cfg.pulse.belt.scale, beltSum := p.beltSum + n }
  if 0 < d then beltTravel d s1 else s1

/-- R34: a counted DRUM event. -/
def countedDrum (s : State) : State :=
  s.mapPcu fun p => { p with count := p.count.set .drum 0, drumSum := p.drumSum + s.cfg.pulse.drum.prescale }

/-- A counted event of an input. -/
def countedEvent (i : PulseInput) (dirHigh rampFirst : Bool) (s : State) : State :=
  match i with
  | .travel => countedTravel dirHigh rampFirst s
  | .belt => countedBelt s
  | .drum => countedDrum s

/-- R25, R26: a transition of a pulse pin. A qualifying edge raises the prescaler count; the edge that completes the
group is the counted event (log 6). -/
def pinEdge (i : PulseInput) (rising dirHigh rampFirst : Bool) (s : State) : State :=
  let r := s.cfg.pulse.get i
  let s1 := s.mapPins fun p => { p with pulse := p.pulse.set i rising }
  if qualifies r.edge rising then
    if r.prescale ≤ s.pcu.count.get i + 1 then countedEvent i dirHigh rampFirst s1
    else s1.mapPcu fun p => { p with count := p.count.set i (p.count.get i + 1) }
  else s1

/-- R33: the travel speed of a window sum. -/
def travelSpeedOf (sum : Int) (ppm : Nat) : Int := clamp (-9999) 9999 (sum * 10000 / (ppm : Int))

/-- R33: the belt speed of a window sum. -/
def beltSpeedOf (sum ppm : Nat) : Nat := min 9999 (sum * 10000 / ppm)

/-- R34: the drum speed of a window sum. -/
def drumSpeedOf (sum ppr : Nat) : Nat := min 9999 (sum * 120 / ppr)

/-- R33: the 100 ms window closes in the PCU. -/
def closeSpeedWindow (s : State) : State :=
  s.mapPcu fun p =>
    { p with travelSpeed := travelSpeedOf p.travelSum s.cfg.pulse.travel.scale,
             beltSpeed := beltSpeedOf p.beltSum s.cfg.pulse.belt.scale, travelSum := 0, beltSum := 0, speedLeft := 100 }

/-- R34: the 500 ms window closes. -/
def closeDrumWindow (s : State) : State :=
  s.mapPcu fun p =>
    { p with drumSpeed := drumSpeedOf p.drumSum s.cfg.pulse.drum.scale, drumSum := 0, drumLeft := 500 }

/-- R35: the stall test; at 5 the PCU raises DRUM_STALL and hands the stall to the CSC. -/
def testDrumStall (s : State) : State :=
  if (s.csc.state = .engaging ∨ s.csc.state = .cutting) ∧ s.pcu.drumSpeed < s.cfg.drumMin then
    if 5 ≤ s.pcu.stall + 1 then
      raise .drumStall ((s.mapPcu fun p => { p with stall := 0 }).mapCsc fun c => { c with stallHanded := true })
    else s.mapPcu fun p => { p with stall := p.stall + 1 }
  else s.mapPcu fun p => { p with stall := 0 }

end Sys2Proof.Machine
end

