-- ==== Sys2Proof/Machine/Sample.lean ====
section
/-! DEFINITION. The sample set as a whole (R1): the blocks' shares of it in the order an operand gives, and the steps
that are still due from an earlier one. -/

namespace Sys2Proof.Machine

/-- Steps left due by an earlier sample set, carried out before the next one (log 3). -/
def settleDue (s : State) : State :=
  settleLift (settleEngage (applyCutoff (settleLowClear (settleLowSet (closeClassWindow (completeCapture s))))))

/-- The supply monitor's share (R191, R193, R175). -/
def monitorShare (apart : Bool) (s : State) : State :=
  let s1 := countCutoff (s.mapVos (Vos.countSupply s.cfg.lowLevel))
  if apart then s1 else applyCutoff (settleLowClear (settleLowSet s1))

/-- The ZERO capture's share (R20). -/
def captureShare (apart : Bool) (s : State) : State :=
  let s1 := countCapture s
  if apart then s1 else completeCapture s1

/-- The CSC's reading of the settle counters (R165, R167). -/
def completionShare (apart : Bool) (s : State) : State := if apart then s else settleLift (settleEngage s)

/-- The share of the side readings: SRU, DLU and CSC (R38, R90, R171, R165, R167). -/
def sideShare (o : SampleOrder) (s : State) : State :=
  let s1 := readSides s
  let lost := entersLost s.sru.sides s1.sru.sides
  let s2 := if o.loadFirst then sampleLoad o.apart s1 else s1
  let s3 := if o.lossFirst then updateLoops (applyLoss lost s2) else applyLoss lost (updateLoops s2)
  let s4 := completionShare o.apart s3
  if o.loadFirst then s4 else sampleLoad o.apart s4

/-- The sample set (R1). -/
def sampleSet (scan : Scan) (o : SampleOrder) (s : State) : State :=
  let s0 := settleDue s
  let s1 := scanChannels scan s0
  let gone := newlyUnqualified s0.sfe.chans s1.sfe.chans
  let fail (t : State) : State := if captureInvolves t gone then failCapture t else t
  let s2 := if o.captureFirst then s1 else fail s1
  let s3 := if o.monitorFirst then monitorShare o.apart s2 else s2
  let s4 := captureShare o.apart (sideShare o s3)
  let s5 := if o.captureFirst then fail s4 else s4
  if o.monitorFirst then s5 else monitorShare o.apart s5

/-- R11, R21: one channel's sample that unlocks it; nothing when the sample does not (log 2, log 7). -/
def unlockChannel (i : Chan) (raw : Nat) (s : State) : State :=
  let c := s.sfe.chans.get i
  let d := c.sample raw
  if c.qual = .qualified ∧ d.qual = .unqualified then
    let s1 := judgeChannelFault (s.mapChan i fun _ => d)
    if captureInvolves s1 [i] then failCapture s1 else s1
  else s

/-- R12: one channel's sample that locks it; nothing when the sample does not (log 2, log 7). -/
def lockChannel (i : Chan) (raw : Nat) (s : State) : State :=
  let c := s.sfe.chans.get i
  let d := c.sample raw
  if c.qual = .unqualified ∧ d.qual = .qualified then judgeChannelFault (s.mapChan i fun _ => d) else s

end Sys2Proof.Machine
end

