-- ==== Sys2Proof/Machine/Link.lean ====
section
/-! DEFINITION. The Link Interface (chapter 11): frame and CRC, the status content, the slots and the arbiter, the taking
of a request, and the two resets. -/

namespace Sys2Proof.Machine

/-! ### Frame and CRC (R197) -/

/-- R197: one bit of the CRC register. -/
def crcBit (c : BitVec 16) : BitVec 16 := if c.msb then (c <<< 1) ^^^ 0x1021#16 else c <<< 1

/-- R197: one byte fed into the CRC register, most significant bit first. -/
def crcByte (c : BitVec 16) (b : Byte) : BitVec 16 :=
  crcBit (crcBit (crcBit (crcBit (crcBit (crcBit (crcBit (crcBit (c ^^^ (b.zeroExtend 16 <<< 8)))))))))

/-- R197: the CRC of a byte sequence, initial value FFFFh, no final inversion. -/
def crc (bs : List Byte) : BitVec 16 := bs.foldl crcByte 0xFFFF#16

/-- R213: the bytes of a telegram on the line. -/
def frame (kind tag : Byte) (payload : List Byte) : List Byte :=
  let body := BitVec.ofNat 8 payload.length :: kind :: tag :: payload
  0xA5#8 :: (body ++ le 2 (crc body).toNat)

/-! ### Codes of the status content (R213) -/

/-- The code of a ceiling reason. -/
def CeilingReason.code : CeilingReason → Nat
  | .state => 0 | .load => 1 | .depth => 2 | .belt => 3 | .truck => 4 | .supply => 5

/-- The code of a cut state. -/
def CutState.code : CutState → Nat
  | .config => 0 | .ready => 1 | .engaging => 2 | .cutting => 3 | .lifting => 4 | .holdSoft => 5 | .holdHard => 6

/-- The code of a material class. -/
def Material.code : Material → Nat
  | .soft => 0
  | .hard => 1

/-- The code of a belt mode. -/
def BeltMode.code : BeltMode → Nat
  | .stop => 0 | .fixed => 1 | .follow => 2

/-- The code of the current slot in the load word. -/
def currentCode (t : Option Truck) : Nat :=
  match t with
  | none => 0
  | some x => match x.state with
    | .loading => 1
    | .closing => 2

/-- The code of a reference state in the status content: 0 LOST, 1 DEGRADED, 2 FULL. -/
def RefState.statusCode : RefState → Nat
  | .lost => 0 | .degraded => 1 | .full => 2

/-- The code of the hold cause in the event and flag word, 0 for none recorded. -/
def causeCode : Option HoldCause → Nat
  | none => 0
  | some .request => 1 | some .silence => 2 | some .silenceEscalated => 3 | some .refLost => 4
  | some .drumStall => 5 | some .timeout => 6 | some .stop => 7 | some .supply => 8

/-- The bytes of the event and flag word (offset 56 of the status content). -/
def eventWord (s : State) : List Byte :=
  le 4 (s.li.events.pending.toNat + 33554432 * s.pins.stop.toNat + 67108864 * s.csc.commissioned.toNat
    + 134217728 * s.li.dropped.toNat + 268435456 * causeCode s.csc.cause)

/-- The eight bytes of one side in the status content (offsets 15 to 22). -/
def sideStatus (s : State) (i : Side) : List Byte :=
  let target : Nat := match targets s with
    | none => 0xFFF
    | some t => (t.get i).toNat
  le 2 (target + 4096 * (s.sru.sides.get i).ref.statusCode) ++ leInt 2 (s.dlu.get i).sp
    ++ leInt 2 (s.sru.sides.get i).depth ++ leInt 2 (s.vos.legs.get i).held

/-- R213: the status content of the present moment, 60 bytes. -/
def statusContent (s : State) : List Byte :=
  let truck : Nat × Nat := match s.tlu.current with
    | none => (0, 0)
    | some t => (t.number, t.delivered)
  0x00#8 :: (le 2 (ceiling s + 1024 * (ceilingReason s).code + 8192 * s.csc.state.code)
    ++ le 2 (s.dlm.load + 1024 * s.dlm.material.code + 2048 * s.btq.mode.code + 8192 * currentCode s.tlu.current
        + 32768 * s.tlu.next.isSome.toNat)
    ++ le 4 s.pcu.station ++ le 4 s.pcu.high ++ leInt 2 s.pcu.travelSpeed
    ++ sideStatus s .left ++ sideStatus s .right
    ++ le 2 s.pcu.beltSpeed ++ le 2 (intakeVolume s.btq.segs) ++ le 3 (beltHolding s.btq.segs)
    ++ le 2 truck.1 ++ le 4 truck.2
    ++ le 4 s.btq.intakeTotal ++ le 4 s.btq.lostTotal ++ le 4 s.tlu.closedTotal ++ eventWord s)

/-! ### Slots and arbiter (R200, R201) -/

/-- A telegram formed now. -/
def newTelegram (kind tag : Byte) (payload : List Byte) : Telegram :=
  { kind := kind, tag := tag, payload := payload, dropAfter := false }

/-- R200: the kind of a reply, the kind of its request plus 80h. -/
def replyKind (kind : Byte) : Byte := kind + 0x80#8

/-- A formed reply is placed in a reply slot. -/
def placeReply (kind tag : Byte) (r : Reply) (s : State) : State :=
  s.mapLi fun l => { l with replies := l.replies ++ [newTelegram (replyKind kind) tag r] }

/-- R200: a request dropped with both slots full: the flag is set, and every telegram already formed was formed before
this drop. -/
def dropRequest (s : State) : State :=
  let mark (t : Telegram) : Telegram := { t with dropAfter := true }
  s.mapLi fun l =>
    { l with dropped := true, replies := l.replies.map mark, status := l.status.map mark,
             sending := l.sending.map mark }

/-- R201: the arbiter: while the line is free, the oldest reply, else the notice with the content of this moment
(R210), else the status report begins. -/
def arbitrate (s : State) : State :=
  match s.li.sending with
  | some _ => s
  | none =>
    match s.li.replies with
    | r :: rest => s.mapLi fun l => { l with sending := some r, replies := rest }
    | [] =>
      if s.li.notice then
        s.mapLi fun l => { l with sending := some (newTelegram 0xF2#8 0x00#8 (eventWord s)), notice := false }
      else
        match s.li.status with
        | some t => s.mapLi fun l => { l with sending := some t, status := none }
        | none => s

/-- R207: a status report is formed and placed in the status slot, and the timer starts again. -/
def formReport (s : State) : State :=
  s.mapLi fun l =>
    { l with status := some (newTelegram 0xF1#8 0x00#8 (statusContent s)),
             statusTimer := if s.cfg.link.period = 0 then none else some s.cfg.link.period }

/-- R200: whether a telegram is a status report or a POLL reply that carries the REQUEST_DROPPED flag. -/
def carriesDrop (t : Telegram) : Bool :=
  (t.kind == 0xF1#8 || t.kind == 0x82#8) && t.payload.length == 60 && (t.payload.getD 59 0#8).getLsbD 3

/-- Whether a telegram is the reply OK of a RESTART (R202). -/
def isRestartReply (t : Telegram) : Bool := t.kind == 0x83#8 && t.payload == [0x00#8]

/-! ### Taking a request (R198) -/

/-- What the LI knows of a request once its kind is known: the reply of a failed length check, whether it is taken while
STOP is asserted, and what its owner does with it. -/
structure Request where
  known    : Bool
  badForm  : Option Reply
  readOnly : Bool
  carryOut : State → State × Reply

/-- A request whose payload must hold n bytes. -/
def Request.ofLength (n : Nat) (payload : List Byte) (readOnly : Bool) (f : State → State × Reply) : Request :=
  { known := true, badForm := if payload.length = n then none else some replyLength, readOnly := readOnly,
    carryOut := f }

/-- R198 steps 3 to 6: the state after the request is carried out, and its reply. -/
def Request.answer (r : Request) (s : State) : State × Reply :=
  if r.known = false then (s, replyUnknown)
  else
    match r.badForm with
    | some b => (s, b)
    | none => if s.pins.stop = true ∧ r.readOnly = false then (s, replyMode) else r.carryOut s

/-- R198: a good telegram is taken. The receiver has judged it and stands in HUNT (R197). -/
def takeTelegram (kind tag : Byte) (r : Request) (s : State) : State :=
  let s1 := hearTelegram (s.mapLi fun l => { l with rx := .hunt })
  if s1.li.restarting then s1
  else if 2 ≤ s1.li.replies.length then dropRequest s1
  else
    let a := r.answer s1
    placeReply kind tag a.2 a.1

/-! ### Resets (R196, R202) -/

/-- R116: the drum width that the straps CFG1 and CFG0 set. -/
def strapWidth (p : Straps) : Nat :=
  match p.cfg1, p.cfg0 with
  | false, false => 1000
  | false, true => 1500
  | true, false => 2000
  | true, true => 2200

/-- R52: the mode of RIGHT that the strap CFG3 sets. -/
def strapMode (p : Straps) : SideMode := if p.cfg3 then .slope else .depth

/-- The defaults of the records under a strap latch. -/
def strapRecords (p : Straps) : Records :=
  let r := Records.reset
  { r with side := ⟨r.side.left, { r.side.right with mode := strapMode p }⟩,
           limits := { r.limits with width := strapWidth p } }

/-- Every block at its values after reset, with these levels in the strap latch. The pins and the waiting commands are
not the part's, so they stay; STOP_ACTIVE's condition is worked out from the pin (R183), and the conditions true at the
end of the reset latch at once (R209). -/
def resetBlocks (p : Straps) (s : State) : State :=
  let t := { State.reset with pins := { s.pins with resetHeld := false }, cfg := strapRecords p,
                              li := { State.reset.li with straps := p }, pending := s.pending }
  setCond .stopActive s.pins.stop t

/-- R196: RESETn is released: the straps are latched. -/
def powerOn (p : Straps) (s : State) : State := resetBlocks p (s.mapPins fun q => { q with cfg := p })

/-- R202: the reset of a RESTART: the straps are not sampled. -/
def restartReset (s : State) : State := resetBlocks s.li.straps s

/-- R201, R202: the last byte of the telegram on LINK_TX has been sent. The end of the RESTART reply carries out the
reset; the end of a report or POLL reply that carries the REQUEST_DROPPED flag clears it (R200). -/
def endTransmission (s : State) : State :=
  match s.li.sending with
  | none => s
  | some t =>
    if s.li.restarting && isRestartReply t then restartReset s
    else s.mapLi fun l =>
      { l with sending := none, dropped := l.dropped && !(carriesDrop t && !t.dropAfter) }

/-! ### The frame of every command -/

/-- A command acts on a part that is out of reset; at the end of the step the arbiter looks at the line (log 11). While
RESETn is held the part does nothing (log 9). -/
def act (f : State → State) (s : State) : Host.Outcome State Fault Refusal :=
  if s.pins.resetHeld then .next s else .next (arbitrate (f s))

end Sys2Proof.Machine
end

