-- ==== Sys2Proof/Machine/Readings.lean ====
section
/-! DEFINITION. CONFIG_GET: the response of each section, fields first and readings in the order of the chapter (R204),
cut into pages. Marks, states and modes are carried as their position in the list of their values (log 12). -/

namespace Sys2Proof.Machine

/-! ### Encodings of readings (R204) -/

/-- A value that a two-byte field carries. -/
def w2 (n : Nat) : List Byte := le 2 n

/-- A signed value that a two-byte field carries. -/
def i2 (x : Int) : List Byte := leInt 2 x

/-- A value that a four-byte field carries. -/
def w4 (n : Nat) : List Byte := le 4 n

/-- An absent value (R204). -/
def absent : List Byte := w2 0x8000

/-- A mark with the values "set, clear". -/
def markField (b : Bool) : List Byte := w2 (if b then 0 else 1)

/-- An optional value, 8000h when absent. -/
def optField (x : Option Int) : List Byte :=
  match x with
  | none => absent
  | some v => i2 v

/-- R204: a list of channel numbers, preceded by its length. The manual gives no width for the length: one byte is the
model's choice (log 37). -/
def chanList (l : List Chan) : List Byte := BitVec.ofNat 8 l.length :: l.map fun i => BitVec.ofNat 8 i.num

/-- UNUSED, HEIGHT, SLOPE, PRESSURE. -/
def Role.code : Role → Nat
  | .unused => 0 | .height => 1 | .slope => 2 | .pressure => 3

/-- LEFT, RIGHT. -/
def Side.code : Side → Nat
  | .left => 0
  | .right => 1

/-- QUALIFIED, UNQUALIFIED. -/
def Qual.code : Qual → Nat
  | .qualified => 0
  | .unqualified => 1

/-- QUALIFIED, UNQUALIFIED, SUBSTITUTED. -/
def PubState.code : PubState → Nat
  | .qualified => 0 | .unqualified => 1 | .substituted => 2

/-- FULL, DEGRADED, LOST. -/
def RefState.code : RefState → Nat
  | .full => 0 | .degraded => 1 | .lost => 2

/-- TRACK, REBASE. -/
def Tracking.code : Tracking → Nat
  | .track => 0
  | .rebase => 1

/-- DEPTH, SLOPE. -/
def SideMode.code : SideMode → Nat
  | .depth => 0
  | .slope => 1

/-- NORMAL, HARD. -/
def GainSet.code : GainSet → Nat
  | .normal => 0
  | .hard => 1

/-- NONE, BEFORE, BETWEEN, PAST. -/
def PlanPosition.code : PlanPosition → Nat
  | .none => 0 | .before => 1 | .between => 2 | .past => 3

/-- RISING, FALLING, BOTH. -/
def EdgeSelect.code : EdgeSelect → Nat
  | .rising => 0 | .falling => 1 | .both => 2

/-- HIGH_FORWARD, LOW_FORWARD. -/
def DirPolarity.code : DirPolarity → Nat
  | .highForward => 0
  | .lowForward => 1

/-- CURRENT, NEXT. -/
def Tag.code : Tag → Nat
  | .current => 0
  | .next => 1

/-- AUTO, MANUAL. -/
def ClassMode.code : ClassMode → Nat
  | .auto => 0
  | .manual => 1

/-- The hold causes in the order of the list, none recorded last (log 14). -/
def causePosition (c : Option HoldCause) : Nat :=
  match c with
  | none => 8
  | some _ => causeCode c - 1

/-- NONE, LOOP, JOG. -/
def Owner.code : Owner → Nat
  | .none => 0 | .loop => 1 | .jog => 2

/-- None, lower, raise. -/
def Coil.code : Coil → Nat
  | .none => 0 | .lower => 1 | .raise => 2

/-- NORMAL, SWAPPED. -/
def Polarity.code : Polarity → Nat
  | .normal => 0
  | .swapped => 1

/-- HUNT, LENGTH, HEADER, BODY, CHECK. -/
def RxState.code : RxState → Nat
  | .hunt => 0 | .length => 1 | .header => 2 | .body => 3 | .check => 4

/-- A level or flag with its values 0 and 1. -/
def bitField (b : Bool) : List Byte := w2 b.toNat

/-! ### The responses, section by section -/

/-- The fields of a SENSOR record. -/
def SensorRec.fields (i : Chan) (r : SensorRec) : List Byte :=
  w2 i.num ++ w2 r.role.code ++ w2 (Side.code r.side) ++ i2 r.trim ++ w2 r.lockN ++ w2 r.unlockN ++ w2 r.tol
    ++ i2 r.zero

/-- R24. -/
def Channel.response (i : Chan) (c : Channel) : List Byte :=
  c.cfg.fields i ++ (c.table.map i2).flatten ++ w2 c.raw ++ w2 c.trimmed ++ i2 c.lin ++ markField c.fault ++ w2 c.qual.code ++ w2 c.pubState.code
    ++ i2 c.accepted ++ optField c.subst ++ w2 c.lock ++ w2 c.unlock

/-- R24: the response of section SENSOR. -/
def sensorResponse (n : Nat) (s : State) : List Byte :=
  match Chan.ofNat? n with
  | none => []
  | some i => (s.sfe.chans.get i).response i

/-- The fields of a gain set. -/
def Gains.fields (g : Gains) : List Byte := w2 g.kp ++ w2 g.ki ++ w2 g.ilim ++ w2 g.umax

/-- The fields of a SIDE record. -/
def SideRec.fields (i : Side) (r : SideRec) : List Byte :=
  w2 (Side.code i) ++ w2 r.mode.code ++ w2 r.minMembers ++ w2 r.rebaseRate ++ w2 r.deadband ++ r.normal.fields
    ++ r.hard.fields ++ w2 r.vmin ++ w2 r.engageTol ++ w2 r.farTol

/-- R53: the readings of a side that the SRU holds. -/
def SideRef.readings (r : SideRef) : List Byte :=
  chanList r.heightSet ++ chanList r.members ++ w2 r.heightSet.length ++ w2 r.members.length ++ w2 r.ref.code
    ++ i2 r.avg ++ i2 r.depth ++ w2 r.tracking.code

/-- R53: the slope readings that RIGHT adds in SLOPE mode, as the last sample set stored them (log 35). -/
def slopeReadings (x : Option (Chan × Int)) : List Byte :=
  match x with
  | none => absent ++ absent
  | some (i, v) => w2 i.num ++ i2 v

/-- R102: the readings of a side that the DLU holds. -/
def Loop.readings (l : Loop) : List Byte :=
  i2 l.sp ++ w2 l.acc ++ i2 l.integ ++ w2 l.gain.code ++ i2 l.err ++ i2 l.u ++ i2 l.drive ++ w2 l.settle
    ++ markField l.far

/-- R53, R102: the response of section SIDE. -/
def sideResponse (n : Nat) (s : State) : List Byte :=
  match Side.ofNat? n with
  | none => []
  | some i =>
    let r := s.cfg.side.get i
    r.fields i ++ (s.sru.sides.get i).readings
      ++ (if i = .right ∧ r.mode = .slope then slopeReadings s.sru.slope else []) ++ (s.dlu.get i).readings

/-- The fields of the PLAN record. -/
def PlanRec.fields (r : PlanRec) : List Byte :=
  w2 0 ++ w2 r.maxSlope ++ w2 r.engageRate ++ w2 r.liftRate ++ w2 r.clearance ++ w2 r.maxDepth ++ w2 r.lowMark
    ++ w2 r.timeLimit

/-- R77: the response of section PLAN. -/
def planResponse (s : State) : List Byte :=
  let t := targets s
  s.cfg.plan.fields ++ w2 s.pt.list.length ++ w2 (countAhead s.pcu.high s.pt.list) ++ w2 (planPosition s.pcu.high s.pt.list).code
    ++ optField (t.map Sides.left) ++ optField (t.map Sides.right) ++ w2 (activeSlope s) ++ markField s.pt.armed
    ++ le 2 (Config.conditionCode (condition .planLow s)).toNat

/-- R36: the option field of an input. -/
def optionField (i : PulseInput) (c : Records) : Nat :=
  match i with
  | .travel => c.dirPolarity.code
  | .belt => 0
  | .drum => c.drumMin

/-- R37: the readings that an input adds to its prescaler count. -/
def pulseReadings (i : PulseInput) (p : Pcu) : List Byte :=
  match i with
  | .travel =>
    i2 p.travelSpeed ++ w4 p.station ++ w4 p.high ++ w2 p.travelRem ++ w2 (if p.forward then 0 else 1)
  | .belt => w2 p.beltSpeed ++ w2 p.beltRem
  | .drum => w2 p.drumSpeed ++ w2 p.stall

/-- The number of a pulse input on the link. -/
def PulseInput.code : PulseInput → Nat
  | .travel => 0 | .belt => 1 | .drum => 2

/-- The fields of a PULSE record. -/
def PulseRec.fields (i : PulseInput) (opt : Nat) (r : PulseRec) : List Byte :=
  w2 (PulseInput.code i) ++ w2 r.edge.code ++ w2 r.prescale ++ w2 r.scale ++ w2 opt

/-- R37: the response of section PULSE. -/
def pulseResponse (n : Nat) (s : State) : List Byte :=
  let i : PulseInput := if n = 0 then .travel else if n = 1 then .belt else .drum
  (s.cfg.pulse.get i).fields i (optionField i s.cfg) ++ w2 (s.pcu.count.get i) ++ pulseReadings i s.pcu

/-- The fields of the BELT record. -/
def BeltRec.fields (r : BeltRec) : List Byte :=
  w2 0 ++ w2 r.length ++ w2 r.cap ++ w2 r.fill ++ w2 r.vmin ++ w2 r.vmax ++ w2 r.vfull ++ w2 r.kb ++ w2 r.fixed

/-- R139: the response of section BELT. -/
def beltResponse (s : State) : List Byte :=
  let r := s.cfg.belt
  let b := s.btq
  r.fields ++ (b.segs.map fun g => w2 g.vol ++ w2 g.tag.code).flatten
    ++ w4 (beltHolding b.segs) ++ w2 (segLen r) ++ w2 b.acc ++ w4 b.carry ++ (b.bins.map w4).flatten ++ w4 (rate b)
    ++ w2 b.mode.code ++ w2 b.spB ++ w2 b.drive ++ w2 b.stall ++ markField b.stalled ++ markField b.paused
    ++ w2 (beltTerm b r.cap s.cfg.limits.vmax) ++ w4 b.intakeTotal ++ w4 b.lostTotal

/-- R117: the DLM's readings. -/
def dlmReadings (s : State) : List Byte :=
  let d := s.dlm
  w2 d.load ++ markField d.usable ++ w2 (loadTerm d s.cfg.limits) ++ w2 d.winSum ++ w2 d.winCount ++ w2 d.lastMean
    ++ w2 d.hardCount ++ w2 d.softCount ++ w2 d.auto.code ++ w2 d.mode.code ++ w2 d.manual.code ++ w2 d.material.code

/-- R182: the CSC's readings; a stopped timer reads as absent (log 14). The silence timer's time left is always its full
period here, since the CONFIG_GET itself has restarted it (log 36). -/
def cscReadings (s : State) : List Byte :=
  w2 s.csc.state.code ++ w2 (causePosition s.csc.cause) ++ optField (s.csc.stateTimer.map Int.ofNat)
    ++ w2 s.csc.silenceLeft ++ markField s.csc.commissioned ++ markField s.pins.stop
    ++ ((ceilingTerms s).map fun t => w2 t.2).flatten ++ w2 (ceiling s) ++ w2 (ceilingReason s).code
    ++ le 2 (Config.permitCode (advancePermit s)).toNat

/-- The fields of the LIMITS record. -/
def LimitsRec.fields (r : LimitsRec) : List Byte :=
  w2 0 ++ w2 r.vmax ++ w2 r.vminAdv ++ w2 r.creep ++ w2 r.ls ++ w2 r.lh ++ w2 r.gain ++ w2 r.offset ++ w2 r.hardOn
    ++ w2 r.hardOff ++ w2 r.classLock ++ w2 r.classUnlock ++ w2 r.width

/-- R117, R182: the response of section LIMITS. -/
def limitsResponse (s : State) : List Byte := s.cfg.limits.fields ++ dlmReadings s ++ cscReadings s

/-- R195: the readings of a leg output. -/
def legReadings (low : Bool) (imax : Nat) (l : Leg) : List Byte :=
  let a := appliedDrive low l.held
  w2 l.owner.code ++ i2 l.held ++ w2 l.jogLeft ++ i2 a ++ w2 (coil a).code ++ w2 (coilCurrent a imax)

/-- The fields of the OUTPUT record of output n. -/
def OutRec.fields (n : Nat) (r : OutRec) : List Byte := w2 n ++ w2 r.imax ++ w2 r.polarity.code

/-- R195: the response of section OUTPUT. -/
def outputResponse (n : Nat) (s : State) : List Byte :=
  match Side.ofNat? n with
  | some i =>
    let r := s.cfg.out.get i
    r.fields n ++ legReadings s.vos.low r.imax (s.vos.legs.get i)
  | none =>
    OutRec.fields n ⟨s.cfg.beltImax, .normal⟩ ++ w2 s.vos.beltHeld ++ w2 s.vos.beltHeld
      ++ w2 (coilCurrent (s.vos.beltHeld : Int) s.cfg.beltImax)

/-- R195: the response of section SUPPLY. -/
def supplyResponse (s : State) : List Byte :=
  w2 0 ++ w2 s.cfg.lowLevel ++ w2 (lowThreshold s.cfg.lowLevel) ++ w2 s.vos.supply
    ++ le 2 (Config.conditionCode s.vos.low).toNat ++ w2 s.vos.lowCount ++ w2 s.vos.recoverCount
    ++ w2 s.vos.cutoffCount

/-- R204: the pending mark, enable and route of source number i. -/
def sourceReadings (e : Events) (i : Nat) : List Byte :=
  le 2 (Config.pendingCode (marked e.pending i)).toNat ++ bitField (marked e.enable i) ++ bitField (marked e.route i)

/-- The fields of the LINK record. -/
def LinkRec.fields (r : LinkRec) : List Byte := w2 0 ++ w2 r.silence ++ w2 r.period

/-- R204: the response of section LINK. -/
def linkResponse (s : State) : List Byte :=
  let l := s.li
  s.cfg.link.fields ++ bitField l.straps.cfg0 ++ bitField l.straps.cfg1 ++ bitField l.straps.cfg2 ++ bitField l.straps.cfg3
    ++ w2 l.rx.code ++ w2 l.replies.length ++ bitField l.notice ++ bitField l.status.isSome ++ markField l.dropped
    ++ optField (l.statusTimer.map Int.ofNat) ++ ((List.range 25).map (sourceReadings l.events)).flatten

/-! ### The request -/

/-- R204: a page of a response. -/
def pageReply (response : List Byte) (page : Nat) : Reply :=
  let pages := ceilDiv response.length 56
  if page < pages then
    replyOk (BitVec.ofNat 8 page :: BitVec.ofNat 8 pages :: (response.drop (56 * page)).take 56)
  else replyField 0xFE

/-- R204: a CONFIG_GET for a section whose index runs below a bound; the bytes after the section id are the index and
the page. -/
def getRecord (bound : Nat) (response : Nat → State → List Byte) (rest : List Byte) (s : State) : Reply :=
  match rest with
  | [a, b, page] => if u16 a b < bound then pageReply (response (u16 a b) s) page.toNat else replyField 0
  | _ => replyLength

end Sys2Proof.Machine
end

