-- ==== Sys2Proof/Machine/Records.lean ====
section
/-! DEFINITION. CONFIG_SET: the nine records written whole (R203), with what each write does at once. The fields arrive
after the section id. -/

namespace Sys2Proof.Machine

/-- R203: the fields judged in field order; a record in range is refused MODE outside CONFIG when a STRUCTURAL field
differs, and is written whole otherwise. -/
def writeRecord (checks : List Bool) (structural : Bool) (write : State → State) (s : State) : State × Reply :=
  match firstBad 0 checks with
  | some i => (s, replyField i)
  | none =>
    if s.csc.state ≠ .config ∧ structural = true then (s, replyMode) else (write s, replyOk [])

/-- The role of a field in range (R199). -/
def Role.ofField (x : Int) : Role :=
  if x = 0 then .unused else if x = 1 then .height else if x = 2 then .slope else .pressure

/-- The side of a field in range. -/
def Side.ofField (x : Int) : Side := if x = 0 then .left else .right

/-- The mode of a side, of a field in range. -/
def SideMode.ofField (x : Int) : SideMode := if x = 0 then .depth else .slope

/-- The edge select of a field in range. -/
def EdgeSelect.ofField (x : Int) : EdgeSelect := if x = 0 then .rising else if x = 1 then .falling else .both

/-- The direction polarity of a field in range. -/
def DirPolarity.ofField (x : Int) : DirPolarity := if x = 0 then .highForward else .lowForward

/-- The polarity of a field in range. -/
def Polarity.ofField (x : Int) : Polarity := if x = 0 then .normal else .swapped

/-- The pulse input of a field in range. -/
def PulseInput.ofField (x : Int) : PulseInput := if x = 0 then .travel else if x = 1 then .belt else .drum

/-- A channel number in 0..7. -/
def Chan.ofField (x : Int) : Chan := (Chan.ofNat? x.toNat).getD .a0

/-! ### SENSOR (R23) -/

/-- R23, R4: a SENSOR record written; a changed role restarts the qualification, and CHANNEL_FAULT is judged (R14). -/
def writeSensor (i : Chan) (r : SensorRec) (s : State) : State :=
  if (s.sfe.chans.get i).cfg.role ≠ r.role then
    judgeChannelFault (s.mapChan i fun c => { c with cfg := r }.requalify)
  else s.mapChan i fun c => { c with cfg := r }

/-- CONFIG_SET of section SENSOR. -/
def setSensor (rest : List Byte) (s : State) : State × Reply :=
  match readFields [false, false, false, true, false, false, false, true] rest with
  | [ch, role, side, trim, lockN, unlockN, tol, zero] =>
    let i := Chan.ofField ch
    let r : SensorRec :=
      { role := Role.ofField role, side := Side.ofField side, trim := trim, lockN := lockN.toNat,
        unlockN := unlockN.toNat, tol := tol.toNat, zero := zero }
    let old := (s.sfe.chans.get i).cfg
    writeRecord
      [within 0 7 ch, within 0 3 role, within 0 1 side, within (-7) 7 trim, within 1 31 lockN, within 1 7 unlockN,
       within 1 500 tol, within (-20000) 20000 zero]
      (old.role != r.role || old.side != r.side) (writeSensor i r) s
  | _ => (s, replyLength)

/-! ### SIDE (R52, R98, R104) -/

/-- R98: the integrator limited to the active gain set of a record. -/
def Loop.limitTo (r : SideRec) (l : Loop) : Loop := { l with integ := limitInteg (r.gains l.gain) l.integ }

/-- R52, R55, R98: a SIDE record written; a changed mode of RIGHT empties the plan. -/
def writeSide (i : Side) (r : SideRec) (s : State) : State :=
  let old := s.cfg.side.get i
  let s1 := (s.mapCfg fun c => { c with side := c.side.set i r }).mapDlu fun d => d.set i ((d.get i).limitTo r)
  if i = .right ∧ old.mode ≠ r.mode then emptyPlan (s1.mapSru fun b => { b with modeChanged := true }) else s1

/-- CONFIG_SET of section SIDE. -/
def setSide (rest : List Byte) (s : State) : State × Reply :=
  match readFields (List.replicate 16 false) rest with
  | [side, mode, minMembers, rebaseRate, deadband, nKp, nKi, nIlim, nUmax, hKp, hKi, hIlim, hUmax, vmin, engageTol,
     farTol] =>
    let i := Side.ofField side
    let r : SideRec :=
      { mode := SideMode.ofField mode, minMembers := minMembers.toNat, rebaseRate := rebaseRate.toNat,
        deadband := deadband.toNat,
        normal := { kp := nKp.toNat, ki := nKi.toNat, ilim := nIlim.toNat, umax := nUmax.toNat },
        hard := { kp := hKp.toNat, ki := hKi.toNat, ilim := hIlim.toNat, umax := hUmax.toNat },
        vmin := vmin.toNat, engageTol := engageTol.toNat, farTol := farTol.toNat }
    let old := s.cfg.side.get i
    writeRecord
      [within 0 1 side, within 0 (if i = .left then 0 else 1) mode, within 1 3 minMembers, within 1 50 rebaseRate,
       within 0 50 deadband, within 0 255 nKp, within 0 255 nKi, within 0 1000 nIlim, within 100 1000 nUmax,
       within 0 255 hKp, within 0 255 hKi, within 0 1000 hIlim, within 100 1000 hUmax, within 0 400 vmin,
       within 1 100 engageTol, within 10 500 farTol]
      (old.mode != r.mode || old.minMembers != r.minMembers) (writeSide i r) s
  | _ => (s, replyLength)

/-! ### PLAN (R76, R78) -/

/-- R78: sp limited by a max depth that is written. -/
def Loop.limitDepth (maxDepth : Nat) (l : Loop) : Loop := { l with sp := min l.sp (maxDepth : Int) }

/-- R76, R78, R73: the PLAN record written. -/
def writePlan (r : PlanRec) (s : State) : State :=
  judgePlanLow ((s.mapCfg fun c => { c with plan := r }).mapDlu fun d => d.map (Loop.limitDepth r.maxDepth))

/-- CONFIG_SET of section PLAN. -/
def setPlan (rest : List Byte) (s : State) : State × Reply :=
  match readFields (List.replicate 8 false) rest with
  | [index, maxSlope, engageRate, liftRate, clearance, maxDepth, lowMark, timeLimit] =>
    writeRecord
      [within 0 0 index, within 1 500 maxSlope, within 1 20 engageRate, within 1 30 liftRate, within 0 500 clearance,
       within 0 3500 maxDepth, within 0 32 lowMark, within 1 60 timeLimit]
      false
      (writePlan { maxSlope := maxSlope.toNat, engageRate := engageRate.toNat, liftRate := liftRate.toNat,
                   clearance := clearance.toNat, maxDepth := maxDepth.toNat, lowMark := lowMark.toNat,
                   timeLimit := timeLimit.toNat }) s
  | _ => (s, replyLength)

/-! ### PULSE (R36) -/

/-- Whether a prescale is a power of two from 1 to 256 (R36). -/
def goodPrescale (x : Int) : Bool := [1, 2, 4, 8, 16, 32, 64, 128, 256].contains x

/-- The range of an input's scale. -/
def goodScale (i : PulseInput) (x : Int) : Bool :=
  match i with
  | .travel => within 100 20000 x
  | .belt => within 100 20000 x
  | .drum => within 1 512 x

/-- The range of an input's option. -/
def goodOption (i : PulseInput) (x : Int) : Bool :=
  match i with
  | .travel => within 0 1 x
  | .belt => within 0 0 x
  | .drum => within 10 200 x

/-- The records with an input's option written. -/
def writeOption (i : PulseInput) (x : Int) (c : Records) : Records :=
  match i with
  | .travel => { c with dirPolarity := DirPolarity.ofField x }
  | .belt => c
  | .drum => { c with drumMin := x.toNat }

/-- R36: the remainder kept for an input returned to 0. -/
def clearRemainder (i : PulseInput) (p : Pcu) : Pcu :=
  match i with
  | .travel => { p with travelRem := 0 }
  | .belt => { p with beltRem := 0 }
  | .drum => p

/-- R36, R25, R26: a PULSE record written. -/
def writePulse (i : PulseInput) (r : PulseRec) (opt : Int) (s : State) : State :=
  let old := s.cfg.pulse.get i
  let s1 := s.mapCfg fun c => writeOption i opt { c with pulse := c.pulse.set i r }
  let s2 := if old.edge ≠ r.edge ∨ old.prescale ≠ r.prescale ∨ old.scale ≠ r.scale then
      s1.mapPcu fun p => { p with count := p.count.set i 0 }
    else s1
  if old.scale ≠ r.scale then s2.mapPcu (clearRemainder i) else s2

/-- CONFIG_SET of section PULSE. -/
def setPulse (rest : List Byte) (s : State) : State × Reply :=
  match readFields (List.replicate 5 false) rest with
  | [input, edge, prescale, scale, opt] =>
    let i := PulseInput.ofField input
    let r : PulseRec := { edge := EdgeSelect.ofField edge, prescale := prescale.toNat, scale := scale.toNat }
    writeRecord
      [within 0 2 input, within 0 2 edge, goodPrescale prescale, goodScale i scale, goodOption i opt]
      ((s.cfg.pulse.get i).scale != r.scale || (i == .travel && s.cfg.dirPolarity != DirPolarity.ofField opt))
      (writePulse i r opt) s
  | _ => (s, replyLength)

/-! ### BELT (R136, R137) -/

/-- R136, R137: the BELT record written. -/
def writeBelt (r : BeltRec) (s : State) : State :=
  let s1 := s.mapCfg fun c => { c with belt := r }
  let s2 := if s.cfg.belt.length ≠ r.length then s1.mapBtq fun b => { b with acc := 0 } else s1
  if s.cfg.belt.cap ≠ r.cap then applyCapacity s2 else s2

/-- CONFIG_SET of section BELT. -/
def setBelt (rest : List Byte) (s : State) : State × Reply :=
  match readFields (List.replicate 9 false) rest with
  | [index, length, cap, fill, vmin, vmax, vfull, kb, fixed] =>
    writeRecord
      [within 0 0 index, within 3200 25600 length, within 10 5000 cap, within 20 100 fill, within 100 6000 vmin,
       within 100 6000 vmax, within 100 6000 vfull, within 0 255 kb, within 100 6000 fixed]
      (s.cfg.belt.length != length.toNat)
      (writeBelt { length := length.toNat, cap := cap.toNat, fill := fill.toNat, vmin := vmin.toNat,
                   vmax := vmax.toNat, vfull := vfull.toNat, kb := kb.toNat, fixed := fixed.toNat }) s
  | _ => (s, replyLength)

/-! ### LIMITS (R116) -/

/-- R116: the LIMITS record written. -/
def writeLimits (r : LimitsRec) (s : State) : State := s.mapCfg fun c => { c with limits := r }

/-- CONFIG_SET of section LIMITS. -/
def setLimits (rest : List Byte) (s : State) : State × Reply :=
  match readFields (List.replicate 13 false) rest with
  | [index, vmax, vminAdv, creep, ls, lh, gain, offset, hardOn, hardOff, classLock, classUnlock, width] =>
    writeRecord
      [within 0 0 index, within 10 600 vmax, within 0 600 vminAdv, within 0 600 creep, within 0 1000 ls,
       within 0 1000 lh, within 1 64 gain, within 0 4000 offset, within 0 1000 hardOn, within 0 1000 hardOff,
       within 1 15 classLock, within 1 7 classUnlock, within 500 4400 width]
      (s.cfg.limits.width != width.toNat)
      (writeLimits { vmax := vmax.toNat, vminAdv := vminAdv.toNat, creep := creep.toNat, ls := ls.toNat,
                     lh := lh.toNat, gain := gain.toNat, offset := offset.toNat, hardOn := hardOn.toNat,
                     hardOff := hardOff.toNat, classLock := classLock.toNat, classUnlock := classUnlock.toNat,
                     width := width.toNat }) s
  | _ => (s, replyLength)

/-! ### OUTPUT and SUPPLY (R194) -/

/-- R194: the OUTPUT record of output n written; BELT_DRV's polarity is NORMAL alone. -/
def writeOutput (n imax polarity : Int) (s : State) : State :=
  if n = 2 then s.mapCfg fun c => { c with beltImax := imax.toNat }
  else
    let r : OutRec := { imax := imax.toNat, polarity := Polarity.ofField polarity }
    s.mapCfg fun c => { c with out := c.out.set (Side.ofField n) r }

/-- CONFIG_SET of section OUTPUT. -/
def setOutput (rest : List Byte) (s : State) : State × Reply :=
  match readFields (List.replicate 3 false) rest with
  | [n, imax, polarity] =>
    writeRecord
      [within 0 2 n, within 100 2000 imax, within 0 (if n = 2 then 0 else 1) polarity]
      (n != 2 && (s.cfg.out.get (Side.ofField n)).polarity != Polarity.ofField polarity)
      (writeOutput n imax polarity) s
  | _ => (s, replyLength)

/-- CONFIG_SET of section SUPPLY. -/
def setSupply (rest : List Byte) (s : State) : State × Reply :=
  match readFields (List.replicate 2 false) rest with
  | [index, level] =>
    writeRecord [within 0 0 index, within 0 3 level] false
      (fun t => t.mapCfg fun c => { c with lowLevel := level.toNat }) s
  | _ => (s, replyLength)

/-! ### LINK (R205) -/

/-- Whether a status period is 0 or a multiple of 10 within 20..1000 (R205). -/
def goodPeriod (x : Int) : Bool := x == 0 || (within 20 1000 x && x % 10 == 0)

/-- R205: the LINK record written: the status period timer stops, or starts again. -/
def writeLink (k period : Nat) (s : State) : State :=
  (s.mapCfg fun c => { c with link := { silence := k, period := period } }).mapLi fun l =>
    { l with statusTimer := if period = 0 then none else some period }

/-- CONFIG_SET of section LINK. -/
def setLink (rest : List Byte) (s : State) : State × Reply :=
  match readFields (List.replicate 3 false) rest with
  | [index, k, period] =>
    writeRecord [within 0 0 index, within 2 9 k, goodPeriod period] false (writeLink k.toNat period.toNat) s
  | _ => (s, replyLength)

end Sys2Proof.Machine
end

