-- ==== Sys2Proof/Machine/Requests.lean ====
section
/-! DEFINITION. What the owner of each request does with it at step 6 of R198: the checks in the order of its rule, the
effect, and the reply. A payload of another length never reaches an owner; the last arm of each match answers LENGTH. -/

namespace Sys2Proof.Machine

/-! ### SFE -/

/-- The nine signed points of a table. -/
def readPoints (bs : List Byte) : List Int := readFields (List.replicate 9 true) bs

/-- R9: LINTAB_LOAD. -/
def lintabLoad (payload : List Byte) (s : State) : State × Reply :=
  match payload with
  | a :: b :: rest =>
    let points := readPoints rest
    match firstBad 0 (decide (u16 a b < 8) :: points.map (within (-20000) 20000)) with
    | some i => (s, replyField i)
    | none =>
      if s.csc.state ≠ .config then (s, replyMode)
      else
        (judgeChannelFault (s.mapChan (Chan.ofField (u16 a b : Int)) fun c => { c with table := points }.requalify),
          replyOk [])
  | _ => (s, replyLength)

/-- R16: SUBSTITUTE. -/
def substitute (payload : List Byte) (s : State) : State × Reply :=
  match payload with
  | [ch, a, b] =>
    match Chan.ofNat? ch.toNat with
    | none => (s, replyField 0)
    | some i =>
      if within (-20000) 20000 (s16 a b) = false then (s, replyField 1)
      else if s.csc.state = .config then (s, replyMode)
      else if (s.sfe.chans.get i).cfg.role = .unused then (s, replyPrerequisite)
      else
        let s1 := s.mapChan i fun c => { c with subst := some (s16 a b) }
        (if captureInvolves s1 [i] then failCapture s1 else s1, replyOk [])
  | _ => (s, replyLength)

/-- R17: RELEASE. -/
def release (payload : List Byte) (s : State) : State × Reply :=
  match payload with
  | [ch] =>
    match Chan.ofNat? ch.toNat with
    | none => (s, replyField 0)
    | some i => (s.mapChan i fun c => { c with subst := none }, replyOk [])
  | _ => (s, replyLength)

/-- R19: the channels that a ZERO involves. -/
def zeroChannels (kind number : Nat) (s : State) : List Chan :=
  if kind = 0 then (Chan.ofNat? number).toList
  else heightSet s.sfe.chans (if number = 0 then .left else .right)

/-- R19: ZERO. -/
def zeroRequest (payload : List Byte) (s : State) : State × Reply :=
  match payload with
  | [kind, number, a, b] =>
    let involved := zeroChannels kind.toNat number.toNat s
    match firstBad 0 [decide (kind.toNat ≤ 1), decide (number.toNat ≤ if kind.toNat = 0 then 7 else 1),
                      within (-5000) 5000 (s16 a b)] with
    | some i => (s, replyField i)
    | none =>
      if s.csc.state ≠ .ready then (s, replyMode)
      else if s.sfe.capture.isSome then (s, replyBusy)
      else if involved.isEmpty || !(involved.all fun i => (s.sfe.chans.get i).cfg.role == .height) then
        (s, replyPrerequisite)
      else if !(involved.all fun i => (s.sfe.chans.get i).pubState == .qualified) then (s, replyPrerequisite)
      else
        (s.mapSfe fun f =>
          { f with capture := some { sums := involved.map fun i => (i, 0), depthNow := s16 a b, count := 0 } },
         replyAccepted)
  | _ => (s, replyLength)

/-! ### PCU -/

/-- R31: STATION_SET. -/
def stationSet (payload : List Byte) (s : State) : State × Reply :=
  match payload with
  | [a, b, c, d] =>
    let v := u32 a b c d
    if Config.maxStation < v then (s, replyField 0)
    else if s.csc.state ≠ .ready then (s, replyMode)
    else
      (rebaseHigh v (s.mapPcu fun p => { p with station := v, travelRem := 0, count := p.count.set .travel 0 }),
        replyOk [])
  | _ => (s, replyLength)

/-! ### PT -/

/-- A waypoint record as the link carries it (R199, section 11.8). -/
structure RawWaypoint where
  station : Nat
  left    : Nat
  right   : BitVec 16
  ramp    : Nat
  deriving DecidableEq, Repr

/-- The whole waypoint records of a payload. -/
def readWaypoints : List Byte → List RawWaypoint
  | a :: b :: c :: d :: e :: f :: g :: h :: i :: j :: rest =>
    { station := u32 a b c d, left := u16 e f, right := BitVec.ofNat 16 (u16 g h), ramp := u16 i j }
      :: readWaypoints rest
  | _ => []

/-- The right value of a record, read for a mode of RIGHT. -/
def RawWaypoint.rightValue (mode : SideMode) (w : RawWaypoint) : Int :=
  match mode with
  | .depth => (w.right.toNat : Int)
  | .slope => w.right.toInt

/-- R54: the range of the right value. -/
def goodRight (mode : SideMode) (x : Int) : Bool :=
  match mode with
  | .depth => within 0 3500 x
  | .slope => within (-1000) 1000 x

/-- The waypoint of a record; an override of 0 stands for an absent one (R56). -/
def RawWaypoint.toWaypoint (mode : SideMode) (w : RawWaypoint) : Waypoint :=
  { station := w.station, left := w.left, right := w.rightValue mode, ramp := if w.ramp = 0 then none else some w.ramp }

/-- R56: the range checks of one record, in order. -/
def RawWaypoint.checks (mode : SideMode) (w : RawWaypoint) : List Bool :=
  [decide (w.station ≤ Config.maxStation), decide (w.left ≤ 3500), goodRight mode (w.rightValue mode),
   decide (w.ramp ≤ 500)]

/-- R56: the checks of the records from position p on; `last` is the station of the record before, `size` the list size
before the request. -/
def checkAppend (mode : SideMode) (h size : Nat) : Nat → Option Nat → List RawWaypoint → Option Reply
  | _, _, [] => none
  | p, last, w :: rest =>
    match firstBad 0 (w.checks mode) with
    | some f => some (replyField (4 * p + f))
    | none =>
      if w.station ≤ h ∨ (last.any fun x => decide (w.station ≤ x)) = true then some (replyOrder p)
      else if 128 < size + p + 1 then some (replyFull p)
      else checkAppend mode h size (p + 1) (some w.station) rest

/-- R56, R57: PLAN_APPEND. -/
def planAppend (payload : List Byte) (s : State) : State × Reply :=
  let mode := s.cfg.side.right.mode
  let ws := readWaypoints payload
  match checkAppend mode s.pcu.high s.pt.list.length 0 (lastStation s.pt.list) ws with
  | some r => (s, r)
  | none =>
    (judgePlanLow (s.mapPt fun p => { p with list := p.list ++ ws.map (RawWaypoint.toWaypoint mode), armed := true }),
      replyOk [])

/-- R59: PLAN_CLEAR. -/
def planClear (s : State) : State × Reply :=
  if s.csc.state = .holdHard ∧ s.csc.cause = some .stop then (s, replyMode)
  else
    let s1 := emptyPlan s
    (if s.csc.state.active then raise .planEnd s1 else s1, replyOk [])

/-- The ten bytes of a waypoint record. -/
def Waypoint.bytes (w : Waypoint) : List Byte := w4 w.station ++ w2 w.left ++ i2 w.right ++ w2 (w.ramp.getD 0)

/-- The eleven bytes of a window record. -/
def Window.bytes (w : Window) : List Byte :=
  BitVec.ofNat 8 (w.valid.toNat + 2 * w.entered.toNat) :: (w4 w.start ++ w2 w.length ++ w2 w.lead ++ w2 w.lift)

/-- R60: PLAN_READ of WAYPOINTS. -/
def readPlan (start : Nat) (s : State) : Reply :=
  let l := s.pt.list
  if l.length < start then replyField 1
  else
    let k := min 5 (l.length - start)
    replyOk ([BitVec.ofNat 8 l.length, BitVec.ofNat 8 (countAhead s.pcu.high l),
              BitVec.ofNat 8 (planPosition s.pcu.high l).code, BitVec.ofNat 8 start, BitVec.ofNat 8 k]
      ++ (((l.drop start).take k).map Waypoint.bytes).flatten)

/-- R60: PLAN_READ of WINDOWS. -/
def readWindows (start : Nat) (s : State) : Reply :=
  if 128 < start then replyField 1 else replyOk (s.pt.windows.all.map Window.bytes).flatten

/-- R60: PLAN_READ. -/
def planRead (payload : List Byte) (s : State) : State × Reply :=
  match payload with
  | [selector, start] =>
    (s, if selector.toNat = 0 then readPlan start.toNat s
        else if selector.toNat = 1 then readWindows start.toNat s
        else replyField 0)
  | _ => (s, replyLength)

/-- The window slot of an index 0..3. -/
def Windows.get (w : Windows) (i : Nat) : Window :=
  match i with
  | 0 => w.w0
  | 1 => w.w1
  | 2 => w.w2
  | _ => w.w3

/-- The windows with the slot of an index 0..3 replaced. -/
def Windows.set (w : Windows) (i : Nat) (x : Window) : Windows :=
  match i with
  | 0 => { w with w0 := x }
  | 1 => { w with w1 := x }
  | 2 => { w with w2 := x }
  | _ => { w with w3 := x }

/-- R68: two spans overlap when each begins before the other ends. -/
def Window.overlaps (v w : Window) : Bool :=
  decide ((v.start : Int) - v.lead < (w.start + w.length : Nat)) &&
    decide ((w.start : Int) - w.lead < (v.start + v.length : Nat))

/-- R68: whether a window overlaps a valid window of another index. -/
def overlapsOther (ws : Windows) (i : Nat) (w : Window) : Bool :=
  [0, 1, 2, 3].any fun j => j != i && (ws.get j).valid && (ws.get j).overlaps w

/-- R68, R69: WINDOW_SET. -/
def windowSet (payload : List Byte) (s : State) : State × Reply :=
  match payload with
  | [i, a, b, c, d, e, f, g, h, k, l] =>
    let start := u32 a b c d
    let length := u16 e f
    let lead := u16 g h
    let lift := u16 k l
    match firstBad 0 [decide (i.toNat < 4), decide (start ≤ Config.maxStation),
                      decide (100 ≤ length) && decide (length ≤ 50000), decide (lead ≤ 20000),
                      decide (lift ≤ 3500)] with
    | some x => (s, replyField x)
    | none =>
      let w : Window :=
        { valid := true, entered := decide (start ≤ s.pcu.high + lead), start := start, length := length, lead := lead,
          lift := lift }
      if start + length ≤ s.pcu.high then (s, replyOrder 0)
      else if overlapsOther s.pt.windows i.toNat w then (s, replyOrder 0)
      else
        let s1 := s.mapPt fun p => { p with windows := p.windows.set i.toNat w }
        (if w.entered then raise .windowEntered s1 else s1, replyOk [])
  | _ => (s, replyLength)

/-- R72: WINDOW_CLEAR; on a slot that is already invalid it changes nothing. -/
def windowClear (payload : List Byte) (s : State) : State × Reply :=
  match payload with
  | [i] =>
    if i.toNat < 4 then
      (if (s.pt.windows.get i.toNat).valid then
         s.mapPt fun p =>
           { p with windows := p.windows.set i.toNat { p.windows.get i.toNat with valid := false, entered := false } }
       else s,
       replyOk [])
    else (s, replyField 0)
  | _ => (s, replyLength)

/-! ### CSC -/

/-- How many channels have a role. -/
def roleCount (r : Role) (s : State) : Nat := (channelsWith s.sfe.chans fun c => c.cfg.role == r).length

/-- R162: the checks of COMMISSION in item order: the section id, the item number and the check. -/
def commissionChecks (s : State) : List (Nat × Nat × Bool) :=
  let c := s.cfg
  let slope := c.side.right.mode == .slope
  [(2, 1, decide (c.side.left.minMembers ≤ (heightSet s.sfe.chans .left).length)),
   (2, 2, slope || decide (c.side.right.minMembers ≤ (heightSet s.sfe.chans .right).length)),
   (1, 3, !slope || roleCount .slope s == 1),
   (1, 4, roleCount .pressure s == 1),
   (6, 5, decide (c.limits.ls < c.limits.lh)),
   (6, 6, decide (c.limits.vminAdv ≤ c.limits.vmax) && decide (c.limits.creep ≤ c.limits.vmax)),
   (5, 7, c.belt.length % 32 == 0),
   (5, 8, decide (c.belt.vmin ≤ c.belt.vmax) && decide (c.belt.vmax ≤ c.belt.vfull)),
   (6, 9, decide (c.limits.hardOff < c.limits.hardOn))]

/-- The first check that fails: its section id and item number. -/
def firstFailing : List (Nat × Nat × Bool) → Option (Nat × Nat)
  | [] => none
  | (sec, item, ok) :: rest => if ok then firstFailing rest else some (sec, item)

/-- R162: COMMISSION. -/
def commission (s : State) : State × Reply :=
  if s.csc.state ≠ .config then (s, replyMode)
  else
    match firstFailing (commissionChecks s) with
    | some x => (s, replyIncomplete x.1 x.2)
    | none => ((changeState .ready s).mapCsc fun c => { c with commissioned := true }, replyOk [])

/-- R163: DECOMMISSION. -/
def decommission (s : State) : State × Reply :=
  if s.csc.state ≠ .ready then (s, replyMode)
  else ((changeState .config s).mapCsc fun c => { c with commissioned := false }, replyOk [])

/-- R164: ENGAGE. -/
def engage (s : State) : State × Reply :=
  if s.csc.state ≠ .ready then (s, replyMode)
  else if s.sfe.capture.isSome then (s, replyBusy)
  else if anyLost s ∨ s.pcu.drumSpeed < s.cfg.drumMin ∨ s.pt.list = [] ∨ s.pins.stop = true then
    (s, replyPrerequisite)
  else (changeState .engaging s, replyOk [])

/-- R166: LIFT. -/
def lift (s : State) : State × Reply :=
  match s.csc.state with
  | .engaging | .cutting | .holdSoft => (changeState .lifting s, replyOk [])
  | .lifting => (s, replyOk [])
  | .config | .ready | .holdHard => (s, replyMode)

/-- R169: HOLD of kind SOFT. -/
def holdSoft (s : State) : State × Reply :=
  match s.csc.state with
  | .engaging | .cutting | .lifting => (enterHold .holdSoft .request s, replyOk [])
  | .holdSoft => (s, replyOk [])
  | .config | .ready | .holdHard => (s, replyMode)

/-- R169: HOLD of kind HARD. -/
def holdHard (s : State) : State × Reply :=
  match s.csc.state with
  | .ready | .engaging | .cutting | .lifting | .holdSoft => (enterHold .holdHard .request s, replyOk [])
  | .config | .holdHard => (s, replyMode)

/-- R169: HOLD. -/
def hold (payload : List Byte) (s : State) : State × Reply :=
  match payload with
  | [kind] =>
    if kind.toNat = 0 then holdSoft s else if kind.toNat = 1 then holdHard s else (s, replyField 0)
  | _ => (s, replyLength)

/-- R170: RESUME. -/
def resume (s : State) : State × Reply :=
  match s.csc.state with
  | .holdSoft =>
    if anyLost s ∨ s.pcu.drumSpeed < s.cfg.drumMin ∨ s.pins.stop = true then (s, replyPrerequisite)
    else (changeState .engaging s, replyOk [])
  | .holdHard =>
    if s.pins.stop = true ∨ s.vos.supply < Config.cutoffLevel then (s, replyPrerequisite)
    else (changeState .ready s, replyOk [])
  | .config | .ready | .engaging | .cutting | .lifting => (s, replyMode)

/-! ### VOS -/

/-- R187, R188: JOG. -/
def jog (payload : List Byte) (s : State) : State × Reply :=
  match payload with
  | [out, a, b, c, d] =>
    match Side.ofNat? out.toNat with
    | none => (s, replyField 0)
    | some i =>
      if within (-1000) 1000 (s16 a b) = false then (s, replyField 1)
      else if within 50 5000 (u16 c d : Int) = false then (s, replyField 2)
      else if s.csc.state ≠ .ready then (s, replyMode)
      else
        ((s.mapCsc Csc.takeJog).mapVos fun v =>
            { v with legs := v.legs.set i { owner := .jog, held := s16 a b, jogLeft := u16 c d } },
          replyOk [])
  | _ => (s, replyLength)

/-! ### DLM -/

/-- R113: MATERIAL_SET. -/
def materialSet (payload : List Byte) (s : State) : State × Reply :=
  match payload with
  | [mode, cls] =>
    match firstBad 0 [decide (mode.toNat ≤ 1), decide (cls.toNat ≤ 1)] with
    | some i => (s, replyField i)
    | none =>
      let m : Material := if cls.toNat = 0 then .soft else .hard
      (judgeMaterial (s.mapDlm fun d =>
          if mode.toNat = 0 then { d with mode := .auto } else { d with mode := .manual, manual := m }),
        replyOk [])
  | _ => (s, replyLength)

/-! ### BTQ -/

/-- The belt mode of a code, if there is one (R199). -/
def BeltMode.ofNat? : Nat → Option BeltMode
  | 0 => some .stop
  | 1 => some .fixed
  | 2 => some .follow
  | _ => none

/-- R133, R134: a belt mode taken: a stall is cleared. One that has been counted and not yet called is called first, so
that its event stands (log 3). -/
def takeBeltMode (m : BeltMode) (s : State) : State :=
  setCond .beltStall false ((settleBeltStall s).mapBtq fun b => { b with mode := m, stalled := false, stall := 0 })

/-- R134: BELT_MODE. -/
def beltMode (payload : List Byte) (s : State) : State × Reply :=
  match payload with
  | [mode] =>
    match BeltMode.ofNat? mode.toNat with
    | none => (s, replyField 0)
    | some m => if s.csc.state = .config then (s, replyMode) else (takeBeltMode m s, replyOk [])
  | _ => (s, replyLength)

/-! ### TLU -/

/-- R142: TRUCK_NEXT. -/
def truckNext (payload : List Byte) (s : State) : State × Reply :=
  match payload with
  | [a, b, c, d, e, f] =>
    let number := u16 a b
    let target := u32 c d e f
    if number = 0 then (s, replyField 0)
    else if target < 10 ∨ 200000 < target then (s, replyField 1)
    else if s.tlu.next.isSome then (s, replyBusy)
    else (s.mapTlu fun t => { t with next := some { number := number, target := target } }, replyOk [])
  | _ => (s, replyLength)

/-- R127: a retagging of the queue, after which the pause mark is worked out. -/
def retagQueue (a b : Tag) (s : State) : State :=
  workOutPause (s.mapBtq fun q => { q with segs := retag a b q.segs })

/-- R143: TRUCK_IN. -/
def truckIn (s : State) : State × Reply :=
  match s.tlu.current, s.tlu.next with
  | some _, _ => (s, replyBusy)
  | none, none => (s, replyPrerequisite)
  | none, some t =>
    let s1 := s.mapTlu fun b =>
      { b with next := none,
               current := some { state := .loading, number := t.number, target := t.target, delivered := 0,
                                 opened := s.pcu.station } }
    (predictClosing (retagQueue .next .current s1), replyOk [])

/-- R150: TRUCK_OUT. -/
def truckOut (s : State) : State × Reply :=
  match s.tlu.current with
  | none => (s, replyPrerequisite)
  | some _ => (retagQueue .current .next (closeTruck .out s), replyOk [])

/-- FULL 0, OUT 1 (section 11.8). -/
def CloseReason.code : CloseReason → Nat
  | .full => 0
  | .out => 1

/-- The nineteen bytes of a tally record. -/
def Tally.bytes (t : Tally) : List Byte :=
  w2 t.number ++ w4 t.target ++ w4 t.delivered ++ w4 t.opened ++ w4 t.closed ++ [BitVec.ofNat 8 t.reason.code]

/-- R153: TALLY_READ. -/
def tallyRead (payload : List Byte) (s : State) : State × Reply :=
  match payload with
  | [i] =>
    match s.tlu.log[i.toNat]? with
    | none => (s, replyField 0)
    | some t => (s, replyOk (t.bytes ++ [BitVec.ofNat 8 s.tlu.log.length] ++ w4 s.tlu.closedTotal))
  | _ => (s, replyLength)

/-! ### LI -/

/-- R206: IDENTIFY. -/
def identify (s : State) : State × Reply :=
  let p := s.li.straps
  let bit (b : Bool) : Byte := BitVec.ofNat 8 b.toNat
  (s, replyOk [0x54#8, 0x44#8, 0x4C#8, 0x24#8, 0x41#8, bit p.cfg0, bit p.cfg1, bit p.cfg2, bit p.cfg3,
               bit s.csc.commissioned])

/-- R208: POLL: the status content of this moment, whose byte 0 is the reason OK. -/
def poll (s : State) : State × Reply := (s, statusContent s)

/-- R202: RESTART. -/
def restart (s : State) : State × Reply := (s.mapLi fun l => { l with restarting := true }, replyOk [])

/-- R212: the enable and route of source number i written; a level source that it enables latches at once. -/
def writeRoute (i : Nat) (enable route : Bool) (s : State) : State :=
  let s1 := s.mapLi fun l =>
    { l with events := { l.events with enable := setMark l.events.enable i enable,
                                       route := setMark l.events.route i route } }
  if enable && marked levelSources i && marked s.li.events.cond i then latch i s1 else s1

/-- R212: EVENT_ROUTE. -/
def eventRoute (payload : List Byte) (s : State) : State × Reply :=
  match payload with
  | [source, enable, route] =>
    match firstBad 0 [decide (source.toNat < 25), decide (enable.toNat ≤ 1), decide (route.toNat ≤ 1)] with
    | some i => (s, replyField i)
    | none => (writeRoute source.toNat (enable.toNat == 1) (route.toNat == 1) s, replyOk [])
  | _ => (s, replyLength)

/-- R211: the marks acknowledged; a level source that is enabled and true latches again, without a notice (R210). -/
def acknowledge (mask : EventWord) (e : Events) : Events :=
  { e with pending := (e.pending &&& ~~~mask) ||| (mask &&& e.enable &&& e.cond &&& levelSources) }

/-- R211: EVENT_ACK. -/
def eventAck (payload : List Byte) (s : State) : State × Reply :=
  match payload with
  | [a, b, c, d] =>
    let s1 := s.mapLi fun l => { l with events := acknowledge (BitVec.ofNat 25 (u32 a b c d)) l.events }
    (s1, replyOk (eventWord s1))
  | _ => (s, replyLength)

end Sys2Proof.Machine
end

