-- ==== Sys2Proof/Machine/Receiver.lean ====
section
/-! DEFINITION. The kind table of R198, the form each kind has, and the receiver (R197). -/

namespace Sys2Proof.Machine

/-- The request kinds of R198. -/
inductive ReqKind where
  | identify | poll | restart | configSet | configGet | lintabLoad | commission | decommission | planAppend | planClear
  | planRead | windowSet | windowClear | stationSet | engage | lift | hold | resume | jog | zero | substitute | release
  | materialSet | beltMode | truckNext | truckIn | truckOut | tallyRead | eventRoute | eventAck
  deriving DecidableEq, Repr

/-- The code of a kind. -/
def ReqKind.code : ReqKind → Byte
  | .identify => 0x01#8 | .poll => 0x02#8 | .restart => 0x03#8
  | .configSet => 0x10#8 | .configGet => 0x11#8 | .lintabLoad => 0x12#8
  | .commission => 0x13#8 | .decommission => 0x14#8
  | .planAppend => 0x20#8 | .planClear => 0x21#8 | .planRead => 0x22#8
  | .windowSet => 0x23#8 | .windowClear => 0x24#8 | .stationSet => 0x25#8
  | .engage => 0x30#8 | .lift => 0x31#8 | .hold => 0x32#8 | .resume => 0x33#8
  | .jog => 0x34#8 | .zero => 0x35#8 | .substitute => 0x36#8 | .release => 0x37#8
  | .materialSet => 0x38#8
  | .beltMode => 0x40#8 | .truckNext => 0x41#8 | .truckIn => 0x42#8 | .truckOut => 0x43#8
  | .tallyRead => 0x44#8
  | .eventRoute => 0x50#8 | .eventAck => 0x51#8

/-- The kinds in the order of the table. -/
def ReqKind.all : List ReqKind :=
  [.identify, .poll, .restart, .configSet, .configGet, .lintabLoad, .commission, .decommission, .planAppend,
   .planClear, .planRead, .windowSet, .windowClear, .stationSet, .engage, .lift, .hold, .resume, .jog, .zero,
   .substitute, .release, .materialSet, .beltMode, .truckNext, .truckIn, .truckOut, .tallyRead, .eventRoute, .eventAck]

/-- The kind of a code, if it stands in the table. -/
def ReqKind.ofByte? (b : Byte) : Option ReqKind := ReqKind.all.find? fun k => k.code == b

/-- The sections of R203. -/
inductive Part where
  | sensor | side | plan | pulse | belt | limits | output | link | supply
  deriving DecidableEq, Repr

/-- The id of a section. -/
def Part.id : Part → Byte
  | .sensor => 1#8 | .side => 2#8 | .plan => 3#8 | .pulse => 4#8 | .belt => 5#8
  | .limits => 6#8 | .output => 7#8 | .link => 8#8 | .supply => 9#8

/-- The section of an id, if there is one. -/
def Part.ofByte? (b : Byte) : Option Part :=
  [Part.sensor, .side, .plan, .pulse, .belt, .limits, .output, .link, .supply].find? fun p => p.id == b

/-- A request whose form is refused at step 4. -/
def Request.bad (r : Reply) (readOnly : Bool) : Request :=
  { known := true, badForm := some r, readOnly := readOnly, carryOut := fun s => (s, r) }

/-- R198 step 3: a kind not in the table. -/
def Request.unknown : Request := { known := false, badForm := none, readOnly := false, carryOut := fun s => (s, replyUnknown) }

/-- R203: the number of bytes of a section's record after the section id, and what writes it. -/
def setForm (p : Part) (rest : List Byte) : Request :=
  match p with
  | .sensor => Request.ofLength 16 rest false (setSensor rest)
  | .side => Request.ofLength 32 rest false (setSide rest)
  | .plan => Request.ofLength 16 rest false (setPlan rest)
  | .pulse => Request.ofLength 10 rest false (setPulse rest)
  | .belt => Request.ofLength 18 rest false (setBelt rest)
  | .limits => Request.ofLength 26 rest false (setLimits rest)
  | .output => Request.ofLength 6 rest false (setOutput rest)
  | .link => Request.ofLength 6 rest false (setLink rest)
  | .supply => Request.ofLength 4 rest false (setSupply rest)

/-- The reading of a section's record and readings. -/
def readPart (p : Part) (rest : List Byte) (s : State) : Reply :=
  match p with
  | .sensor => getRecord 8 sensorResponse rest s
  | .side => getRecord 2 sideResponse rest s
  | .plan => getRecord 1 (fun _ => planResponse) rest s
  | .pulse => getRecord 3 pulseResponse rest s
  | .belt => getRecord 1 (fun _ => beltResponse) rest s
  | .limits => getRecord 1 (fun _ => limitsResponse) rest s
  | .output => getRecord 3 outputResponse rest s
  | .link => getRecord 1 (fun _ => linkResponse) rest s
  | .supply => getRecord 1 (fun _ => supplyResponse) rest s

/-- R204: CONFIG_GET of a section; three bytes follow the section id. -/
def getForm (p : Part) (rest : List Byte) : Request := Request.ofLength 3 rest true fun s => (s, readPart p rest s)

/-- R198 step 4 for a kind that carries a section id. -/
def sectionForm (readOnly : Bool) (form : Part → List Byte → Request) (payload : List Byte) : Request :=
  match payload with
  | [] => Request.bad replyLength readOnly
  | b :: rest =>
    match Part.ofByte? b with
    | none => Request.bad (replyField 0xFF) readOnly
    | some p => form p rest

/-- R198: PLAN_APPEND's form: a whole number of records from 1 to 6. -/
def appendForm (payload : List Byte) : Request :=
  { known := true,
    badForm := if payload.length % 10 = 0 ∧ 10 ≤ payload.length ∧ payload.length ≤ 60 then none else some replyLength,
    readOnly := false, carryOut := planAppend payload }

/-- R198: the form of each kind, and its owner's work. -/
def kindForm (k : ReqKind) (payload : List Byte) : Request :=
  match k with
  | .identify => Request.ofLength 0 payload true identify
  | .poll => Request.ofLength 0 payload true poll
  | .restart => Request.ofLength 0 payload false restart
  | .configSet => sectionForm false setForm payload
  | .configGet => sectionForm true getForm payload
  | .lintabLoad => Request.ofLength 20 payload false (lintabLoad payload)
  | .commission => Request.ofLength 0 payload false commission
  | .decommission => Request.ofLength 0 payload false decommission
  | .planAppend => appendForm payload
  | .planClear => Request.ofLength 0 payload false planClear
  | .planRead => Request.ofLength 2 payload true (planRead payload)
  | .windowSet => Request.ofLength 11 payload false (windowSet payload)
  | .windowClear => Request.ofLength 1 payload false (windowClear payload)
  | .stationSet => Request.ofLength 4 payload false (stationSet payload)
  | .engage => Request.ofLength 0 payload false engage
  | .lift => Request.ofLength 0 payload false lift
  | .hold => Request.ofLength 1 payload false (hold payload)
  | .resume => Request.ofLength 0 payload false resume
  | .jog => Request.ofLength 5 payload false (jog payload)
  | .zero => Request.ofLength 4 payload false (zeroRequest payload)
  | .substitute => Request.ofLength 3 payload false (substitute payload)
  | .release => Request.ofLength 1 payload false (release payload)
  | .materialSet => Request.ofLength 2 payload false (materialSet payload)
  | .beltMode => Request.ofLength 1 payload false (beltMode payload)
  | .truckNext => Request.ofLength 6 payload false (truckNext payload)
  | .truckIn => Request.ofLength 0 payload false truckIn
  | .truckOut => Request.ofLength 0 payload false truckOut
  | .tallyRead => Request.ofLength 1 payload true (tallyRead payload)
  | .eventRoute => Request.ofLength 3 payload false (eventRoute payload)
  | .eventAck => Request.ofLength 4 payload true (eventAck payload)

/-- R198: the request of a kind byte and a payload. -/
def requestForm (kind : Byte) (payload : List Byte) : Request :=
  match ReqKind.ofByte? kind with
  | none => Request.unknown
  | some k => kindForm k payload

/-- R198: a request of a kind in the table is taken. -/
def takeRequest (k : ReqKind) (tag : Byte) (payload : List Byte) (s : State) : State :=
  takeTelegram k.code tag (kindForm k payload) s

/-! ### The receiver (R197) -/

/-- The length byte of the telegram being received. -/
def rxLength (l : Li) : Nat := (l.buf.headD 0#8).toNat

/-- The receiver abandons the telegram in progress. -/
def abandon (s : State) : State := s.mapLi fun l => { l with rx := .hunt }

/-- A byte is stored, and the receiver goes on in a state; the gap time starts again. -/
def store (b : Byte) (next : RxState) (s : State) : State :=
  s.mapLi fun l => { l with rx := next, buf := l.buf ++ [b], gapLeft := 2 }

/-- Whether the received CRC, with this byte as its high byte, is that of the bytes stored. -/
def crcMatches (l : Li) (high : Byte) : Bool :=
  let n := 3 + rxLength l
  crc (l.buf.take n) == BitVec.ofNat 16 (u16 (l.buf.getD n 0#8) high)

/-- R197: the second CRC byte: the telegram is judged, and a good one is taken (R198). -/
def judgeTelegram (high : Byte) (s : State) : State :=
  if crcMatches s.li high then
    let kind := s.li.buf.getD 1 0#8
    let payload := (s.li.buf.drop 3).take (rxLength s.li)
    takeTelegram kind (s.li.buf.getD 2 0#8) (requestForm kind payload) s
  else abandon s

/-- R197: a byte taken in the state the receiver stands in. -/
def takeByte (b : Byte) (s : State) : State :=
  match s.li.rx with
  | .hunt => if b = 0xA5#8 then s.mapLi fun l => { l with rx := .length, buf := [], gapLeft := 2 } else s
  | .length => if b.toNat ≤ 60 then store b .header s else abandon s
  | .header =>
    if s.li.buf.length < 2 then store b .header s
    else store b (if rxLength s.li = 0 then .check else .body) s
  | .body => store b (if s.li.buf.length + 1 < 3 + rxLength s.li then .body else .check) s
  | .check => if s.li.buf.length < 4 + rxLength s.li then store b .check s else judgeTelegram b s

/-- R197: the second CRC byte of a telegram whose CRC does not match; nothing where this byte is not one (log 2). -/
def takeBadCrc (b : Byte) (s : State) : State :=
  if s.li.rx = .check ∧ 4 + rxLength s.li ≤ s.li.buf.length ∧ crcMatches s.li b = false then abandon s else s

/-- R197: a length byte of 61..255; nothing where this byte is not one (log 2). -/
def takeOverlength (b : Byte) (s : State) : State :=
  if s.li.rx = .length ∧ 60 < b.toNat then abandon s else s

/-- R196: a framing error: the byte is discarded, and a telegram in progress is abandoned. -/
def takeFramingError (s : State) : State := abandon s

/-- R197: a gap of more than 2 ms abandons the telegram in progress. The command says that the line has been quiet for
longer than that, so it acts whatever the stored gap time (log 19). -/
def takeGap (s : State) : State := abandon s

end Sys2Proof.Machine
end

