-- ==== Sys2Proof/Machine/Time.lean ====
section
/-! DEFINITION. Time and the pins: what a millisecond does when no command waits (log 1), and the pin levels. -/

namespace Sys2Proof.Machine

/-- Time left after one more millisecond. -/
def runDown (n : Nat) : Nat := n - 1

/-- R187, R188: the time left of a JOG in progress runs down; when it reaches 0 the JOG ends. -/
def Leg.runDown (l : Leg) : Leg :=
  if l.jogDue then l.endJog else if l.owner = .jog then { l with jogLeft := l.jogLeft - 1 } else l

/-- One millisecond passes: every running timer's time left falls by 1, to no less than 0, and a JOG whose time left
reaches 0 ends; a silence expiry that a JOG overtook no longer follows (log 38). Every other expiry is a command of its own (log 1). -/
def tick (s : State) : State :=
  ((((s.mapSfe fun f => { f with scanLeft := runDown f.scanLeft }).mapPcu fun p =>
      { p with speedLeft := runDown p.speedLeft, drumLeft := runDown p.drumLeft }).mapCsc fun c =>
        { c with stateTimer := c.stateTimer.map runDown, silenceLeft := runDown c.silenceLeft,
                 overtaken := .no }).mapVos fun v =>
          { v with legs := v.legs.map Leg.runDown }).mapLi fun l =>
            { l with statusTimer := l.statusTimer.map runDown,
                     gapLeft := if l.rx = .hunt then l.gapLeft else runDown l.gapLeft }

/-- What a step does on an empty queue; while RESETn is held no time runs (log 9). -/
def idle (s : State) : State := if s.pins.resetHeld then s else tick s

/-- R173: the STOP line is driven; while RESETn is held only the pin's level changes (log 9), and a line that is already
asserted has no edge (log 28). -/
def driveStop (s : State) : State :=
  if s.pins.stop then s
  else if s.pins.resetHeld then s.mapPins fun p => { p with stop := true }
  else arbitrate (assertStop s)

/-- R174: the STOP line is released. -/
def undriveStop (s : State) : State :=
  if s.pins.stop = false then s
  else if s.pins.resetHeld then s.mapPins fun p => { p with stop := false }
  else arbitrate (releaseStop s)

/-- R180, R196: RESETn is driven low; the part stands still until its release (log 9). -/
def holdReset (s : State) : State := s.mapPins fun p => { p with resetHeld := true }

end Sys2Proof.Machine
end

