-- ==== Sys2Proof/Machine/Occurrences.lean ====
section
/-! DEFINITION. The meanings of the commands that are no request: resets, sample sets and their parts, pulses, timers,
pins and the line. A command whose condition does not hold leaves the state as it is (log 2). -/

namespace Sys2Proof.Machine

/-- What every meaning answers. -/
abbrev Result := Host.Outcome State Fault Refusal

/-! ### Resets -/

/-- POWER_ON_RESET (R196). -/
def execPowerOnReset (straps : Straps) (s : State) : Result := .next (powerOn straps s)

/-- RESETN_ASSERTED (R180). -/
def execResetnAsserted (s : State) : Result := .next (holdReset s)

/-- Whether the telegram whose end is due is the reply of a RESTART (R202). -/
def restartDue (s : State) : Bool := s.li.restarting && s.li.sending.any isRestartReply

/-- RESTART_RESET (R202). -/
def execRestartReset (s : State) : Result := act (fun t => if restartDue t then restartReset t else t) s

/-! ### The sample set and its parts -/

/-- SAMPLE_SET (R1). -/
def execSampleSet (scan : Scan) (order : SampleOrder) (s : State) : Result := act (sampleSet scan order) s

/-- CHANNEL_UNLOCK (R11). -/
def execChannelUnlock (ch : Chan) (raw : Raw) (s : State) : Result := act (unlockChannel ch raw.toNat) s

/-- CHANNEL_LOCK (R12). -/
def execChannelLock (ch : Chan) (raw : Raw) (s : State) : Result := act (lockChannel ch raw.toNat) s

/-- ZERO_CAPTURE_COMPLETE (R20). -/
def execZeroCaptureComplete (s : State) : Result := act completeCapture s

/-- ENGAGE_DONE (R165). -/
def execEngageDone (s : State) : Result := act settleEngage s

/-- LIFT_DONE (R167). -/
def execLiftDone (s : State) : Result := act settleLift s

/-- CLASS_WINDOW_CLOSE (R110, R111). -/
def execClassWindowClose (s : State) : Result := act closeClassWindow s

/-- SUPPLY_LOW_SET (R191). -/
def execSupplyLowSet (s : State) : Result := act settleLowSet s

/-- SUPPLY_LOW_CLEAR (R191). -/
def execSupplyLowClear (s : State) : Result := act settleLowClear s

/-- SUPPLY_CUTOFF (R193, R175). -/
def execSupplyCutoff (s : State) : Result := act applyCutoff s

/-! ### Pulses -/

/-- QUALIFYING_EDGE (R25, R26). -/
def execQualifyingEdge (input : PulseInput) (rising dirHigh rampFirst : Bool) (s : State) : Result :=
  act (pinEdge input rising dirHigh rampFirst) s

/-- COUNTED_TRAVEL_EVENT (R27, R28, R29). -/
def execCountedTravelEvent (dirHigh rampFirst : Bool) (s : State) : Result := act (countedTravel dirHigh rampFirst) s

/-- COUNTED_BELT_EVENT (R32). -/
def execCountedBeltEvent (s : State) : Result := act countedBelt s

/-- COUNTED_DRUM_EVENT (R34). -/
def execCountedDrumEvent (s : State) : Result := act countedDrum s

/-- SPEED_WINDOW_CLOSE (R33, R129), after a belt stall that is still due (log 3). -/
def execSpeedWindowClose (apart : Bool) (s : State) : Result :=
  act (fun t => beltSpeedUpdate apart (closeSpeedWindow (settleBeltStall t))) s

/-- BELT_STALL (R132). -/
def execBeltStall (s : State) : Result := act settleBeltStall s

/-- The drum speed update (R34, R35), after a stall that is still due; a new one is handed over with it unless it is
left due (log 3). -/
def drumSpeedUpdate (apart : Bool) (s : State) : State :=
  let s1 := testDrumStall (closeDrumWindow (applyStall s))
  if apart then s1 else applyStall s1

/-- DRUM_SPEED_UPDATE (R34, R35). -/
def execDrumSpeedUpdate (apart : Bool) (s : State) : Result := act (drumSpeedUpdate apart) s

/-- DRUM_STALL (R35, R172). -/
def execDrumStall (s : State) : Result := act applyStall s

/-! ### Timers and pins -/

/-- STATE_TIMER_EXPIRY (R168). -/
def execStateTimerExpiry (s : State) : Result := act expireStateTimer s

/-- SILENCE_TIMER_EXPIRY (R177). -/
def execSilenceTimerExpiry (s : State) : Result := act expireSilence s

/-- R188: the JOG of one leg output ends as its last millisecond runs out; nothing while it has longer to run, so a JOG
just taken is not ended (log 2, log 19). -/
def endJog (side : Side) (s : State) : State :=
  if (s.vos.legs.get side).jogDue then s.mapVos fun v => { v with legs := v.legs.set side (v.legs.get side).endJog }
  else s

/-- JOG_EXPIRY (R188). -/
def execJogExpiry (side : Side) (s : State) : Result := act (endJog side) s

/-- STOP_ASSERTED (R173). -/
def execStopAsserted (s : State) : Result := .next (driveStop s)

/-- STOP_RELEASED (R174). -/
def execStopReleased (s : State) : Result := .next (undriveStop s)

/-- R207: the status period timer expires; nothing while it is stopped or has longer to run (log 2, log 19). -/
def expireStatusPeriod (s : State) : State :=
  match s.li.statusTimer with
  | none => s
  | some n => if expiryDue n then formReport s else s

/-- STATUS_PERIOD_EXPIRY (R207). -/
def execStatusPeriodExpiry (s : State) : Result := act expireStatusPeriod s

/-! ### The line -/

/-- TRANSMIT_COMPLETE (R201). -/
def execTransmitComplete (s : State) : Result := act endTransmission s

/-- TELEGRAM_BAD_CRC (R197). -/
def execTelegramBadCrc (byte : Byte) (s : State) : Result := act (takeBadCrc byte) s

/-- TELEGRAM_OVERLENGTH (R197). -/
def execTelegramOverlength (byte : Byte) (s : State) : Result := act (takeOverlength byte) s

/-- FRAMING_ERROR (R196, R197). -/
def execFramingError (s : State) : Result := act takeFramingError s

/-- RECEIVE_GAP_TIMEOUT (R197). -/
def execReceiveGapTimeout (s : State) : Result := act takeGap s

/-- RECEIVER_BYTE_TAKEN (R197). -/
def execReceiverByteTaken (byte : Byte) (s : State) : Result := act (takeByte byte) s

end Sys2Proof.Machine
end

