-- ==== Sys2Proof/Machine/RequestRows.lean ====
section
/-! DEFINITION. The meanings of the request rows: a good telegram of the row's kind is taken (R198). A row that fixes the
first payload byte carries the bytes after it. -/

namespace Sys2Proof.Machine

/-- UNKNOWN_REQUEST (R198): a telegram that no other row names. -/
def execUnknownRequest (kind tag : Byte) (payload : List Byte) (s : State) : Result :=
  act (takeTelegram kind tag (requestForm kind payload)) s

/-- IDENTIFY (R206). -/
def execIdentify (tag : Byte) (payload : List Byte) (s : State) : Result := act (takeRequest .identify tag payload) s

/-- POLL (R208). -/
def execPoll (tag : Byte) (payload : List Byte) (s : State) : Result := act (takeRequest .poll tag payload) s

/-- RESTART (R202). -/
def execRestart (tag : Byte) (payload : List Byte) (s : State) : Result := act (takeRequest .restart tag payload) s

/-- LINTAB_LOAD (R9). -/
def execLintabLoad (tag : Byte) (payload : List Byte) (s : State) : Result := act (takeRequest .lintabLoad tag payload) s

/-- COMMISSION (R162). -/
def execCommission (tag : Byte) (payload : List Byte) (s : State) : Result := act (takeRequest .commission tag payload) s

/-- DECOMMISSION (R163). -/
def execDecommission (tag : Byte) (payload : List Byte) (s : State) : Result := act (takeRequest .decommission tag payload) s

/-- PLAN_APPEND (R56, R57). -/
def execPlanAppend (tag : Byte) (payload : List Byte) (s : State) : Result := act (takeRequest .planAppend tag payload) s

/-- PLAN_CLEAR (R59). -/
def execPlanClear (tag : Byte) (payload : List Byte) (s : State) : Result := act (takeRequest .planClear tag payload) s

/-- WINDOW_SET (R68, R69). -/
def execWindowSet (tag : Byte) (payload : List Byte) (s : State) : Result := act (takeRequest .windowSet tag payload) s

/-- WINDOW_CLEAR (R72). -/
def execWindowClear (tag : Byte) (payload : List Byte) (s : State) : Result := act (takeRequest .windowClear tag payload) s

/-- STATION_SET (R31). -/
def execStationSet (tag : Byte) (payload : List Byte) (s : State) : Result := act (takeRequest .stationSet tag payload) s

/-- ENGAGE (R164). -/
def execEngage (tag : Byte) (payload : List Byte) (s : State) : Result := act (takeRequest .engage tag payload) s

/-- LIFT (R166). -/
def execLift (tag : Byte) (payload : List Byte) (s : State) : Result := act (takeRequest .lift tag payload) s

/-- RESUME (R170). -/
def execResume (tag : Byte) (payload : List Byte) (s : State) : Result := act (takeRequest .resume tag payload) s

/-- JOG (R187). -/
def execJog (tag : Byte) (payload : List Byte) (s : State) : Result := act (takeRequest .jog tag payload) s

/-- ZERO (R19). -/
def execZero (tag : Byte) (payload : List Byte) (s : State) : Result := act (takeRequest .zero tag payload) s

/-- SUBSTITUTE (R16). -/
def execSubstitute (tag : Byte) (payload : List Byte) (s : State) : Result := act (takeRequest .substitute tag payload) s

/-- RELEASE (R17). -/
def execRelease (tag : Byte) (payload : List Byte) (s : State) : Result := act (takeRequest .release tag payload) s

/-- BELT_MODE (R134). -/
def execBeltMode (tag : Byte) (payload : List Byte) (s : State) : Result := act (takeRequest .beltMode tag payload) s

/-- TRUCK_NEXT (R142). -/
def execTruckNext (tag : Byte) (payload : List Byte) (s : State) : Result := act (takeRequest .truckNext tag payload) s

/-- TRUCK_IN (R143). -/
def execTruckIn (tag : Byte) (payload : List Byte) (s : State) : Result := act (takeRequest .truckIn tag payload) s

/-- TRUCK_OUT (R150). -/
def execTruckOut (tag : Byte) (payload : List Byte) (s : State) : Result := act (takeRequest .truckOut tag payload) s

/-- TALLY_READ (R153). -/
def execTallyRead (tag : Byte) (payload : List Byte) (s : State) : Result := act (takeRequest .tallyRead tag payload) s

/-- EVENT_ROUTE (R212). -/
def execEventRoute (tag : Byte) (payload : List Byte) (s : State) : Result := act (takeRequest .eventRoute tag payload) s

/-- EVENT_ACK (R211). -/
def execEventAck (tag : Byte) (payload : List Byte) (s : State) : Result := act (takeRequest .eventAck tag payload) s

/-- CONFIG_SET of section SENSOR (R23). -/
def execConfigSetSensor (tag : Byte) (rest : List Byte) (s : State) : Result :=
  act (takeTelegram ReqKind.configSet.code tag (setForm .sensor rest)) s

/-- CONFIG_SET of section SIDE (R52). -/
def execConfigSetSide (tag : Byte) (rest : List Byte) (s : State) : Result :=
  act (takeTelegram ReqKind.configSet.code tag (setForm .side rest)) s

/-- CONFIG_SET of section PLAN (R76). -/
def execConfigSetPlan (tag : Byte) (rest : List Byte) (s : State) : Result :=
  act (takeTelegram ReqKind.configSet.code tag (setForm .plan rest)) s

/-- CONFIG_SET of section PULSE (R36). -/
def execConfigSetPulse (tag : Byte) (rest : List Byte) (s : State) : Result :=
  act (takeTelegram ReqKind.configSet.code tag (setForm .pulse rest)) s

/-- CONFIG_SET of section BELT (R136, R137). -/
def execConfigSetBelt (tag : Byte) (rest : List Byte) (s : State) : Result :=
  act (takeTelegram ReqKind.configSet.code tag (setForm .belt rest)) s

/-- CONFIG_SET of section LIMITS (R116). -/
def execConfigSetLimits (tag : Byte) (rest : List Byte) (s : State) : Result :=
  act (takeTelegram ReqKind.configSet.code tag (setForm .limits rest)) s

/-- CONFIG_SET of section OUTPUT (R194). -/
def execConfigSetOutput (tag : Byte) (rest : List Byte) (s : State) : Result :=
  act (takeTelegram ReqKind.configSet.code tag (setForm .output rest)) s

/-- CONFIG_SET of section LINK (R205). -/
def execConfigSetLink (tag : Byte) (rest : List Byte) (s : State) : Result :=
  act (takeTelegram ReqKind.configSet.code tag (setForm .link rest)) s

/-- CONFIG_SET of section SUPPLY (R194). -/
def execConfigSetSupply (tag : Byte) (rest : List Byte) (s : State) : Result :=
  act (takeTelegram ReqKind.configSet.code tag (setForm .supply rest)) s

/-- CONFIG_GET of section SENSOR (R24). -/
def execConfigGetSensor (tag : Byte) (rest : List Byte) (s : State) : Result :=
  act (takeTelegram ReqKind.configGet.code tag (getForm .sensor rest)) s

/-- CONFIG_GET of section SIDE (R53, R102). -/
def execConfigGetSide (tag : Byte) (rest : List Byte) (s : State) : Result :=
  act (takeTelegram ReqKind.configGet.code tag (getForm .side rest)) s

/-- CONFIG_GET of section PLAN (R77). -/
def execConfigGetPlan (tag : Byte) (rest : List Byte) (s : State) : Result :=
  act (takeTelegram ReqKind.configGet.code tag (getForm .plan rest)) s

/-- CONFIG_GET of section PULSE (R37). -/
def execConfigGetPulse (tag : Byte) (rest : List Byte) (s : State) : Result :=
  act (takeTelegram ReqKind.configGet.code tag (getForm .pulse rest)) s

/-- CONFIG_GET of section BELT (R139). -/
def execConfigGetBelt (tag : Byte) (rest : List Byte) (s : State) : Result :=
  act (takeTelegram ReqKind.configGet.code tag (getForm .belt rest)) s

/-- CONFIG_GET of section LIMITS (R117, R182). -/
def execConfigGetLimits (tag : Byte) (rest : List Byte) (s : State) : Result :=
  act (takeTelegram ReqKind.configGet.code tag (getForm .limits rest)) s

/-- CONFIG_GET of section OUTPUT (R195). -/
def execConfigGetOutput (tag : Byte) (rest : List Byte) (s : State) : Result :=
  act (takeTelegram ReqKind.configGet.code tag (getForm .output rest)) s

/-- CONFIG_GET of section LINK (R204). -/
def execConfigGetLink (tag : Byte) (rest : List Byte) (s : State) : Result :=
  act (takeTelegram ReqKind.configGet.code tag (getForm .link rest)) s

/-- CONFIG_GET of section SUPPLY (R195). -/
def execConfigGetSupply (tag : Byte) (rest : List Byte) (s : State) : Result :=
  act (takeTelegram ReqKind.configGet.code tag (getForm .supply rest)) s

/-- PLAN_READ of WAYPOINTS (R60). -/
def execPlanReadWaypoints (tag : Byte) (rest : List Byte) (s : State) : Result :=
  act (takeRequest .planRead tag (0x00#8 :: rest)) s

/-- PLAN_READ of WINDOWS (R60). -/
def execPlanReadWindows (tag : Byte) (rest : List Byte) (s : State) : Result :=
  act (takeRequest .planRead tag (0x01#8 :: rest)) s

/-- HOLD SOFT (R169). -/
def execHoldSoft (tag : Byte) (rest : List Byte) (s : State) : Result :=
  act (takeRequest .hold tag (0x00#8 :: rest)) s

/-- HOLD HARD (R169). -/
def execHoldHard (tag : Byte) (rest : List Byte) (s : State) : Result :=
  act (takeRequest .hold tag (0x01#8 :: rest)) s

/-- MATERIAL_SET of mode MANUAL (R113). -/
def execMaterialSetManual (tag : Byte) (rest : List Byte) (s : State) : Result :=
  act (takeRequest .materialSet tag (0x01#8 :: rest)) s

/-- MATERIAL_SET of mode AUTO (R113). -/
def execMaterialSetAuto (tag : Byte) (rest : List Byte) (s : State) : Result :=
  act (takeRequest .materialSet tag (0x00#8 :: rest)) s

end Sys2Proof.Machine
end

