-- ==== Sys2Proof/Machine/Dispatch.lean ====
section
/-! DEFINITION. The dispatch: one arm per command, each one direct call of its meaning. -/

namespace Sys2Proof.Machine

def exec (i : Instr) (s : State) : Host.Outcome State Fault Refusal :=
  match i with
  | .powerOnReset straps => Sys2Proof.Machine.execPowerOnReset straps s
  | .restartReset => Sys2Proof.Machine.execRestartReset s
  | .sampleSet scan order => Sys2Proof.Machine.execSampleSet scan order s
  | .channelUnlock ch raw => Sys2Proof.Machine.execChannelUnlock ch raw s
  | .channelLock ch raw => Sys2Proof.Machine.execChannelLock ch raw s
  | .zeroCaptureComplete => Sys2Proof.Machine.execZeroCaptureComplete s
  | .engageDone => Sys2Proof.Machine.execEngageDone s
  | .liftDone => Sys2Proof.Machine.execLiftDone s
  | .classWindowClose => Sys2Proof.Machine.execClassWindowClose s
  | .supplyLowSet => Sys2Proof.Machine.execSupplyLowSet s
  | .supplyLowClear => Sys2Proof.Machine.execSupplyLowClear s
  | .supplyCutoff => Sys2Proof.Machine.execSupplyCutoff s
  | .qualifyingEdge input rising dirHigh rampFirst => Sys2Proof.Machine.execQualifyingEdge input rising dirHigh rampFirst s
  | .countedTravelEvent dirHigh rampFirst => Sys2Proof.Machine.execCountedTravelEvent dirHigh rampFirst s
  | .countedBeltEvent => Sys2Proof.Machine.execCountedBeltEvent s
  | .countedDrumEvent => Sys2Proof.Machine.execCountedDrumEvent s
  | .speedWindowClose apart => Sys2Proof.Machine.execSpeedWindowClose apart s
  | .beltStall => Sys2Proof.Machine.execBeltStall s
  | .drumSpeedUpdate apart => Sys2Proof.Machine.execDrumSpeedUpdate apart s
  | .drumStall => Sys2Proof.Machine.execDrumStall s
  | .stateTimerExpiry => Sys2Proof.Machine.execStateTimerExpiry s
  | .silenceTimerExpiry => Sys2Proof.Machine.execSilenceTimerExpiry s
  | .jogExpiry side => Sys2Proof.Machine.execJogExpiry side s
  | .stopAsserted => Sys2Proof.Machine.execStopAsserted s
  | .stopReleased => Sys2Proof.Machine.execStopReleased s
  | .statusPeriodExpiry => Sys2Proof.Machine.execStatusPeriodExpiry s
  | .transmitComplete => Sys2Proof.Machine.execTransmitComplete s
  | .telegramBadCrc byte => Sys2Proof.Machine.execTelegramBadCrc byte s
  | .telegramOverlength byte => Sys2Proof.Machine.execTelegramOverlength byte s
  | .framingError => Sys2Proof.Machine.execFramingError s
  | .receiveGapTimeout => Sys2Proof.Machine.execReceiveGapTimeout s
  | .unknownRequest kind tag payload => Sys2Proof.Machine.execUnknownRequest kind tag payload s
  | .identify tag payload => Sys2Proof.Machine.execIdentify tag payload s
  | .poll tag payload => Sys2Proof.Machine.execPoll tag payload s
  | .restart tag payload => Sys2Proof.Machine.execRestart tag payload s
  | .configSetSensor tag rest => Sys2Proof.Machine.execConfigSetSensor tag rest s
  | .configSetSide tag rest => Sys2Proof.Machine.execConfigSetSide tag rest s
  | .configSetPlan tag rest => Sys2Proof.Machine.execConfigSetPlan tag rest s
  | .configSetPulse tag rest => Sys2Proof.Machine.execConfigSetPulse tag rest s
  | .configSetBelt tag rest => Sys2Proof.Machine.execConfigSetBelt tag rest s
  | .configSetLimits tag rest => Sys2Proof.Machine.execConfigSetLimits tag rest s
  | .configSetOutput tag rest => Sys2Proof.Machine.execConfigSetOutput tag rest s
  | .configSetLink tag rest => Sys2Proof.Machine.execConfigSetLink tag rest s
  | .configSetSupply tag rest => Sys2Proof.Machine.execConfigSetSupply tag rest s
  | .configGetSensor tag rest => Sys2Proof.Machine.execConfigGetSensor tag rest s
  | .configGetSide tag rest => Sys2Proof.Machine.execConfigGetSide tag rest s
  | .configGetPlan tag rest => Sys2Proof.Machine.execConfigGetPlan tag rest s
  | .configGetPulse tag rest => Sys2Proof.Machine.execConfigGetPulse tag rest s
  | .configGetBelt tag rest => Sys2Proof.Machine.execConfigGetBelt tag rest s
  | .configGetLimits tag rest => Sys2Proof.Machine.execConfigGetLimits tag rest s
  | .configGetOutput tag rest => Sys2Proof.Machine.execConfigGetOutput tag rest s
  | .configGetLink tag rest => Sys2Proof.Machine.execConfigGetLink tag rest s
  | .configGetSupply tag rest => Sys2Proof.Machine.execConfigGetSupply tag rest s
  | .lintabLoad tag payload => Sys2Proof.Machine.execLintabLoad tag payload s
  | .commission tag payload => Sys2Proof.Machine.execCommission tag payload s
  | .decommission tag payload => Sys2Proof.Machine.execDecommission tag payload s
  | .planAppend tag payload => Sys2Proof.Machine.execPlanAppend tag payload s
  | .planClear tag payload => Sys2Proof.Machine.execPlanClear tag payload s
  | .planReadWaypoints tag rest => Sys2Proof.Machine.execPlanReadWaypoints tag rest s
  | .planReadWindows tag rest => Sys2Proof.Machine.execPlanReadWindows tag rest s
  | .windowSet tag payload => Sys2Proof.Machine.execWindowSet tag payload s
  | .windowClear tag payload => Sys2Proof.Machine.execWindowClear tag payload s
  | .stationSet tag payload => Sys2Proof.Machine.execStationSet tag payload s
  | .engage tag payload => Sys2Proof.Machine.execEngage tag payload s
  | .lift tag payload => Sys2Proof.Machine.execLift tag payload s
  | .holdSoft tag rest => Sys2Proof.Machine.execHoldSoft tag rest s
  | .holdHard tag rest => Sys2Proof.Machine.execHoldHard tag rest s
  | .resume tag payload => Sys2Proof.Machine.execResume tag payload s
  | .jog tag payload => Sys2Proof.Machine.execJog tag payload s
  | .zero tag payload => Sys2Proof.Machine.execZero tag payload s
  | .substitute tag payload => Sys2Proof.Machine.execSubstitute tag payload s
  | .release tag payload => Sys2Proof.Machine.execRelease tag payload s
  | .materialSetManual tag rest => Sys2Proof.Machine.execMaterialSetManual tag rest s
  | .materialSetAuto tag rest => Sys2Proof.Machine.execMaterialSetAuto tag rest s
  | .beltMode tag payload => Sys2Proof.Machine.execBeltMode tag payload s
  | .truckNext tag payload => Sys2Proof.Machine.execTruckNext tag payload s
  | .truckIn tag payload => Sys2Proof.Machine.execTruckIn tag payload s
  | .truckOut tag payload => Sys2Proof.Machine.execTruckOut tag payload s
  | .tallyRead tag payload => Sys2Proof.Machine.execTallyRead tag payload s
  | .eventRoute tag payload => Sys2Proof.Machine.execEventRoute tag payload s
  | .eventAck tag payload => Sys2Proof.Machine.execEventAck tag payload s
  | .receiverByteTaken byte => Sys2Proof.Machine.execReceiverByteTaken byte s
  | .resetnAsserted => Sys2Proof.Machine.execResetnAsserted s

end Sys2Proof.Machine
end

