-- ==== Sys2Proof/Safety.lean ====
section
/-! DEFINITION. What the manual promises of every state that a run passes through, one promise at a time, and the words
the statements share. -/

namespace Sys2Proof.Machine

/-- The delivered total of the current truck, 0 while the current slot is ABSENT (R155). -/
abbrev deliveredNow (t : Tlu) : Nat :=
  match t.current with
  | none => 0
  | some x => x.delivered

/-- R155: the volume equation. -/
abbrev VolumeBalanced (s : State) : Prop :=
  s.btq.intakeTotal = s.tlu.closedTotal + deliveredNow s.tlu + beltHolding s.btq.segs + s.btq.lostTotal

/-- R209: every level source that is enabled and whose condition is true is pending. -/
abbrev LevelsLatched (s : State) : Prop :=
  s.li.events.enable &&& s.li.events.cond &&& levelSources &&& ~~~s.li.events.pending = 0#25

/-- R200: two reply slots. -/
abbrev RepliesFit (s : State) : Prop := s.li.replies.length ≤ 2

/-- R201: while the line is free no slot holds anything. -/
abbrev LineBusyWhileWaiting (s : State) : Prop :=
  s.li.sending = none → s.li.replies = [] ∧ s.li.notice = false ∧ s.li.status = none

/-- R29: the station never exceeds the high-water station, and both stay within range. -/
abbrev StationInRange (s : State) : Prop := s.pcu.station ≤ s.pcu.high ∧ s.pcu.high ≤ Config.maxStation

/-- R168: the state timer runs exactly in ENGAGING and LIFTING. -/
abbrev TimerFollowsState (s : State) : Prop := s.csc.stateTimer.isSome = s.csc.state.timed

/-- R184: JOG ownership exists only in READY. -/
abbrev JogOnlyInReady (s : State) : Prop :=
  s.csc.state ≠ .ready → s.vos.legs.left.owner ≠ .jog ∧ s.vos.legs.right.owner ≠ .jog

/-- R185: in CONFIG and HOLD_HARD every held command is 0. -/
abbrev NeutralWhenHeld (s : State) : Prop :=
  s.csc.state.neutral = true → s.vos.legs.left.held = 0 ∧ s.vos.legs.right.held = 0 ∧ s.vos.beltHeld = 0

/-- R184: under NONE the held command is 0. -/
abbrev NoneMeansZero (l : Leg) : Prop := l.owner = .none → l.held = 0

/-- R119: exactly 32 segments, each within 2C. -/
abbrev QueueShape (s : State) : Prop :=
  s.btq.segs.length = 32 ∧ ∀ g ∈ s.btq.segs, g.vol ≤ 2 * s.cfg.belt.cap

/-- R119: no CURRENT-tagged segment holding material lies nearer the intake than a NEXT-tagged one holding material. -/
abbrev MaterialOrdered (segs : List Segment) : Prop :=
  segs.Pairwise fun a b => ¬(a.tag = .current ∧ 0 < a.vol ∧ b.tag = .next ∧ 0 < b.vol)

/-- R119: while the current truck is LOADING, no segment holding material is tagged NEXT. -/
abbrev LoadingTakesAll (s : State) : Prop :=
  isLoading s.tlu.current = true → ∀ g ∈ s.btq.segs, 0 < g.vol → g.tag = .current

/-- Nearer the intake NEXT tags, nearer the discharge CURRENT tags, empty segments included. -/
abbrev TagsOrdered (segs : List Segment) : Prop := segs.Pairwise fun a b => a.tag = .current → b.tag = .current

/-- What the tags are in each state of the current slot, empty segments included. -/
abbrev TagsFollowTruck (s : State) : Prop :=
  (isLoading s.tlu.current = true → ∀ g ∈ s.btq.segs, g.tag = .current) ∧
    (s.tlu.current = none →
      (∀ g ∈ s.btq.segs, g.tag = .current → g.vol = 0) ∧ (s.btq.segs.head?.all fun g => g.tag == .next) = true)

/-- R78: a side's effective setpoint lies within −500 dmm to the max depth. -/
abbrev SetpointInRange (maxDepth : Nat) (l : Loop) : Prop := -500 ≤ l.sp ∧ l.sp ≤ (maxDepth : Int)

/-- R93: a side's integrator stays within the limit of the active gain set. -/
abbrev IntegratorLimited (r : SideRec) (l : Loop) : Prop := l.integ.natAbs ≤ (r.gains l.gain).ilim

/-- R54: at most 128 waypoints in strictly increasing station order. -/
abbrev PlanOrdered (l : List Waypoint) : Prop := l.length ≤ 128 ∧ l.Pairwise fun a b => a.station < b.station

/-- R65: the spans of valid windows never overlap. -/
abbrev WindowsApart (w : Windows) : Prop :=
  w.all.Pairwise fun a b => ¬(a.valid = true ∧ b.valid = true ∧ a.overlaps b = true)

/-- R10: the lock counter is 0 in QUALIFIED and the unlock counter is 0 in UNQUALIFIED. -/
abbrev CountersApart (c : Channel) : Prop :=
  (c.qual = .qualified → c.lock = 0) ∧ (c.qual = .unqualified → c.unlock = 0)

/-- R18: no substitute in CONFIG; R21: no ZERO capture outside READY. -/
abbrev HeldOnlyWhereAllowed (s : State) : Prop :=
  (s.csc.state = .config → ∀ i, (s.sfe.chans.get i).subst = none) ∧ (s.csc.state ≠ .ready → s.sfe.capture = none)

/-- R152: the tally log holds at most 8 records. -/
abbrev LogFits (s : State) : Prop := s.tlu.log.length ≤ 8

/-! ### Words of the statements: how a request is heard and answered -/

/-- R198 steps 1 and 2 do not end a request: out of reset, no RESTART in progress, a reply slot free. -/
abbrev Listening (s : State) : Prop :=
  s.pins.resetHeld = false ∧ s.li.restarting = false ∧ s.li.replies.length < 2

/-- R198 step 5 does not end a request either: STOP is released. -/
abbrev Free (s : State) : Prop := Listening s ∧ s.pins.stop = false

/-- R176, R197: the part once a good telegram has been judged: the receiver hunts and the silence timer has its full
period, 16 ms times two to the silence field. An expiry in its last millisecond has been overtaken (log 38). -/
def heard (s : State) : State :=
  { s with
    csc := { s.csc with silenceLeft := 16 * 2 ^ s.cfg.link.silence,
                        overtaken := if s.csc.silenceLeft ≤ 1 then .byTelegram else .no },
    li := { s.li with rx := .hunt } }

/-- R200, R201: the part that a request of this kind and tag leaves as w, with its reply placed and the line served. -/
def answered (kind tag : Byte) (r : Reply) (w : State) : State := arbitrate (placeReply kind tag r w)

/-- R193: the supply value of this sample set brings the cutoff counter to 5. -/
def cutsOff (scan : Scan) (s : State) : Bool :=
  decide (scan.supply.toNat * 25 / 256 < 160) && decide (5 ≤ s.vos.cutoffCount + 1)

/-- R175, R193: no supply cutoff takes the part to HOLD_HARD at this sample set: none waits, and one handed by it is left
due (log 3) or finds CONFIG or HOLD_HARD. -/
abbrev NoCutoff (scan : Scan) (o : SampleOrder) (s : State) : Prop :=
  s.csc.cutoffHanded = false ∧
    (cutsOff scan s = true → o.apart = true ∨ s.csc.state = .config ∨ s.csc.state = .holdHard)

/-- The replies formed and not yet sent whole, oldest first: the telegram on the line, then the reply slots. -/
def outgoing (l : Li) : List Telegram := l.sending.toList ++ l.replies

/-- R58, R70, R71, R74: the plan list, the windows and the plan-end mark once h has come to a new value: the waypoints
before the latest one at or below h are gone, each valid window is judged, and the mark is disarmed at the last
waypoint. A passed window keeps its entered mark (log 17). -/
def PlanSettledAt (h : Nat) (old new : Pt) : Prop :=
  new.list = (old.list.filter fun x => decide (x.station ≤ h)).getLast?.toList
    ++ old.list.filter (fun x => decide (h < x.station)) ∧
  (∀ i, i < 4 →
    let w := old.windows.get i
    (w.valid = false → new.windows.get i = w) ∧
    (w.valid = true →
      new.windows.get i =
        { w with entered := decide (w.start ≤ h + w.lead), valid := decide (h < w.start + w.length) })) ∧
  (old.armed = false → new.armed = false) ∧
  (∀ x, old.list.getLast? = some x → new.armed = (old.armed && decide (h < x.station)))

/-- R70, R73, R74: the events that the settling of the plan and the windows at a new value h of the high-water station
raises, by the marks before it, and the PLAN_LOW condition. -/
def PlanEventsAt (h : Nat) (s t : State) : Prop :=
  let on (i : Nat) : Bool := marked s.li.events.enable i
  isPending .windowEntered t = (isPending .windowEntered s ||
    (on 9 && s.pt.windows.all.any fun w => w.valid && !w.entered && decide (w.start ≤ h + w.lead))) ∧
  isPending .windowPassed t = (isPending .windowPassed s ||
    (on 10 && s.pt.windows.all.any fun w => w.valid && decide (w.start + w.length ≤ h))) ∧
  isPending .planEnd t = (isPending .planEnd s ||
    (on 8 && s.pt.armed && s.pt.list.getLast?.any fun x => decide (x.station ≤ h))) ∧
  condition .planLow t = decide ((s.pt.list.filter fun x => decide (h < x.station)).length < s.cfg.plan.lowMark)

/-- R20: a capture that has counted its 32 sample sets completes: each channel involved takes its zero from its sum, the
context becomes empty and ZERO_DONE is raised. -/
def captured (k : Capture) (s : State) : State :=
  let zeroed (i : Chan) (c : Channel) : Channel :=
    match k.sums.find? fun p => p.1 == i with
    | none => c
    | some p => { c with cfg := { c.cfg with zero := max (-20000) (min 20000 (p.2 / 32 - k.depthNow)) } }
  raise .zeroDone { s with
    sfe := { s.sfe with capture := none, chans := Chans.of fun i => zeroed i (s.sfe.chans.get i) } }

/-- R204: a state, mode or mark carried in two bytes as its position in the list of its values. -/
def place {α : Type} [BEq α] (x : α) (values : List α) : List Byte := le 2 (values.idxOf x)

/-- R204: a value in two bytes, 8000h where it is absent. -/
def placeOr (x : Option Int) : List Byte := leInt 2 (x.getD 0x8000)

/-- R197: the bytes of a telegram arrive one after another. -/
def feed : List Byte → State → Result
  | [], s => .next s
  | b :: rest, s =>
    match exec (.receiverByteTaken b) s with
    | .next t => feed rest t
    | other => other

end Sys2Proof.Machine
end

