-- ==== Sys2Proof/Certificates/Slice0/Obligations.lean ====
section
/-! DEFINITION. The statements for the provers, chapter by chapter. A request statement gives the state that the request
leaves, w, over `heard s`, the part as the good telegram finds it; `answered` then places the reply. -/

open Sys2Proof Sys2Proof.Machine

/-! ### The step, the resets, the held part -/

/-- The block takes the command at the front of its queue and carries it out with the queue's rest. The queue and its
step are the model's (log 1). -/
def Obligations.StepRunsFrontCommand : Prop :=
  ∀ (c : Instr) (rest : List Instr) (s : State), s.pending = c :: rest → step s = exec c { s with pending := rest }

/-- The model's choice (log 1): on an empty queue one millisecond passes for every running time, to no less than 0, a
JOG whose time left reaches 0 ends (R188), a silence expiry that a JOG overtook no longer follows it (log 38), and
nothing else changes; while RESETn is held nothing changes at all. -/
def Obligations.StepIdlesOnEmptyQueue : Prop :=
  ∀ s : State, s.pending = [] →
    (s.pins.resetHeld = true → step s = .next s) ∧
    (s.pins.resetHeld = false →
      let jog (l : Leg) : Leg :=
        if l.owner = .jog then (if l.jogLeft ≤ 1 then ⟨.none, 0, 0⟩ else { l with jogLeft := l.jogLeft - 1 }) else l
      step s = .next
        { s with
          sfe := { s.sfe with scanLeft := s.sfe.scanLeft - 1 },
          pcu := { s.pcu with speedLeft := s.pcu.speedLeft - 1, drumLeft := s.pcu.drumLeft - 1 },
          csc := { s.csc with stateTimer := s.csc.stateTimer.map fun n => n - 1, silenceLeft := s.csc.silenceLeft - 1,
                              overtaken := .no },
          vos := { s.vos with legs := ⟨jog s.vos.legs.left, jog s.vos.legs.right⟩ },
          li := { s.li with statusTimer := s.li.statusTimer.map fun n => n - 1,
                            gapLeft := if s.li.rx = .hunt then s.li.gapLeft else s.li.gapLeft - 1 } })

/-- Every command has an outcome in every state, and the outcome keeps the commands that wait. -/
def Obligations.EveryCommandAnswersNext : Prop :=
  ∀ (c : Instr) (s : State), ∃ t, exec c s = .next t ∧ t.pending = s.pending

/-- The state after reset keeps every promise that the statements about all steps start from. -/
def Obligations.ResetMeetsEveryPromise : Prop :=
  let s := State.reset
  VolumeBalanced s ∧ LevelsLatched s ∧ RepliesFit s ∧ LineBusyWhileWaiting s ∧ StationInRange s ∧ TimerFollowsState s ∧
    JogOnlyInReady s ∧ NeutralWhenHeld s ∧ NoneMeansZero s.vos.legs.left ∧ NoneMeansZero s.vos.legs.right ∧
    QueueShape s ∧ MaterialOrdered s.btq.segs ∧ TagsOrdered s.btq.segs ∧ LoadingTakesAll s ∧ TagsFollowTruck s ∧
    SetpointInRange s.cfg.plan.maxDepth s.dlu.left ∧ SetpointInRange s.cfg.plan.maxDepth s.dlu.right ∧
    IntegratorLimited s.cfg.side.left s.dlu.left ∧ IntegratorLimited s.cfg.side.right s.dlu.right ∧
    PlanOrdered s.pt.list ∧ WindowsApart s.pt.windows ∧ (∀ i, CountersApart (s.sfe.chans.get i)) ∧
    HeldOnlyWhereAllowed s ∧ LogFits s

/-- R196, R202: a power-on reset takes the strap levels into the latch and puts every block at its values after reset; a
RESTART does the same when the last byte of its reply has been sent, but keeps the latch. The width and RIGHT's mode
follow the straps (R116, R52). PLAN_LOW is pending from the start, STOP_ACTIVE where the pin is asserted (R209).
Values the manual leaves open at reset, and a RESTART_RESET that is not due, are the model's (log 1, log 2, log 18). -/
def Obligations.ResetsRestoreEveryBlock : Prop :=
  ∀ (p : Straps) (s : State),
    let marks (stop : Bool) : EventWord := if stop then 0x20080#25 else 0x80#25
    let fresh (q : Straps) (pins : Pins) : State :=
      { State.reset with
        pins := pins, pending := s.pending,
        cfg := { Records.reset with
                 side := ⟨SideRec.reset, { SideRec.reset with mode := if q.cfg3 then .slope else .depth }⟩,
                 limits := { Records.reset.limits with
                             width := if q.cfg1 then (if q.cfg0 then 2200 else 2000)
                                      else if q.cfg0 then 1500 else 1000 } },
        li := { State.reset.li with
                straps := q,
                events := { State.reset.li.events with pending := marks pins.stop, cond := marks pins.stop } } }
    exec (.powerOnReset p) s = .next (fresh p { s.pins with cfg := p, resetHeld := false }) ∧
    (s.pins.resetHeld = false → s.li.restarting = true →
      ∀ x, s.li.sending = some x → x.kind = 0x83#8 → x.payload = [0x00#8] →
        exec .restartReset s = .next (fresh s.li.straps s.pins) ∧
        exec .transmitComplete s = .next (fresh s.li.straps s.pins)) ∧
    (s.pins.resetHeld = false → s.li.restarting = false → exec .restartReset s = .next (arbitrate s))

/-- RESETn driven low holds the part: ADVANCE_PERMIT is low (R180), and until the release every command but a power-on
reset changes pins alone (the model's reading of a held part, log 9). -/
def Obligations.HeldPartStandsStill : Prop :=
  ∀ s : State,
    exec .resetnAsserted s = .next { s with pins := { s.pins with resetHeld := true } } ∧
    (s.pins.resetHeld = true →
      advancePermit s = false ∧
      ∀ c, (∀ p, c ≠ .powerOnReset p) →
        ∃ t, exec c s = .next t ∧ t = { s with pins := t.pins } ∧ t.pins.resetHeld = true)

/-! ### Sensor channels (chapter 1) -/

/-- R1, R2, R5, R6, R7: a sample set works every channel's raw value through trim, raw-fault test and linearisation, and
forms the supply value. The linearised value lies between the two points of its segment. That the next scan ends 10 ms
later, whatever time was left of this one, is the model's choice (log 19). -/
def Obligations.SampleSetReadsChannels : Prop :=
  ∀ (scan : Scan) (o : SampleOrder) (s : State), s.pins.resetHeld = false →
    ∃ t, exec (.sampleSet scan o) s = .next t ∧
      t.vos.supply = scan.supply.toNat * 25 / 256 ∧ t.sfe.scanLeft = 10 ∧
      t = { s with sfe := t.sfe, sru := t.sru, dlu := t.dlu, dlm := t.dlm, csc := t.csc, vos := t.vos, li := t.li,
                   pcu := { s.pcu with stall := t.pcu.stall }, btq := { s.btq with drive := t.btq.drive } } ∧
      ∀ i,
        let old := s.sfe.chans.get i
        let new := t.sfe.chans.get i
        let r := (scan.chans.get i).toNat
        let c := new.trimmed
        let k := c / 512
        let y := old.table.getD k 0
        let z := old.table.getD (k + 1) 0
        new.raw = r ∧ new.fault = (decide (r ≤ 8) || decide (4087 ≤ r)) ∧
        (c : Int) = max 0 (min 4095 ((r : Int) + 2 * old.cfg.trim)) ∧ k ≤ 7 ∧
        new.lin = y + (z - y) * ((c : Int) - 512 * (k : Int)) / 512 ∧ min y z ≤ new.lin ∧ new.lin ≤ max y z ∧
        ((∀ p ∈ old.table, -20000 ≤ p ∧ p ≤ 20000) → -20000 ≤ new.lin ∧ new.lin ≤ 20000) ∧
        (old.table = [-2048, -1536, -1024, -512, 0, 512, 1024, 1536, 2048] → new.lin = (c : Int) - 2048) ∧
        new.table = old.table ∧ new.cfg = { old.cfg with zero := new.cfg.zero } ∧
        new.subst = old.subst

/-- R11, R12: how a sample set judges each channel's new sample v, with n the channel after it. -/
def Obligations.SampleSetJudgesQualification : Prop :=
  ∀ (scan : Scan) (o : SampleOrder) (s : State), s.pins.resetHeld = false →
    ∃ t, exec (.sampleSet scan o) s = .next t ∧
      ∀ i,
        let old := s.sfe.chans.get i
        let new := t.sfe.chans.get i
        let v := new.lin
        let near (w : Int) : Prop := new.fault = false ∧ (v - w).natAbs ≤ old.cfg.tol
        (old.qual = .qualified → near old.accepted →
          new.qual = .qualified ∧ new.accepted = v ∧ new.unlock = 0 ∧ new.lock = old.lock ∧ new.cmp = old.cmp) ∧
        (old.qual = .qualified → ¬ near old.accepted → old.unlock + 1 < old.cfg.unlockN →
          new.qual = .qualified ∧ new.accepted = old.accepted ∧ new.unlock = old.unlock + 1 ∧
            new.lock = old.lock ∧ new.cmp = old.cmp) ∧
        (old.qual = .qualified → ¬ near old.accepted → old.cfg.unlockN ≤ old.unlock + 1 →
          new.qual = .unqualified ∧ new.accepted = old.accepted ∧ new.unlock = 0 ∧ new.lock = 0 ∧
            new.cmp = some v) ∧
        (old.qual = .unqualified → old.cmp = none →
          new.qual = .unqualified ∧ new.accepted = old.accepted ∧ new.unlock = old.unlock ∧ new.lock = old.lock ∧
            new.cmp = some v) ∧
        (∀ w, old.qual = .unqualified → old.cmp = some w → near w → old.lock + 1 < old.cfg.lockN →
          new.qual = .unqualified ∧ new.accepted = old.accepted ∧ new.unlock = old.unlock ∧
            new.lock = old.lock + 1 ∧ new.cmp = some v) ∧
        (∀ w, old.qual = .unqualified → old.cmp = some w → near w → old.cfg.lockN ≤ old.lock + 1 →
          new.qual = .qualified ∧ new.accepted = v ∧ new.unlock = 0 ∧ new.lock = 0) ∧
        (∀ w, old.qual = .unqualified → old.cmp = some w → ¬ near w →
          new.qual = .unqualified ∧ new.accepted = old.accepted ∧ new.unlock = old.unlock ∧ new.lock = 0 ∧
            new.cmp = some v)

/-- R11, R12, R14, R21: the sample that unlocks or locks one channel, as commands of their own (log 7): that channel
alone changes, CHANNEL_FAULT is judged, and an unlock of an involved channel fails a ZERO capture, or completes one
whose 32nd sample set has been taken (log 3). A sample that does not unlock or lock changes nothing (log 2). -/
def Obligations.ChannelUnlockAndLock : Prop :=
  ∀ (ch : Chan) (raw : Raw) (s : State), s.pins.resetHeld = false →
    let c := s.sfe.chans.get ch
    let d := c.read raw.toNat
    let gone : Channel := { d with qual := .unqualified, lock := 0, unlock := 0, cmp := some d.lin }
    let back : Channel := { d with qual := .qualified, accepted := d.lin, lock := 0, unlock := 0, cmp := some d.lin }
    let fitted (x : Channel) : State :=
      let w := { s with sfe := { s.sfe with chans := s.sfe.chans.set ch x } }
      setCond .channelFault (Chan.all.any fun i =>
        decide ((w.sfe.chans.get i).cfg.role ≠ .unused ∧ (w.sfe.chans.get i).qual = .unqualified)) w
    let far (w : Int) : Prop := d.fault = true ∨ c.cfg.tol < (d.lin - w).natAbs
    (c.qual = .qualified → far c.accepted → c.cfg.unlockN ≤ c.unlock + 1 →
      (∀ k, s.sfe.capture = some k → (∃ p ∈ k.sums, p.1 = ch) → k.count < 32 →
        exec (.channelUnlock ch raw) s = .next (arbitrate (raise .zeroFailed
          ((fitted gone).mapSfe fun b => { b with capture := none })))) ∧
      (∀ k, s.sfe.capture = some k → (∃ p ∈ k.sums, p.1 = ch) → 32 ≤ k.count → (k.sums.map Prod.fst).Nodup →
        exec (.channelUnlock ch raw) s = .next (arbitrate (captured k (fitted gone)))) ∧
      ((∀ k, s.sfe.capture = some k → ∀ p ∈ k.sums, p.1 ≠ ch) →
        exec (.channelUnlock ch raw) s = .next (arbitrate (fitted gone)))) ∧
    (c.qual = .unqualified ∨ ¬ far c.accepted ∨ c.unlock + 1 < c.cfg.unlockN →
      exec (.channelUnlock ch raw) s = .next (arbitrate s)) ∧
    (∀ w, c.qual = .unqualified → c.cmp = some w → ¬ far w → c.cfg.lockN ≤ c.lock + 1 →
      exec (.channelLock ch raw) s = .next (arbitrate (fitted back))) ∧
    (∀ w, c.qual = .unqualified → c.cmp = some w → far w ∨ c.lock + 1 < c.cfg.lockN →
      exec (.channelLock ch raw) s = .next (arbitrate s)) ∧
    (c.qual = .qualified ∨ c.cmp = none → exec (.channelLock ch raw) s = .next (arbitrate s))

/-! ### Side references, loops, load and captures at a sample set (chapters 1, 3, 5, 6) -/

/-- R39 to R46: the reading of a side in DEPTH mode after a sample set, from the channels it published and the zeros in
force. -/
def Obligations.SideReadingInDepthMode : Prop :=
  ∀ (scan : Scan) (o : SampleOrder) (s : State), s.pins.resetHeld = false →
    (∀ k, s.sfe.capture = some k → k.count < 32) →
    ∃ t, exec (.sampleSet scan o) s = .next t ∧
      ∀ side, (side = .left ∨ s.cfg.side.right.mode = .depth) →
        let old := s.sru.sides.get side
        let new := t.sru.sides.get side
        let rec_ := s.cfg.side.get side
        let heights := Chan.all.filter fun i =>
          (t.sfe.chans.get i).cfg.role == .height && (t.sfe.chans.get i).cfg.side == side
        let members := heights.filter fun i => (t.sfe.chans.get i).pubState != .unqualified
        let total := (members.map fun i => (t.sfe.chans.get i).pubValue - (s.sfe.chans.get i).cfg.zero).sum
        let wasLost : Prop := old.ref = .lost ∨ (side = .right ∧ s.sru.modeChanged = true)
        let apart := (new.avg - old.depth).natAbs
        new.heightSet = heights ∧ new.members = members ∧
        (members.length < rec_.minMembers → new.ref = .lost) ∧
        (rec_.minMembers ≤ members.length → members.length < heights.length → new.ref = .degraded) ∧
        (rec_.minMembers ≤ members.length → members.length = heights.length → new.ref = .full) ∧
        (members ≠ [] → new.avg = max (-5000) (min 5000 (total / (members.length : Int)))) ∧
        (members = [] → new.avg = old.avg) ∧
        (new.ref = .lost → new.depth = old.depth ∧ new.tracking = .track ∧ new.leftLost = false) ∧
        (new.ref ≠ .lost → wasLost → new.depth = new.avg ∧ new.tracking = .track ∧ new.leftLost = true) ∧
        (new.ref ≠ .lost → ¬ wasLost → new.leftLost = false ∧
          (old.tracking = .track → members = old.members → new.depth = new.avg ∧ new.tracking = .track) ∧
          ((old.tracking = .rebase ∨ members ≠ old.members) →
            (apart ≤ rec_.rebaseRate → new.depth = new.avg ∧ new.tracking = .track) ∧
            (rec_.rebaseRate < apart → new.tracking = .rebase ∧
              (old.depth < new.avg → new.depth = old.depth + rec_.rebaseRate) ∧
              (new.avg < old.depth → new.depth = old.depth - rec_.rebaseRate))))

/-- R47 to R49, R53, R39: the reading of RIGHT in SLOPE mode after a sample set, from LEFT's reading and the slope
channel, with the HEIGHT set and member set that are still formed; at the first sample set after a change of the mode its
tracking state is TRACK (R50; log 16). That a LOST RIGHT stands in TRACK is the model's choice (log 39). R41: the four
conditions follow the reference states in either mode. -/
def Obligations.SideReadingInSlopeMode : Prop :=
  ∀ (scan : Scan) (o : SampleOrder) (s : State), s.pins.resetHeld = false →
    ∃ t, exec (.sampleSet scan o) s = .next t ∧
      (s.cfg.side.right.mode = .slope →
        let old := s.sru.sides.right
        let new := t.sru.sides.right
        let left := t.sru.sides.left
        let slopes := Chan.all.filter fun i => (t.sfe.chans.get i).cfg.role == .slope
        let fresh := s.sru.modeChanged
        let heights := Chan.all.filter fun i =>
          (t.sfe.chans.get i).cfg.role == .height && (t.sfe.chans.get i).cfg.side == .right
        new.heightSet = heights ∧
        new.members = (heights.filter fun i => (t.sfe.chans.get i).pubState != .unqualified) ∧ new.avg = old.avg ∧
        (∀ c, slopes = [c] →
          let x := t.sfe.chans.get c
          t.sru.slope = some (c, x.pubValue) ∧
          (x.pubState ≠ .unqualified → left.ref ≠ .lost →
            new.ref = left.ref ∧
            new.depth = max (-5000) (min 5000 (left.depth + x.pubValue * (s.cfg.limits.width : Int) / 1000)) ∧
            new.tracking = (if fresh then .track else left.tracking) ∧
            new.leftLost = (fresh || decide (old.ref = .lost))) ∧
          (x.pubState = .unqualified ∨ left.ref = .lost →
            new.ref = .lost ∧ new.depth = old.depth ∧ new.tracking = .track ∧ new.leftLost = false)) ∧
        (slopes.length ≠ 1 →
          t.sru.slope = none ∧ new.ref = .lost ∧ new.depth = old.depth ∧ new.tracking = .track ∧
            new.leftLost = false)) ∧
      condition .refDegradedL t = decide (t.sru.sides.left.ref = .degraded) ∧
      condition .refDegradedR t = decide (t.sru.sides.right.ref = .degraded) ∧
      condition .refLostL t = decide (t.sru.sides.left.ref = .lost) ∧
      condition .refLostR t = decide (t.sru.sides.right.ref = .lost)

/-- R89 to R97, R186: at a sample set each side's error and far mark are worked out in every cut state, and the law runs
under owner LOOP in ENGAGING, CUTTING, LIFTING and HOLD_SOFT, while no supply cutoff takes the part to HOLD_HARD (one
left due does not, log 3): loop command, integrator, drive and held command, in either order of the blocks. sp moves in
ENGAGING and LIFTING alone; a sample set that completes lifting leaves every command at 0. -/
def Obligations.LoopUpdateFollowsLaw : Prop :=
  ∀ (scan : Scan) (o : SampleOrder) (s : State), s.pins.resetHeld = false →
    ∃ t, exec (.sampleSet scan o) s = .next t ∧
      ∀ side,
        let old := s.dlu.get side
        let new := t.dlu.get side
        let leg := t.vos.legs.get side
        let ref := t.sru.sides.get side
        let rec_ := s.cfg.side.get side
        let g := if new.gain = .normal then rec_.normal else rec_.hard
        let bound (x : Int) : Int := max (-(g.ilim : Int)) (min (g.ilim : Int) x)
        let start := if ref.leftLost then 0 else old.integ
        let i := bound start
        let e := new.err
        let ic := bound (i + (g.ki : Int) * e / 256)
        let raw := (g.kp : Int) * e / 16 + ic
        let lift (m : Nat) : Int := (rec_.vmin : Int) + (m : Int) * (1000 - (rec_.vmin : Int)) / 1000
        let approach : Prop := s.csc.state = .engaging ∨ s.csc.state = .lifting
        let runs : Prop := approach ∨ s.csc.state = .cutting ∨ s.csc.state = .holdSoft
        e = new.sp - ref.depth ∧ new.far = decide (rec_.farTol < e.natAbs) ∧ (¬ approach → new.sp = old.sp) ∧
        (¬ runs → new.integ = start) ∧
        (runs → NoCutoff scan o s → (s.vos.legs.get side).owner = .loop →
          (t.csc.state = .ready → new.u = 0 ∧ new.drive = 0 ∧ leg.held = 0 ∧ leg.owner = .none) ∧
          (t.csc.state ≠ .ready →
            (o.loadFirst = true → new.gain = if t.dlm.material = .hard then .hard else .normal) ∧
            (o.loadFirst = false → s.dlm.winCount < 50 →
              new.gain = if s.dlm.material = .hard then .hard else .normal) ∧
            (ref.ref = .lost → new.u = 0 ∧ new.integ = 0) ∧
            (ref.ref ≠ .lost → e.natAbs ≤ rec_.deadband → new.u = 0 ∧ new.integ = i) ∧
            (ref.ref ≠ .lost → rec_.deadband < e.natAbs → raw.natAbs ≤ g.umax → new.u = raw ∧ new.integ = ic) ∧
            (ref.ref ≠ .lost → rec_.deadband < e.natAbs → g.umax < raw.natAbs →
              new.u = (if raw < 0 then -(g.umax : Int) else (g.umax : Int)) ∧
              (e.sign ≠ raw.sign → new.integ = ic) ∧ (e.sign = raw.sign → new.integ = i)) ∧
            (new.u = 0 → new.drive = 0) ∧ (0 < new.u → new.drive = lift new.u.natAbs) ∧
            (new.u < 0 → new.drive = -lift new.u.natAbs) ∧ leg.held = new.drive ∧ leg.owner = .loop))

/-- R80, R84, R78: at a side reading the setpoints move toward the target by at most the engage rate in ENGAGING, and
toward −clearance by at most the lift rate in LIFTING, limited to −500..max depth, while no completion is due, no
supply cutoff takes the part to HOLD_HARD (one left due does not, log 3) and no side is LOST. -/
def Obligations.SetpointsMoveByTime : Prop :=
  ∀ (scan : Scan) (o : SampleOrder) (s : State), s.pins.resetHeld = false → NoCutoff scan o s →
    ¬ (10 ≤ s.dlu.left.settle ∧ 10 ≤ s.dlu.right.settle) →
    ∃ t, exec (.sampleSet scan o) s = .next t ∧
      (t.sru.sides.left.ref ≠ .lost → t.sru.sides.right.ref ≠ .lost →
        ∀ side,
          let old := (s.dlu.get side).sp
          let new := (t.dlu.get side).sp
          let held (x : Int) : Int := max (-500) (min (s.cfg.plan.maxDepth : Int) x)
          let toward (goal : Int) (rate : Nat) : Prop :=
            ((goal - old).natAbs ≤ rate → new = held goal) ∧
            (rate < (goal - old).natAbs → old < goal → new = held (old + rate)) ∧
            (rate < (goal - old).natAbs → goal < old → new = held (old - rate))
          (s.csc.state = .engaging → targets s = none → new = old) ∧
          (∀ goal, s.csc.state = .engaging → targets s = some goal → toward (goal.get side) s.cfg.plan.engageRate) ∧
          (s.csc.state = .lifting → toward (-(s.cfg.plan.clearance : Int)) s.cfg.plan.liftRate))

/-- R106 to R112: the load index, the usable mark and the classification window at a sample set, and the close of a
window that has counted 50, taken with the sample set or apart from it (log 3); a CLASS_WINDOW_CLOSE of a window that has
not counted 50 does nothing (the model's choice, log 2). -/
def Obligations.LoadMonitorFollowsPressure : Prop :=
  let closed (l : LimitsRec) (d : Dlm) : Dlm :=
    let mean := d.winSum / 50
    let hard := if l.hardOn ≤ mean then min 15 (d.hardCount + 1) else 0
    let soft := if l.hardOn ≤ mean then 0 else if mean < l.hardOff then min 7 (d.softCount + 1) else 0
    { d with
      winSum := 0, winCount := 0, lastMean := mean, hardCount := hard, softCount := soft,
      auto := if l.classLock ≤ hard then .hard else if l.classUnlock ≤ soft then .soft else d.auto }
  let isHard (d : Dlm) : Bool := decide ((if d.mode = .auto then d.auto else d.manual) = .hard)
  (∀ (scan : Scan) (o : SampleOrder) (s : State), s.pins.resetHeld = false → s.dlm.winCount < 50 →
    ∃ t, exec (.sampleSet scan o) s = .next t ∧
      let l := s.cfg.limits
      let pressures := Chan.all.filter fun i => (t.sfe.chans.get i).cfg.role == .pressure
      (∀ c, pressures = [c] → (t.sfe.chans.get c).pubState ≠ .unqualified →
        let load := (max 0 (min 1000 (((t.sfe.chans.get c).pubValue - (l.offset : Int)) * (l.gain : Int) / 16))).toNat
        let d := { s.dlm with usable := true, load := load, winSum := s.dlm.winSum + load,
                              winCount := s.dlm.winCount + 1 }
        (s.dlm.winCount + 1 < 50 ∨ o.apart = true → t.dlm = d) ∧
        (s.dlm.winCount + 1 = 50 → o.apart = false →
          t.dlm = closed l d ∧ condition .materialHard t = isHard (closed l d))) ∧
      ((∀ c, pressures = [c] → (t.sfe.chans.get c).pubState = .unqualified) →
        t.dlm = { s.dlm with usable := false, winSum := 0, winCount := 0 })) ∧
  (∀ s : State, s.pins.resetHeld = false →
    (s.dlm.winCount < 50 → exec .classWindowClose s = .next (arbitrate s)) ∧
    (50 ≤ s.dlm.winCount →
      exec .classWindowClose s = .next (arbitrate
        (setCond .materialHard (isHard (closed s.cfg.limits s.dlm)) { s with dlm := closed s.cfg.limits s.dlm }))))

/-- R19, R20, R21: a ZERO request starts a capture or is refused in the order of its checks. Each sample set of a capture
in flight in READY, while no supply cutoff takes the part to HOLD_HARD, counts, fails it where an involved channel
unlocks first, or completes it at 32: the zero of each channel involved is written and ZERO_DONE raised. Which comes
first, and a completion or cutoff left due that stands as a command of its own, are the model's operands and choices
(log 2, log 3, log 4). -/
def Obligations.ZeroCaptureRuns : Prop :=
  (∀ (tag kind number : Byte) (depth : Int) (s : State), Free s → -32768 ≤ depth → depth ≤ 32767 →
    let side : Side := if number.toNat = 0 then .left else .right
    let involved := Chan.all.filter fun i =>
      if kind.toNat = 0 then i.num == number.toNat
      else (s.sfe.chans.get i).cfg.role == .height && (s.sfe.chans.get i).cfg.side == side
    let good : Prop := involved ≠ [] ∧ ∀ i ∈ involved,
      (s.sfe.chans.get i).cfg.role = .height ∧ (s.sfe.chans.get i).pubState = .qualified
    let run := exec (.zero tag (kind :: number :: i2 depth)) s
    let last := if kind.toNat = 0 then 7 else 1
    let inRange : Prop := kind.toNat ≤ 1 ∧ number.toNat ≤ last ∧ -5000 ≤ depth ∧ depth ≤ 5000
    (1 < kind.toNat → run = .next (answered 0x35#8 tag [0x12#8, 0#8] (heard s))) ∧
    (kind.toNat ≤ 1 → last < number.toNat → run = .next (answered 0x35#8 tag [0x12#8, 1#8] (heard s))) ∧
    (kind.toNat ≤ 1 → number.toNat ≤ last → depth < -5000 ∨ 5000 < depth →
      run = .next (answered 0x35#8 tag [0x12#8, 2#8] (heard s))) ∧
    (inRange → s.csc.state ≠ .ready → run = .next (answered 0x35#8 tag [0x13#8] (heard s))) ∧
    (inRange → s.csc.state = .ready → s.sfe.capture ≠ none →
      run = .next (answered 0x35#8 tag [0x14#8] (heard s))) ∧
    (inRange → s.csc.state = .ready → s.sfe.capture = none → ¬ good →
      run = .next (answered 0x35#8 tag [0x15#8] (heard s))) ∧
    (inRange → s.csc.state = .ready → s.sfe.capture = none → good →
      run = .next (answered 0x35#8 tag [0x01#8]
        { heard s with
          sfe := { s.sfe with
                   capture := some { sums := involved.map fun i => (i, 0), depthNow := depth, count := 0 } } }))) ∧
  (∀ (scan : Scan) (o : SampleOrder) (s : State) (k : Capture), s.pins.resetHeld = false → s.csc.state = .ready →
    NoCutoff scan o s → s.sfe.capture = some k → k.count < 32 → (k.sums.map Prod.fst).Nodup →
    ∃ t, exec (.sampleSet scan o) s = .next t ∧
      let gone : Prop := ∃ p ∈ k.sums,
        (s.sfe.chans.get p.1).qual = .qualified ∧ (t.sfe.chans.get p.1).qual = .unqualified
      let sum (p : Chan × Int) : Int := p.2 + (t.sfe.chans.get p.1).pubValue
      let kept (i : Chan) : Prop := (t.sfe.chans.get i).cfg.zero = (s.sfe.chans.get i).cfg.zero
      let counted : Prop := (∀ i, kept i) ∧
        t.sfe.capture = some { k with sums := k.sums.map fun p => (p.1, sum p), count := k.count + 1 }
      let done : Prop := t.sfe.capture = none ∧
        (marked s.li.events.enable 5 = true → isPending .zeroDone t = true) ∧
        (∀ p ∈ k.sums, (t.sfe.chans.get p.1).cfg.zero = max (-20000) (min 20000 (sum p / 32 - k.depthNow))) ∧
        ∀ i, (∀ p ∈ k.sums, p.1 ≠ i) → kept i
      let failed : Prop := t.sfe.capture = none ∧ (∀ i, kept i) ∧
        (marked s.li.events.enable 6 = true → isPending .zeroFailed t = true)
      let full : Prop := k.count + 1 = 32
      (gone → o.captureFirst = false ∨ ¬ full → failed) ∧ (gone → o.captureFirst = true → full → done) ∧
      (¬ gone → ¬ full ∨ o.apart = true → counted) ∧ (¬ gone → full → o.apart = false → done)) ∧
  (∀ (s : State) (k : Capture), s.pins.resetHeld = false → s.sfe.capture = some k →
    (k.count < 32 → exec .zeroCaptureComplete s = .next (arbitrate s)) ∧
    (32 ≤ k.count → (k.sums.map Prod.fst).Nodup →
      exec .zeroCaptureComplete s = .next (arbitrate (captured k s))))

/-- R165, R167, R171, R45, R86 to R88: the settle counters at a sample set, and what the cut state does at it while no
supply cutoff takes the part to HOLD_HARD (one left due only marks its hand-over, log 3) and no completion is due: a
side that enters LOST takes ENGAGING, CUTTING and LIFTING to HOLD_SOFT with cause REF_LOST; both counters at 10 complete
engaging and lifting, with the sample set or as commands of their own, which otherwise do nothing (log 2, log 3). RIGHT's
loss at a change of its mode is judged by its last reading (log 34). -/
def Obligations.EngageAndLiftComplete : Prop :=
  (∀ s : State, s.pins.resetHeld = false →
    let both : Prop := 10 ≤ s.dlu.left.settle ∧ 10 ≤ s.dlu.right.settle
    (s.csc.state = .engaging → both →
      exec .engageDone s = .next (arbitrate (raise .engageDone (changeState .cutting s)))) ∧
    (s.csc.state = .lifting → both →
      exec .liftDone s = .next (arbitrate (raise .liftDone (changeState .ready s)))) ∧
    (s.csc.state ≠ .engaging ∨ ¬ both → exec .engageDone s = .next (arbitrate s)) ∧
    (s.csc.state ≠ .lifting ∨ ¬ both → exec .liftDone s = .next (arbitrate s))) ∧
  (∀ (scan : Scan) (o : SampleOrder) (s : State), s.pins.resetHeld = false → NoCutoff scan o s →
    ¬ (10 ≤ s.dlu.left.settle ∧ 10 ≤ s.dlu.right.settle) →
    ∃ t, exec (.sampleSet scan o) s = .next t ∧
      let st := s.csc.state
      let csc := { s.csc with cutoffHanded := o.apart && cutsOff scan s }
      let holds (i : Side) : Prop :=
        let ref := t.sru.sides.get i
        let sp := (t.dlu.get i).sp
        let near := ((s.cfg.side.get i).engageTol : Int)
        ref.ref ≠ .lost ∧
        ((st = .engaging ∧ (targets s).map (fun x => x.get i) = some sp ∧ ((sp - ref.depth).natAbs : Int) ≤ near) ∨
          (st = .lifting ∧ ref.depth ≤ near - (s.cfg.plan.clearance : Int)))
      let full (i : Side) : Prop := holds i ∧ 9 ≤ (s.dlu.get i).settle
      let loss : Prop := ∃ i, (s.sru.sides.get i).ref ≠ .lost ∧ (t.sru.sides.get i).ref = .lost
      let complete : Prop := full .left ∧ full .right ∧ o.apart = false
      let moves (new : CutState) (e : EventSrc) : Prop :=
        t.csc = { csc with state := new, stateTimer := none, cause := t.csc.cause } ∧
        (∀ i, (t.dlu.get i).settle = 0) ∧ (marked s.li.events.enable e.id = true → isPending e t = true)
      (loss → st = .engaging ∨ st = .cutting ∨ st = .lifting →
        moves .holdSoft .holdEntered ∧ t.csc.cause = some .refLost) ∧
      (¬ loss → complete → st = .engaging → moves .cutting .engageDone ∧ t.csc.cause = s.csc.cause) ∧
      (¬ loss → complete → st = .lifting → moves .ready .liftDone ∧ t.csc.cause = s.csc.cause) ∧
      (¬ loss → ¬ complete → t.csc = csc ∧
        ∀ i, (holds i → (t.dlu.get i).settle = min 10 ((s.dlu.get i).settle + 1)) ∧
          (¬ holds i → (t.dlu.get i).settle = 0)) ∧
      (st = .config ∨ st = .ready ∨ st = .holdSoft ∨ st = .holdHard →
        t.csc = csc ∧ ∀ i, (t.dlu.get i).settle = 0))

/-- R175, R191, R192, R193: SUPPLY_LOW is set when the low counter has reached 20 and cleared when the recover counter
has reached 50, both counters returning to 0; the fifth sample set in a row below 160 hands a supply cutoff, and a handed
one puts the part in HOLD_HARD from every state but CONFIG and HOLD_HARD; and while SUPPLY_LOW holds no applied drive
exceeds 700 permille (R189, R190: the coil, the pin and the current of an applied drive). That each stands as a command of
its own, and does nothing where it is not due, is the model's choice (log 2, log 3). -/
def Obligations.SupplyMonitorActs : Prop :=
  (∀ s : State, s.pins.resetHeld = false →
    let v := s.vos
    (v.low = false → 20 ≤ v.lowCount →
      exec .supplyLowSet s = .next (arbitrate (setCond .supplyLow true
        { s with vos := { v with low := true, lowCount := 0, recoverCount := 0 } }))) ∧
    (v.low = true ∨ v.lowCount < 20 → exec .supplyLowSet s = .next (arbitrate s)) ∧
    (v.low = true → 50 ≤ v.recoverCount →
      exec .supplyLowClear s = .next (arbitrate (setCond .supplyLow false
        { s with vos := { v with low := false, lowCount := 0, recoverCount := 0 } }))) ∧
    (v.low = false ∨ v.recoverCount < 50 → exec .supplyLowClear s = .next (arbitrate s)) ∧
    let w := { s with csc := { s.csc with cutoffHanded := false } }
    (s.csc.cutoffHanded = true → s.csc.state ≠ .config → s.csc.state ≠ .holdHard →
      exec .supplyCutoff s = .next (arbitrate (raise .holdEntered
        ((changeState .holdHard w).mapCsc fun c => { c with cause := some .supply })))) ∧
    (s.csc.cutoffHanded = true → s.csc.state = .config ∨ s.csc.state = .holdHard →
      exec .supplyCutoff s = .next (arbitrate w)) ∧
    (s.csc.cutoffHanded = false → exec .supplyCutoff s = .next (arbitrate s))) ∧
  (∀ (scan : Scan) (o : SampleOrder) (s : State), s.pins.resetHeld = false → s.vos.lowCount < 20 →
    s.vos.recoverCount < 50 →
    ∃ t, exec (.sampleSet scan o) s = .next t ∧
      let value := scan.supply.toNat * 25 / 256
      let limit := 200 + 10 * s.cfg.lowLevel
      let low := if value < limit then s.vos.lowCount + 1 else 0
      let good := if limit + 5 ≤ value then s.vos.recoverCount + 1 else 0
      (s.vos.low = false → low < 20 → t.vos.low = false ∧ t.vos.lowCount = low) ∧
      (s.vos.low = false → low = 20 → o.apart = false →
        t.vos.low = true ∧ t.vos.lowCount = 0 ∧ t.vos.recoverCount = 0 ∧ condition .supplyLow t = true) ∧
      (s.vos.low = true → good < 50 → t.vos.low = true ∧ t.vos.recoverCount = good) ∧
      (s.vos.low = true → good = 50 → o.apart = false →
        t.vos.low = false ∧ t.vos.lowCount = 0 ∧ t.vos.recoverCount = 0 ∧ condition .supplyLow t = false) ∧
      let cut := if value < 160 then s.vos.cutoffCount + 1 else 0
      (s.csc.cutoffHanded = false → cut < 5 → t.vos.cutoffCount = cut ∧ t.csc.cutoffHanded = false) ∧
      (s.csc.cutoffHanded = false → 5 ≤ cut → t.vos.cutoffCount = 0 ∧ t.csc.cutoffHanded = o.apart ∧
        (o.apart = false → s.csc.state ≠ .config → s.csc.state ≠ .holdHard →
          t.csc.state = .holdHard ∧ t.csc.cause = some .supply ∧ t.csc.stateTimer = none ∧
            (marked s.li.events.enable 14 = true → isPending .holdEntered t = true)) ∧
        (o.apart = false → s.csc.state = .config ∨ s.csc.state = .holdHard → t.csc = s.csc))) ∧
  (∀ held : Int, (appliedDrive true held).natAbs ≤ 700 ∧ appliedDrive false held = held ∧
    (held.natAbs ≤ 700 → appliedDrive true held = held) ∧ (700 < held → appliedDrive true held = 700) ∧
    (held < -700 → appliedDrive true held = -700)) ∧
  (∀ (applied : Int) (imax : Nat),
    let pins (p : Polarity) : Bool × Bool := (plusPin p applied, minusPin p applied)
    (0 < applied → coil applied = .lower ∧ pins .normal = (true, false) ∧ pins .swapped = (false, true)) ∧
    (applied < 0 → coil applied = .raise ∧ pins .normal = (false, true) ∧ pins .swapped = (true, false)) ∧
    (applied = 0 → coil applied = .none ∧ ∀ p, pins p = (false, false)) ∧
    1000 * coilCurrent applied imax ≤ applied.natAbs * imax ∧
    applied.natAbs * imax < 1000 * (coilCurrent applied imax + 1))


/-! ### Pulses, station, belt and drum (chapters 2, 4, 5, 7, 8) -/

/-- R25, R26: a transition that the edge select does not count changes the pin's level alone; a qualifying edge raises
the prescaler count, and the edge that completes the group is the input's counted event (log 6). -/
def Obligations.QualifyingEdgeCounts : Prop :=
  ∀ (i : PulseInput) (rising dirHigh rampFirst : Bool) (s : State), s.pins.resetHeld = false →
    let r := s.cfg.pulse.get i
    let n := s.pcu.count.get i
    let counts : Prop := r.edge = .both ∨ (r.edge = .rising ∧ rising = true) ∨ (r.edge = .falling ∧ rising = false)
    let w := { s with pins := { s.pins with pulse := s.pins.pulse.set i rising } }
    let run := exec (.qualifyingEdge i rising dirHigh rampFirst) s
    (¬ counts → run = .next (arbitrate w)) ∧
    (counts → n + 1 < r.prescale →
      run = .next (arbitrate { w with pcu := { s.pcu with count := s.pcu.count.set i (n + 1) } })) ∧
    (counts → r.prescale ≤ n + 1 → i = .travel → run = exec (.countedTravelEvent dirHigh rampFirst) w) ∧
    (counts → r.prescale ≤ n + 1 → i = .belt → run = exec .countedBeltEvent w) ∧
    (counts → r.prescale ≤ n + 1 → i = .drum → run = exec .countedDrumEvent w)

/-- R27, R28, R29, R33: what a counted TRAVEL event does in the PCU. Where the new station does not pass the high-water
station nothing else changes; where it does, an advance follows, which leaves every other block's configuration,
sensors, side readings, load monitor, cut state and leg outputs alone. -/
def Obligations.CountedTravelMovesStation : Prop :=
  ∀ (dirHigh rampFirst : Bool) (s : State), s.pins.resetHeld = false →
    let ppm := s.cfg.pulse.travel.scale
    let n := s.cfg.pulse.travel.prescale
    let fwd := dirHigh == decide (s.cfg.dirPolarity = .highForward)
    let rem : Int := (s.pcu.travelRem : Int) + (if fwd then (n : Int) * 1000 else -((n : Int) * 1000))
    let d := rem / (ppm : Int)
    let x := (s.pcu.station : Int) + d
    let station := (max 0 (min 50000000 x)).toNat
    let w := { s with
      pins := { s.pins with travelDir := dirHigh },
      pcu := { s.pcu with
               count := { s.pcu.count with travel := 0 }, station := station,
               travelRem := if 0 ≤ x ∧ x ≤ 50000000 then (rem - d * (ppm : Int)).toNat else 0, forward := fwd,
               travelSum := s.pcu.travelSum + (if fwd then (n : Int) else -(n : Int)) } }
    let run := exec (.countedTravelEvent dirHigh rampFirst) s
    (station ≤ s.pcu.high → run = .next (arbitrate w)) ∧
    (s.pcu.high < station →
      ∃ t, run = .next t ∧
        t = { w with
              pcu := { w.pcu with high := station }, pt := t.pt, dlu := t.dlu, btq := t.btq, tlu := t.tlu,
              vos := { s.vos with beltHeld := t.vos.beltHeld }, li := t.li })

/-- R28: a forward counted TRAVEL event followed by a reverse one returns the station and the remainder to where they
began, wherever the limit does not bite. -/
def Obligations.ForwardThenReverseReturns : Prop :=
  ∀ (rampFirst again : Bool) (s t u : State), s.pins.resetHeld = false →
    let ppm := s.cfg.pulse.travel.scale
    let high := decide (s.cfg.dirPolarity = .highForward)
    0 < ppm → s.pcu.travelRem < ppm →
    s.pcu.station + (s.pcu.travelRem + s.cfg.pulse.travel.prescale * 1000) / ppm ≤ 50000000 →
    exec (.countedTravelEvent high rampFirst) s = .next t → exec (.countedTravelEvent (!high) again) t = .next u →
    u.pcu.station = s.pcu.station ∧ u.pcu.travelRem = s.pcu.travelRem ∧ u.pcu.travelSum = s.pcu.travelSum ∧
      u.pcu.high = max s.pcu.high t.pcu.station

/-- R58, R70, R71, R73, R74, R81 to R83: what a high-water advance does to the plan, the windows and the setpoints: the
waypoints before the latest one at or below h are gone, each valid window is judged, the plan-end mark is disarmed at
the last waypoint, their events are raised, and in CUTTING both sides ramp toward the target at the new h. A passed window keeps its entered
mark (the model's choice, log 17). -/
def Obligations.AdvanceMovesPlanAndRamp : Prop :=
  ∀ (dirHigh rampFirst : Bool) (s t : State), s.pins.resetHeld = false →
    exec (.countedTravelEvent dirHigh rampFirst) s = .next t → s.pcu.high < t.pcu.high → PlanOrdered s.pt.list →
    let h := t.pcu.high
    let delta := h - s.pcu.high
    let slope := activeSlope t
    let ramped (goal : Int) (old new : Loop) : Prop :=
      let a := old.acc + slope * delta
      let held (x : Int) : Int := max (-500) (min (s.cfg.plan.maxDepth : Int) x)
      ((goal - old.sp).natAbs ≤ a / 1000 → new = { old with sp := held goal, acc := 0 }) ∧
      (a / 1000 < (goal - old.sp).natAbs →
        (old.sp < goal → new = { old with sp := held (old.sp + (a / 1000 : Nat)), acc := a % 1000 }) ∧
        (goal < old.sp → new = { old with sp := held (old.sp - (a / 1000 : Nat)), acc := a % 1000 }))
    t.pcu.high = t.pcu.station ∧
    PlanSettledAt h s.pt t.pt ∧ PlanEventsAt h s t ∧
    (∀ goal, s.csc.state = .cutting → targets t = some goal →
      ramped goal.left s.dlu.left t.dlu.left ∧ ramped goal.right s.dlu.right t.dlu.right) ∧
    (s.csc.state ≠ .cutting ∨ targets t = none → t.dlu = s.dlu)

/-- R61 to R66: the target of each side at the high-water station h: the plan's value, RIGHT's from the slope in SLOPE
mode, limited to 0..max depth and capped by the valid window whose span holds h; and the active ramp slope. -/
def Obligations.TargetFollowsPlan : Prop :=
  ∀ s : State, PlanOrdered s.pt.list → WindowsApart s.pt.windows →
    let h := s.pcu.high
    let depth := (s.cfg.plan.maxDepth : Int)
    let right (l r : Int) : Int :=
      if s.cfg.side.right.mode = .depth then r else l + r * (s.cfg.limits.width : Int) / 1000
    let inside (w : Window) : Prop := w.valid = true ∧ w.start ≤ h + w.lead ∧ h < w.start + w.length
    let limited (x v : Int) : Prop :=
      ((∀ w ∈ s.pt.windows.all, ¬ inside w) → x = max 0 (min depth v)) ∧
      (∀ w ∈ s.pt.windows.all, inside w → x = min (w.lift : Int) (max 0 (min depth v)))
    let is (l r : Int) : Prop := ∃ t, targets s = some t ∧ limited t.left l ∧ limited t.right (right l r)
    (s.pt.list = [] → targets s = none ∧ activeSlope s = s.cfg.plan.maxSlope) ∧
    (∀ a rest, s.pt.list = a :: rest → h < a.station →
      is (a.left : Int) a.right ∧ activeSlope s = a.ramp.getD s.cfg.plan.maxSlope) ∧
    (∀ a b rest, s.pt.list = a :: b :: rest → a.station ≤ h → h < b.station →
      let along (y z : Int) : Int :=
        y + (z - y) * ((h : Int) - (a.station : Int)) / ((b.station : Int) - (a.station : Int))
      is (along a.left b.left) (along a.right b.right) ∧ activeSlope s = b.ramp.getD s.cfg.plan.maxSlope) ∧
    (∀ a, s.pt.list.getLast? = some a → a.station ≤ h →
      is (a.left : Int) a.right ∧ activeSlope s = s.cfg.plan.maxSlope)

/-- R121, R122, R146, R103: what a high-water advance takes in: the volume of D · W · Δ with the carry, offered to
segment 0 up to 2C with the rest lost, and the closing prediction on the new holding. Outside CUTTING, LIFTING and
HOLD_SOFT it takes in nothing. -/
def Obligations.AdvanceTakesInMaterial : Prop :=
  ∀ (dirHigh rampFirst : Bool) (s t : State), s.pins.resetHeld = false →
    exec (.countedTravelEvent dirHigh rampFirst) s = .next t → s.pcu.high < t.pcu.high →
    let takes : Prop := s.csc.state = .cutting ∨ s.csc.state = .lifting ∨ s.csc.state = .holdSoft
    let sp (i : Side) : Int := if rampFirst then (t.dlu.get i).sp else (s.dlu.get i).sp
    let m (i : Side) : Int :=
      max 0 (if (s.sru.sides.get i).ref = .lost then sp i else (s.sru.sides.get i).depth)
    let q := s.cfg.limits.width * ((m .left + m .right) / 2).toNat * (t.pcu.high - s.pcu.high) + s.btq.carry
    let v := q / 1000000
    let limit := 2 * s.cfg.belt.cap
    (¬ takes → t.btq = s.btq ∧ t.tlu = s.tlu ∧ t.vos = s.vos) ∧
    (∀ g rest, takes → s.btq.segs = g :: rest →
      t.btq = { s.btq with
                segs := { g with vol := min (g.vol + v) limit } :: rest, carry := q % 1000000,
                intakeTotal := s.btq.intakeTotal + v, openBin := s.btq.openBin + v,
                lostTotal := s.btq.lostTotal + (g.vol + v - limit), paused := t.btq.paused, drive := t.btq.drive } ∧
      (limit < g.vol + v → marked s.li.events.enable 24 = true → isPending .spill t = true) ∧
      (∀ x, s.tlu.current = some x → x.state = .loading →
        x.target ≤ x.delivered + ((t.btq.segs.filter fun y => y.tag == .current).map Segment.vol).sum →
          t.tlu = { s.tlu with current := some { x with state := .closing } } ∧
          (marked s.li.events.enable 21 = true → isPending .truckClosing t = true)) ∧
      ((∀ x, s.tlu.current = some x → x.state = .loading →
          x.delivered + ((t.btq.segs.filter fun y => y.tag == .current).map Segment.vol).sum < x.target) →
        t.tlu = s.tlu ∧ t.btq.paused = s.btq.paused ∧ t.btq.drive = s.btq.drive ∧ t.vos = s.vos))

/-- R32, R33, R124: a counted BELT event: the remainder, the window sum, and one shift for each segment length of belt
travel, one after another. -/
def Obligations.CountedBeltShifts : Prop :=
  ∀ s : State, s.pins.resetHeld = false →
    let r := s.pcu.beltRem + s.cfg.pulse.belt.prescale * 1000
    let d := r / s.cfg.pulse.belt.scale
    let len := s.cfg.belt.length / 32
    let a := s.btq.acc + d
    let w := { s with pcu := { s.pcu with count := { s.pcu.count with belt := 0 }, beltRem := r % s.cfg.pulse.belt.scale,
                                          beltSum := s.pcu.beltSum + s.cfg.pulse.belt.prescale } }
    (d = 0 → exec .countedBeltEvent s = .next (arbitrate w)) ∧
    (0 < d → exec .countedBeltEvent s = .next (arbitrate
      (Nat.repeat shift (a / len) { w with btq := { s.btq with acc := a % len } })))

/-- R125 to R128, R147, R152, R154: one shift: the discharge segment goes to the current truck, or is lost without one;
every segment moves one index; a CLOSING truck whose material has all left the belt is closed with its tally; and the
pause mark is worked out. -/
def Obligations.ShiftDischargesAndMoves : Prop :=
  ∀ (s : State) (front : List Segment) (g : Segment), s.btq.segs = front ++ [g] →
    let t := shift s
    let loading : Prop := ∃ x, s.tlu.current = some x ∧ x.state = .loading
    let holds (x : Truck) : Prop := x.state = .closing → ∃ y ∈ front, y.tag = .current ∧ 0 < y.vol
    let waits (z : Segment) : Prop := 0 < z.vol ∧ ∀ x, t.tlu.current = some x → x.state = .closing ∧ z.tag = .next
    t = { s with btq := t.btq, tlu := t.tlu, vos := { s.vos with beltHeld := t.vos.beltHeld }, li := t.li } ∧
    (loading → t.btq.segs = ⟨0, .current⟩ :: front) ∧ (¬ loading → t.btq.segs = ⟨0, .next⟩ :: front) ∧
    (s.tlu.current = none → t.tlu = s.tlu ∧ t.btq.lostTotal = s.btq.lostTotal + g.vol ∧
      (0 < g.vol → marked s.li.events.enable 24 = true → isPending .spill t = true)) ∧
    (∀ x, s.tlu.current = some x → t.btq.lostTotal = s.btq.lostTotal ∧
      (holds x → t.tlu = { s.tlu with current := some { x with delivered := x.delivered + g.vol } }) ∧
      (¬ holds x →
        t.tlu = { s.tlu with
          current := none, closedTotal := s.tlu.closedTotal + (x.delivered + g.vol),
          log := ({ number := x.number, target := x.target, delivered := x.delivered + g.vol, opened := x.opened,
                    closed := s.pcu.station, reason := .full } :: s.tlu.log).take 8 } ∧
        (marked s.li.events.enable 22 = true → isPending .truckClosed t = true))) ∧
    (∀ z, t.btq.segs.getLast? = some z →
      condition .beltPaused t = t.btq.paused ∧
      (waits z → t.btq.paused = true ∧ t.btq.drive = 0 ∧ t.vos.beltHeld = 0) ∧
      (¬ waits z → t.btq.paused = false ∧ t.btq.drive = s.btq.drive ∧ t.vos.beltHeld = s.vos.beltHeld)) ∧
    t.btq = { s.btq with segs := t.btq.segs, lostTotal := t.btq.lostTotal, paused := t.btq.paused,
                         drive := t.btq.drive }

/-- R34, R35, R172: counted DRUM events, the drum speed update with its stall test, and what a drum stall that has been
handed to the CSC does in the state the CSC is then in. The two parts may be taken together or apart (log 3); that
DRUM_STALL does nothing where no stall is handed (log 2), and that the update restarts its 500 ms period whenever it is
taken (log 19), are the model's choices. -/
def Obligations.DrumSpeedAndStall : Prop :=
  ∀ s : State, s.pins.resetHeld = false →
    let speed := min 9999 (s.pcu.drumSum * 120 / s.cfg.pulse.drum.scale)
    let cuts : Prop := s.csc.state = .engaging ∨ s.csc.state = .cutting
    let slow : Prop := cuts ∧ speed < s.cfg.drumMin
    let w (n : Nat) : State :=
      { s with pcu := { s.pcu with drumSpeed := speed, drumSum := 0, drumLeft := 500, stall := n } }
    let handed (b : Bool) (x : State) : State := { x with csc := { x.csc with stallHanded := b } }
    exec .countedDrumEvent s = .next (arbitrate
      { s with pcu := { s.pcu with count := { s.pcu.count with drum := 0 },
                                   drumSum := s.pcu.drumSum + s.cfg.pulse.drum.prescale } }) ∧
    (s.csc.stallHanded = false → ∀ apart,
      (¬ slow → exec (.drumSpeedUpdate apart) s = .next (arbitrate (w 0))) ∧
      (slow → s.pcu.stall + 1 < 5 → exec (.drumSpeedUpdate apart) s = .next (arbitrate (w (s.pcu.stall + 1)))) ∧
      (slow → 5 ≤ s.pcu.stall + 1 → apart = true →
        exec (.drumSpeedUpdate apart) s = .next (arbitrate (raise .drumStall (handed true (w 0))))) ∧
      (slow → 5 ≤ s.pcu.stall + 1 → apart = false →
        exec (.drumSpeedUpdate apart) s = .next (arbitrate
          (enterHold .holdSoft .drumStall (raise .drumStall (w 0)))))) ∧
    (s.csc.stallHanded = true → cuts →
      exec .drumStall s = .next (arbitrate (enterHold .holdSoft .drumStall (handed false s)))) ∧
    (s.csc.stallHanded = true → ¬ cuts → exec .drumStall s = .next (arbitrate (handed false s))) ∧
    (s.csc.stallHanded = false → exec .drumStall s = .next (arbitrate s))

/-- R33, R129, R130, R131, R132: the close of the 100 ms window, with no belt stall due: the speeds, the rate bins, the
setpoint of each belt mode and the drive, 0 under a pause or stall and in CONFIG and HOLD_HARD. A stall counter at 20
calls the belt stall, with the update that counts it or apart from it (log 3, log 21), and that update forms setpoint
and drive as 0 in either case. That BELT_STALL does nothing below 20 (log 2), and that the close restarts its 100 ms
period whenever it is taken (log 19), are the model's choices. -/
def Obligations.SpeedWindowDrivesBelt : Prop :=
  ∀ s : State, s.pins.resetHeld = false →
    let p := s.cfg.pulse
    let b := s.cfg.belt
    let v := min 9999 (s.pcu.beltSum * 10000 / p.belt.scale)
    let bins := (s.btq.openBin :: s.btq.bins).take 10
    let fill := b.cap * b.fill / 100
    let want := (bins.sum * (b.length / 32) + (fill - 1)) / fill
    let slow : Prop := 300 ≤ s.btq.drive ∧ v < s.btq.spB / 10
    let count := if slow then s.btq.stall + 1 else 0
    let called := { s with btq := { s.btq with stalled := true, mode := .stop, stall := 0, spB := 0, drive := 0 },
                           vos := { s.vos with beltHeld := 0 } }
    (∀ apart, s.btq.stall < 20 → (apart = true ∨ count < 20) →
      ∃ t, exec (.speedWindowClose apart) s = .next t ∧
        t.pcu = { s.pcu with
                  travelSpeed := max (-9999) (min 9999 (s.pcu.travelSum * 10000 / (p.travel.scale : Int))),
                  beltSpeed := v, travelSum := 0, beltSum := 0, speedLeft := 100 } ∧
        t.btq = { s.btq with bins := bins, openBin := 0, stall := count, spB := t.btq.spB, drive := t.btq.drive } ∧
        t.vos = { s.vos with beltHeld := t.btq.drive } ∧
        t = { s with pcu := t.pcu, btq := t.btq, vos := t.vos, li := (arbitrate s).li } ∧
        (20 ≤ count → t.btq.spB = 0 ∧ t.btq.drive = 0) ∧
        (s.btq.mode = .stop → t.btq.spB = 0) ∧ (count < 20 → s.btq.mode = .fixed → t.btq.spB = b.fixed) ∧
        (count < 20 → s.btq.mode = .follow → t.btq.spB = max b.vmin (min b.vmax want)) ∧
        (s.btq.paused = true ∨ s.btq.stalled = true ∨ s.csc.state = .config ∨ s.csc.state = .holdHard →
          t.btq.drive = 0) ∧
        (count < 20 → s.btq.paused = false → s.btq.stalled = false → s.csc.state ≠ .config → s.csc.state ≠ .holdHard →
          (t.btq.drive : Int) = max 0 (min 1000 ((t.btq.spB : Int) * 1000 / (b.vfull : Int)
            + (b.kb : Int) * ((t.btq.spB : Int) - (v : Int)) / 16)))) ∧
    (20 ≤ s.btq.stall → exec .beltStall s = .next (arbitrate (setCond .beltStall true called))) ∧
    (s.btq.stall < 20 → exec .beltStall s = .next (arbitrate s)) ∧
    (s.btq.stall = 19 → slow →
      ∃ t, exec (.speedWindowClose false) s = .next t ∧ condition .beltStall t = true ∧ t.vos = called.vos ∧
        t.btq = { called.btq with bins := bins, openBin := 0 } ∧
        (marked s.li.events.enable 19 = true → isPending .beltStall t = true))

/-! ### Cut states, timers, STOP and JOG (chapters 9, 10) -/

/-- R160, R161, R30, R70, R74, R35, R79, R85, R86, R90, R96, R140, R168, R18, R21, R184, R185: everything that a change of
the cut state does in every block, and what it leaves alone; the re-base of h raises the events of the plan and the
windows. The entered mark that a window passed at the re-base keeps (log 17), the held command at the handover from JOG
to LOOP (log 15), and a capture whose 32nd sample set has been taken completing instead of failing (log 3), are the
model's. An entry into a hold state also records its cause and raises HOLD_ENTERED. -/
def Obligations.CutStateChangeInEveryBlock : Prop :=
  ∀ (new : CutState) (s : State),
    let old := s.csc.state
    let neutral : Prop := new = .config ∨ new = .holdHard
    let t := changeState new s
    let timed : Prop := new = .engaging ∨ new = .lifting
    let toLoop : Prop := old = .ready ∧ new = .engaging
    let stripped (c : Channel) : Channel := if new = .config then { c with subst := none } else c
    t = { s with pcu := t.pcu, sfe := t.sfe, pt := t.pt, dlu := t.dlu, btq := t.btq, csc := t.csc, vos := t.vos,
                 li := t.li } ∧
    t.csc = { s.csc with state := new, stateTimer := t.csc.stateTimer } ∧
    (timed → t.csc.stateTimer = some (1000 * s.cfg.plan.timeLimit)) ∧ (¬ timed → t.csc.stateTimer = none) ∧
    (toLoop → t.pcu = { s.pcu with stall := 0, high := s.pcu.station } ∧
      (PlanOrdered s.pt.list → PlanSettledAt s.pcu.station s.pt t.pt ∧ PlanEventsAt s.pcu.station s t)) ∧
    (¬ toLoop → t.pcu = { s.pcu with stall := 0 } ∧ t.pt = s.pt) ∧
    (∀ i,
      let l := s.dlu.get i
      let stops : Prop := neutral ∨ new = .ready
      let m := t.dlu.get i
      m = { l with acc := 0, settle := 0, sp := m.sp, integ := m.integ, u := m.u, drive := m.drive } ∧
      (toLoop → m.sp = max (-500) (min (s.cfg.plan.maxDepth : Int) (s.sru.sides.get i).depth)) ∧
      (¬ toLoop → m.sp = l.sp) ∧ (new = .engaging → m.integ = 0) ∧ (new ≠ .engaging → m.integ = l.integ) ∧
      (stops → m.u = 0 ∧ m.drive = 0) ∧ (¬ stops → m.u = l.u ∧ m.drive = l.drive)) ∧
    (neutral → t.btq = { s.btq with drive := 0 } ∧ t.vos.beltHeld = 0) ∧
    (¬ neutral → t.btq = s.btq ∧ t.vos.beltHeld = s.vos.beltHeld) ∧
    t.vos = { s.vos with legs := t.vos.legs, beltHeld := t.vos.beltHeld } ∧
    (∀ i,
      let l := s.vos.legs.get i
      let m := t.vos.legs.get i
      m.jogLeft = 0 ∧
      (new = .config ∨ new = .ready ∨ (old = .ready ∧ new = .holdHard) → m.owner = .none) ∧
      (toLoop → m.owner = .loop) ∧
      (¬ (new = .config ∨ new = .ready ∨ (old = .ready ∧ new = .holdHard) ∨ toLoop) → m.owner = l.owner) ∧
      (neutral ∨ new = .ready ∨ old = .ready → m.held = 0) ∧
      (¬ (neutral ∨ new = .ready ∨ old = .ready) → m.held = l.held)) ∧
    t.sfe.scanLeft = s.sfe.scanLeft ∧
    (old = .ready → t.sfe.capture = none) ∧ (old ≠ .ready → t.sfe.capture = s.sfe.capture) ∧
    (∀ k, old = .ready → s.sfe.capture = some k →
      (k.count < 32 → marked s.li.events.enable 6 = true → isPending .zeroFailed t = true) ∧
      (32 ≤ k.count → (marked s.li.events.enable 5 = true → isPending .zeroDone t = true) ∧
        ((k.sums.map Prod.fst).Nodup →
          ∀ i, t.sfe.chans.get i = stripped ((captured k s).sfe.chans.get i)))) ∧
    (old ≠ .ready ∨ (∀ k, s.sfe.capture = some k → k.count < 32) →
      ∀ i, t.sfe.chans.get i = stripped (s.sfe.chans.get i)) ∧
    (¬ toLoop → (old ≠ .ready ∨ s.sfe.capture = none) → t.li = s.li) ∧
    (∀ cause, enterHold new cause s = raise .holdEntered { t with csc := { t.csc with cause := some cause } })

/-- R168, R176, R177: the expiries of the state timer and of the silence timer in every cut state; a silence timer that a
telegram has restarted does not expire. That an expiry acts in the last millisecond of its timer (log 19) and does
nothing otherwise (log 2), and that in READY a silence expiry may also follow the JOG that overtook it (log 38), are the
model's choices. -/
def Obligations.TimerExpiriesHold : Prop :=
  ∀ s : State, s.pins.resetHeld = false →
    let x := raise .linkSilence s
    let w := { x with csc := { x.csc with silenceLeft := 16 * 2 ^ s.cfg.link.silence, overtaken := .no } }
    let ended (l : Leg) : Leg := if l.owner = .jog then ⟨.none, 0, 0⟩ else l
    (s.csc.stateTimer = none → exec .stateTimerExpiry s = .next (arbitrate s)) ∧
    (∀ n, s.csc.stateTimer = some n →
      (1 < n → exec .stateTimerExpiry s = .next (arbitrate s)) ∧
      (n ≤ 1 →
        exec .stateTimerExpiry s = .next (arbitrate (raise .stateTimeout (enterHold .holdSoft .timeout s))))) ∧
    (1 < s.csc.silenceLeft → s.csc.state ≠ .ready ∨ s.csc.overtaken ≠ .byJog →
      exec .silenceTimerExpiry s = .next (arbitrate s)) ∧
    (s.csc.silenceLeft ≤ 1 → s.csc.state = .engaging ∨ s.csc.state = .cutting ∨ s.csc.state = .lifting →
      exec .silenceTimerExpiry s = .next (arbitrate (enterHold .holdSoft .silence w))) ∧
    (s.csc.silenceLeft ≤ 1 → s.csc.state = .holdSoft →
      exec .silenceTimerExpiry s = .next (arbitrate (enterHold .holdHard .silenceEscalated w))) ∧
    (s.csc.silenceLeft ≤ 1 ∨ s.csc.overtaken = .byJog → s.csc.state = .ready →
      exec .silenceTimerExpiry s = .next (arbitrate
        { w with vos := { w.vos with legs := ⟨ended s.vos.legs.left, ended s.vos.legs.right⟩ } })) ∧
    (s.csc.silenceLeft ≤ 1 → s.csc.state = .config ∨ s.csc.state = .holdHard →
      exec .silenceTimerExpiry s = .next (arbitrate w))

/-- R173, R174: STOP becomes asserted in every cut state, and is released; a line that already stands at the level
brings nothing (the model's choice, log 28). -/
def Obligations.StopHoldsThePart : Prop :=
  ∀ s : State, s.pins.resetHeld = false →
    let pin (b : Bool) : State := setCond .stopActive b { s with pins := { s.pins with stop := b } }
    (s.pins.stop = true → exec .stopAsserted s = .next s ∧
      exec .stopReleased s = .next (arbitrate (pin false))) ∧
    (s.pins.stop = false → exec .stopReleased s = .next s ∧
      (s.csc.state = .config → exec .stopAsserted s = .next (arbitrate (pin true))) ∧
      (s.csc.state = .holdHard →
        exec .stopAsserted s = .next (arbitrate (raise .holdEntered
          { pin true with csc := { s.csc with cause := some .stop } }))) ∧
      (s.csc.state ≠ .config → s.csc.state ≠ .holdHard →
        exec .stopAsserted s = .next (arbitrate (enterHold .holdHard .stop (pin true)))))

/-- R187, R188: the checks of JOG in their order, what a JOG sets, and what its end leaves. That JOG_EXPIRY acts in the
last millisecond of a JOG (log 19) and does nothing otherwise (log 2), and the mark that lets a silence expiry follow the
JOG that overtook it (log 38), are the model's choices. -/
def Obligations.JogRunsAndEnds : Prop :=
  ∀ s : State,
    (∀ (tag a b c d e : Byte), Free s →
      let out := a.toNat
      let command := s16 b c
      let time := u16 d e
      let run := exec (.jog tag [a, b, c, d, e]) s
      let refused (r : Reply) : Result := .next (answered 0x34#8 tag r (heard s))
      let taken (side : Side) : Result := .next (answered 0x34#8 tag [0x00#8]
        { heard s with
          csc := { (heard s).csc with overtaken := if s.csc.silenceLeft ≤ 1 then .byJog else .no },
          vos := { s.vos with
                   legs := s.vos.legs.set side { owner := .jog, held := command, jogLeft := time } } })
      (1 < out → run = refused [0x12#8, 0#8]) ∧
      (out ≤ 1 → command < -1000 ∨ 1000 < command → run = refused [0x12#8, 1#8]) ∧
      (out ≤ 1 → -1000 ≤ command → command ≤ 1000 → time < 50 ∨ 5000 < time → run = refused [0x12#8, 2#8]) ∧
      (out ≤ 1 → -1000 ≤ command → command ≤ 1000 → 50 ≤ time → time ≤ 5000 →
        (s.csc.state ≠ .ready → run = refused [0x13#8]) ∧
        (s.csc.state = .ready → (out = 0 → run = taken .left) ∧ (out = 1 → run = taken .right)))) ∧
    (∀ side, s.pins.resetHeld = false →
      let leg := s.vos.legs.get side
      (leg.owner = .jog → leg.jogLeft ≤ 1 →
        exec (.jogExpiry side) s = .next (arbitrate
          { s with vos := { s.vos with legs := s.vos.legs.set side ⟨.none, 0, 0⟩ } })) ∧
      (leg.owner ≠ .jog ∨ 1 < leg.jogLeft → exec (.jogExpiry side) s = .next (arbitrate s)))

/-- R178, R179, R180: the six terms of the advance ceiling, the ceiling as their least, the first of the least terms as
its reason, and ADVANCE_PERMIT high exactly while the ceiling is above 0 on a part out of reset. -/
def Obligations.CeilingIsLeastTerm : Prop :=
  ∀ s : State,
    let l := s.cfg.limits
    let d := s.dlm
    let load : Nat :=
      if d.usable = false then l.vminAdv
      else if l.lh ≤ d.load then 0
      else if d.load ≤ l.ls then l.vmax
      else ((l.vminAdv : Int)
        + ((l.vmax : Int) - (l.vminAdv : Int)) * ((l.lh : Int) - (d.load : Int)) / ((l.lh : Int) - (l.ls : Int))).toNat
    let full : Prop := ∃ g rest, s.btq.segs = g :: rest ∧ s.cfg.belt.cap ≤ g.vol
    let loading : Prop := ∃ x, s.tlu.current = some x ∧ x.state = .loading
    ∃ belt truck,
      (s.btq.stalled = true ∨ full ∨ s.btq.mode = .stop → belt = 0) ∧
      (s.btq.stalled = false → ¬ full → s.btq.mode ≠ .stop → 0 < s.cfg.belt.cap → belt = l.vmax) ∧
      (loading ∨ s.tlu.next ≠ none → truck = l.vmax) ∧ (¬ loading → s.tlu.next = none → truck = 0) ∧
      let terms : List (CeilingReason × Nat) :=
        [(.state, if s.csc.state = .cutting then l.vmax else 0), (.load, load),
         (.depth, if s.dlu.left.far = true ∨ s.dlu.right.far = true then l.creep else l.vmax),
         (.belt, belt), (.truck, truck), (.supply, if s.vos.low then l.creep else l.vmax)]
      (∀ x ∈ terms, ceiling s ≤ x.2) ∧
      (∃ before after, terms = before ++ (ceilingReason s, ceiling s) :: after ∧ ∀ x ∈ before, ceiling s < x.2) ∧
      (advancePermit s = true ↔ s.pins.resetHeld = false ∧ 0 < ceiling s)

/-! ### Events, reports and the line (chapter 11) -/

/-- R209, R210: an enabled edge source that occurs becomes pending, and a level source keeps its condition and becomes
pending where it is enabled and true; the notice slot fills at a transition from not pending of a source routed NOTICE;
nothing else changes. -/
def Obligations.EventsLatch : Prop :=
  ∀ (e : EventSrc) (s : State),
    let i := e.id
    let v := s.li.events
    let bit := 1#25 <<< i
    let noticed := s.li.notice || v.route.getLsbD i
    (v.enable.getLsbD i = false ∨ v.pending.getLsbD i = true → raise e s = s) ∧
    (v.enable.getLsbD i = true → v.pending.getLsbD i = false →
      raise e s = { s with li := { s.li with events := { v with pending := v.pending ||| bit }, notice := noticed } }) ∧
    setCond e false s = { s with li := { s.li with events := { v with cond := v.cond &&& ~~~bit } } } ∧
    (v.enable.getLsbD i = false ∨ v.pending.getLsbD i = true →
      setCond e true s = { s with li := { s.li with events := { v with cond := v.cond ||| bit } } }) ∧
    (v.enable.getLsbD i = true → v.pending.getLsbD i = false →
      setCond e true s = { s with
        li := { s.li with events := { v with cond := v.cond ||| bit, pending := v.pending ||| bit },
                          notice := noticed } })

/-- R200, R201, R207, R210: on a free line the oldest reply begins, else the notice, else the status report, and the telegram
leaves its slot; a busy line is left alone. Each reply takes the kind of its request plus 80h and its tag. The end of a
report or POLL reply that carries REQUEST_DROPPED clears the flag. At each expiry of the status period timer a report of
the present moment is placed in the status slot and the timer starts again. How the part knows that a request was dropped
after a report was formed is the model's (log 11); so is it that TRANSMIT_COMPLETE on an idle line and
STATUS_PERIOD_EXPIRY on a stopped timer do nothing (log 2) and that the expiry acts in the timer's last millisecond alone
(log 19). -/
def Obligations.SlotsAreServedInOrder : Prop :=
  ∀ s : State,
    let notice : Telegram := { kind := 0xF2#8, tag := 0#8, payload := eventWord s, dropAfter := false }
    let report : Telegram := { kind := 0xF1#8, tag := 0#8, payload := statusContent s, dropAfter := false }
    (s.li.sending ≠ none → arbitrate s = s) ∧
    (s.li.sending = none →
      (∀ r rest, s.li.replies = r :: rest →
        arbitrate s = { s with li := { s.li with sending := some r, replies := rest } }) ∧
      (s.li.replies = [] → s.li.notice = true →
        arbitrate s = { s with li := { s.li with sending := some notice, notice := false } }) ∧
      (∀ r, s.li.replies = [] → s.li.notice = false → s.li.status = some r →
        arbitrate s = { s with li := { s.li with sending := some r, status := none } }) ∧
      (s.li.replies = [] → s.li.notice = false → s.li.status = none → arbitrate s = s)) ∧
    (∀ kind tag r, outgoing (answered kind tag r s).li =
      outgoing s.li ++ [{ kind := kind + 0x80#8, tag := tag, payload := r, dropAfter := false }]) ∧
    ((statusContent s).getD 59 0#8).getLsbD 3 = s.li.dropped ∧
    (∀ t : Telegram, s.pins.resetHeld = false → s.li.sending = some t →
      s.li.restarting = false ∨ t.kind ≠ 0x83#8 ∨ t.payload ≠ [0x00#8] →
      let clears : Prop := (t.kind = 0xF1#8 ∨ t.kind = 0x82#8) ∧ t.payload.length = 60 ∧
        (t.payload.getD 59 0#8).getLsbD 3 = true ∧ t.dropAfter = false
      let freed (b : Bool) : State := { s with li := { s.li with sending := none, dropped := b } }
      (clears → exec .transmitComplete s = .next (arbitrate (freed false))) ∧
      (¬ clears → exec .transmitComplete s = .next (arbitrate (freed s.li.dropped)))) ∧
    (s.pins.resetHeld = false → s.li.sending = none → exec .transmitComplete s = .next (arbitrate s)) ∧
    (s.pins.resetHeld = false → s.li.statusTimer = none → exec .statusPeriodExpiry s = .next (arbitrate s)) ∧
    (∀ n, s.pins.resetHeld = false → s.li.statusTimer = some n →
      let timer : Option Nat := if s.cfg.link.period = 0 then none else some s.cfg.link.period
      (1 < n → exec .statusPeriodExpiry s = .next (arbitrate s)) ∧
      (n ≤ 1 → exec .statusPeriodExpiry s = .next (arbitrate
        { s with li := { s.li with status := some report, statusTimer := timer } })))

/-- R213: the status content is 60 bytes, and reading its fields back gives the state of the moment, each within the
width of its field. -/
def Obligations.StatusContentCarriesState : Prop :=
  ∀ s : State,
    let c := statusContent s
    let byte (i : Nat) : Byte := c.getD i 0#8
    let two (i : Nat) : Nat := u16 (byte i) (byte (i + 1))
    let four (i : Nat) : Nat := u32 (byte i) (byte (i + 1)) (byte (i + 2)) (byte (i + 3))
    let signed (i : Nat) (x : Int) : Prop := -32768 ≤ x → x ≤ 32767 → s16 (byte i) (byte (i + 1)) = x
    let side (o : Nat) (i : Side) : Prop :=
      let code : Nat := match (s.sru.sides.get i).ref with
        | .lost => 0
        | .degraded => 1
        | .full => 2
      (targets s = none → two o % 4096 = 4095 ∧ two o / 4096 = code) ∧
      (∀ t, targets s = some t → 0 ≤ t.get i → t.get i ≤ 4094 →
        (two o % 4096 : Nat) = t.get i ∧ two o / 4096 = code) ∧
      signed (o + 2) (s.dlu.get i).sp ∧ signed (o + 4) (s.sru.sides.get i).depth ∧
      signed (o + 6) (s.vos.legs.get i).held
    c.length = 60 ∧ byte 0 = 0#8 ∧
    (ceiling s < 1024 → two 1 % 1024 = ceiling s ∧
      (two 1 / 1024 % 8 = match ceilingReason s with
        | .state => 0 | .load => 1 | .depth => 2 | .belt => 3 | .truck => 4 | .supply => 5) ∧
      two 1 / 8192 = match s.csc.state with
        | .config => 0 | .ready => 1 | .engaging => 2 | .cutting => 3 | .lifting => 4 | .holdSoft => 5
        | .holdHard => 6) ∧
    (s.dlm.load < 1024 → two 3 % 1024 = s.dlm.load ∧ two 3 / 1024 % 2 = (if s.dlm.material = .hard then 1 else 0) ∧
      (two 3 / 2048 % 4 = match s.btq.mode with
        | .stop => 0 | .fixed => 1 | .follow => 2) ∧ (two 3 / 8192 % 4 = match s.tlu.current with
        | none => 0
        | some x => if x.state = .loading then 1 else 2) ∧
      two 3 / 32768 = s.tlu.next.isSome.toNat) ∧
    (s.pcu.station < 2 ^ 32 → four 5 = s.pcu.station) ∧ (s.pcu.high < 2 ^ 32 → four 9 = s.pcu.high) ∧
    signed 13 s.pcu.travelSpeed ∧ side 15 .left ∧ side 23 .right ∧
    (s.pcu.beltSpeed < 65536 → two 31 = s.pcu.beltSpeed) ∧
    (∀ g rest, s.btq.segs = g :: rest → g.vol < 65536 → two 33 = g.vol) ∧
    (beltHolding s.btq.segs < 16777216 → two 35 + 65536 * (byte 37).toNat = beltHolding s.btq.segs) ∧
    (s.tlu.current = none → two 38 = 0 ∧ four 40 = 0) ∧
    (∀ x, s.tlu.current = some x → (x.number < 65536 → two 38 = x.number) ∧
      (x.delivered < 2 ^ 32 → four 40 = x.delivered)) ∧
    four 44 = s.btq.intakeTotal % 4294967296 ∧
    four 48 = s.btq.lostTotal % 4294967296 ∧
    four 52 = s.tlu.closedTotal % 4294967296 ∧
    four 56 = s.li.events.pending.toNat + 33554432 * s.pins.stop.toNat + 67108864 * s.csc.commissioned.toNat
      + 134217728 * s.li.dropped.toNat + 268435456 * match s.csc.cause with
        | none => 0 | some .request => 1 | some .silence => 2 | some .silenceEscalated => 3 | some .refLost => 4
        | some .drumStall => 5 | some .timeout => 6 | some .stop => 7 | some .supply => 8

/-! ### The receiver and the taking of requests (chapter 11) -/

/-- R197, R196: what the receiver does with a byte in each of its states, and what abandons a telegram.
TELEGRAM_OVERLENGTH and TELEGRAM_BAD_CRC do so where their condition holds and otherwise nothing (log 2). FRAMING_ERROR
and RECEIVE_GAP_TIMEOUT do so in every state, which leaves a receiver in HUNT as it is; that RECEIVE_GAP_TIMEOUT acts
whatever the stored gap time is the model's choice (log 19). What the receive buffer holds and when its gap timer starts
are the model's (log 1, log 25). -/
def Obligations.ReceiverFollowsTable : Prop :=
  ∀ (b : Byte) (s : State), s.pins.resetHeld = false →
    let l := s.li
    let len := (l.buf.headD 0#8).toNat
    let received := l.buf.length
    let with_ (x : Li) : Result := .next (arbitrate { s with li := x })
    let run := exec (.receiverByteTaken b) s
    let dropped := with_ { l with rx := .hunt }
    let stored (next : RxState) := with_ { l with rx := next, buf := l.buf ++ [b], gapLeft := 2 }
    let good : Prop := crc (l.buf.take (3 + len)) = BitVec.ofNat 16 (u16 (l.buf.getD (3 + len) 0#8) b)
    (l.rx = .hunt → b = 0xA5#8 → run = with_ { l with rx := .length, buf := [], gapLeft := 2 }) ∧
    (l.rx = .hunt → b ≠ 0xA5#8 → run = .next (arbitrate s)) ∧
    (l.rx = .length → b.toNat ≤ 60 → run = stored .header) ∧
    (l.rx = .length → 60 < b.toNat → run = dropped ∧ exec (.telegramOverlength b) s = dropped) ∧
    (l.rx = .header → received = 1 → run = stored .header) ∧
    (l.rx = .header → received = 2 → len = 0 → run = stored .check) ∧
    (l.rx = .header → received = 2 → 0 < len → run = stored .body) ∧
    (l.rx = .body → received + 1 < 3 + len → run = stored .body) ∧
    (l.rx = .body → received + 1 = 3 + len → run = stored .check) ∧
    (l.rx = .check → received = 3 + len → run = stored .check) ∧
    (l.rx = .check → received = 4 + len → ¬ good → run = dropped ∧ exec (.telegramBadCrc b) s = dropped) ∧
    (l.rx = .check → received = 4 + len → good →
      run = exec (decodeTelegram (l.buf.getD 1 0#8) (l.buf.getD 2 0#8) ((l.buf.drop 3).take len)) s ∧
      exec (.telegramBadCrc b) s = .next (arbitrate s)) ∧
    (l.rx ≠ .length ∨ b.toNat ≤ 60 → exec (.telegramOverlength b) s = .next (arbitrate s)) ∧
    (l.rx ≠ .check ∨ received < 4 + len → exec (.telegramBadCrc b) s = .next (arbitrate s)) ∧
    exec .framingError s = dropped ∧ exec .receiveGapTimeout s = dropped

/-- R197, R198: the bytes of a whole good frame, taken one after another by a receiver in HUNT on a line the arbiter
has served, run the request of their telegram. The request's operands, the buffer and the 2 ms of the gap timer are the
model's (log 10, log 25, log 1). -/
def Obligations.FrameRunsItsRequest : Prop :=
  ∀ (kind tag : Byte) (payload : List Byte) (s : State), payload.length ≤ 60 → s.pins.resetHeld = false →
    s.li.rx = .hunt → LineBusyWhileWaiting s →
    let body := BitVec.ofNat 8 payload.length :: kind :: tag :: payload
    let sum := crc body
    feed (0xA5#8 :: body ++ [BitVec.ofNat 8 sum.toNat, BitVec.ofNat 8 (sum.toNat / 256)]) s =
      exec (decodeTelegram kind tag payload)
        { s with li := { s.li with rx := .check, buf := body ++ [BitVec.ofNat 8 sum.toNat], gapLeft := 2 } }

/-- R198, R199, R203: decoding the telegram of a well-formed request command gives that command back, and every telegram
of a payload that fits is the telegram of the command it decodes to. The commands' operands are the model's (log 10). -/
def Obligations.TelegramDecodesToItsCommand : Prop :=
  (∀ (i : Instr) (kind tag : Byte) (payload : List Byte), i.wellFormed = true →
    i.telegram = some (kind, tag, payload) → decodeTelegram kind tag payload = i) ∧
  (∀ (kind tag : Byte) (payload : List Byte), payload.length ≤ 60 →
    (decodeTelegram kind tag payload).telegram = some (kind, tag, payload) ∧
      (decodeTelegram kind tag payload).wellFormed = true)

/-- R198: the steps of taking a good telegram, one after another, for every kind and payload: discarded while a RESTART
is in progress or both reply slots are full, UNKNOWN, LENGTH, an unknown section, and MODE while STOP is asserted. A
request that ends at one of them changes no other state. The mark on telegrams formed before a drop is the model's
(log 11). -/
def Obligations.RequestsAreScreened : Prop :=
  ∀ (kind tag : Byte) (payload : List Byte) (s : State), s.pins.resetHeld = false →
    let run := exec (decodeTelegram kind tag payload) s
    let n := payload.length
    let refused (r : Reply) : Result := .next (answered kind tag r (heard s))
    let mark (t : Telegram) : Telegram := { t with dropAfter := true }
    let plain : List (Nat × List Nat) :=
      [(0x01, [0]), (0x02, [0]), (0x03, [0]), (0x12, [20]), (0x13, [0]), (0x14, [0]),
       (0x20, [10, 20, 30, 40, 50, 60]), (0x21, [0]), (0x22, [2]), (0x23, [11]), (0x24, [1]), (0x25, [4]),
       (0x30, [0]), (0x31, [0]), (0x32, [1]), (0x33, [0]), (0x34, [5]), (0x35, [4]), (0x36, [3]), (0x37, [1]),
       (0x38, [2]), (0x40, [1]), (0x41, [6]), (0x42, [0]), (0x43, [0]), (0x44, [1]), (0x50, [3]), (0x51, [4])]
    let setLengths : List (Nat × Nat) :=
      [(1, 17), (2, 33), (3, 17), (4, 11), (5, 19), (6, 27), (7, 7), (8, 7), (9, 5)]
    let sectioned : Prop := kind = 0x10#8 ∨ kind = 0x11#8
    let readOnly : Prop := kind.toNat ∈ [0x01, 0x02, 0x11, 0x22, 0x44, 0x51]
    (s.li.restarting = true → run = .next (arbitrate (heard s))) ∧
    (s.li.restarting = false → 2 ≤ s.li.replies.length →
      run = .next (arbitrate { heard s with li := { (heard s).li with
        dropped := true, replies := s.li.replies.map mark, status := s.li.status.map mark,
        sending := s.li.sending.map mark } })) ∧
    (Listening s →
      (¬ sectioned → (∀ p ∈ plain, p.1 ≠ kind.toNat) → run = refused [0x10#8]) ∧
      (∀ lengths, (kind.toNat, lengths) ∈ plain → n ∉ lengths → run = refused [0x11#8]) ∧
      (∀ lengths, (kind.toNat, lengths) ∈ plain → n ∈ lengths → ¬ readOnly → s.pins.stop = true →
        run = refused [0x13#8]) ∧
      (sectioned → payload = [] → run = refused [0x11#8]) ∧
      (∀ b rest, sectioned → payload = b :: rest → b.toNat = 0 ∨ 9 < b.toNat → run = refused [0x12#8, 0xFF#8]) ∧
      (∀ b rest m, kind = 0x10#8 → payload = b :: rest → (b.toNat, m) ∈ setLengths → n ≠ m →
        run = refused [0x11#8]) ∧
      (∀ b rest m, kind = 0x10#8 → payload = b :: rest → (b.toNat, m) ∈ setLengths → n = m → s.pins.stop = true →
        run = refused [0x13#8]) ∧
      (∀ b rest, kind = 0x11#8 → payload = b :: rest → 1 ≤ b.toNat → b.toNat ≤ 9 → n ≠ 4 → run = refused [0x11#8]))

/-- The model's UNKNOWN_REQUEST (log 10) carries every telegram that no other row names: R198 answers UNKNOWN to a kind
outside the table, LENGTH to a payload too short to name a section or a first byte, and FIELD to an unknown section. A
PLAN_READ, HOLD or MATERIAL_SET whose first byte names no row is answered LENGTH at a wrong length, then MODE under STOP
but for PLAN_READ, then FIELD 0 (R60, R169, R113). -/
def Obligations.UnknownRequestAnswered : Prop :=
  ∀ (kind tag b c : Byte) (payload rest : List Byte) (s : State), Listening s →
    (kind.toNat ∉ wholeKinds → kind.toNat ∉ [0x10, 0x11, 0x22, 0x32, 0x38] →
      exec (.unknownRequest kind tag payload) s = .next (answered kind tag [0x10#8] (heard s))) ∧
    (kind.toNat ∈ [0x10, 0x11, 0x22, 0x32, 0x38] →
      exec (.unknownRequest kind tag []) s = .next (answered kind tag [0x11#8] (heard s))) ∧
    (kind.toNat ∈ [0x10, 0x11] → b.toNat = 0 ∨ 9 < b.toNat →
      exec (.unknownRequest kind tag (b :: rest)) s = .next (answered kind tag [0x12#8, 0xFF#8] (heard s))) ∧
    (1 < b.toNat →
      (∀ len, (kind.toNat, len) ∈ [(0x22, 2), (0x32, 1), (0x38, 2)] → (b :: rest).length ≠ len →
        exec (.unknownRequest kind tag (b :: rest)) s = .next (answered kind tag [0x11#8] (heard s))) ∧
      exec (.unknownRequest 0x22#8 tag [b, c]) s = .next (answered 0x22#8 tag [0x12#8, 0#8] (heard s)) ∧
      (s.pins.stop = true →
        exec (.unknownRequest 0x32#8 tag [b]) s = .next (answered 0x32#8 tag [0x13#8] (heard s)) ∧
        exec (.unknownRequest 0x38#8 tag [b, c]) s = .next (answered 0x38#8 tag [0x13#8] (heard s))) ∧
      (s.pins.stop = false →
        exec (.unknownRequest 0x32#8 tag [b]) s = .next (answered 0x32#8 tag [0x12#8, 0#8] (heard s)) ∧
        exec (.unknownRequest 0x38#8 tag [b, c]) s = .next (answered 0x38#8 tag [0x12#8, 0#8] (heard s))))

/-- R206, R208, R153, R60, R202: the replies of IDENTIFY, POLL, TALLY_READ and PLAN_READ, taken while STOP is asserted
too and changing nothing, and RESTART, which sets the mark and answers OK. -/
def Obligations.ReadingsAreAnswered : Prop :=
  ∀ (tag n : Byte) (s : State), Listening s →
    let straps := s.li.straps
    let bit (b : Bool) : Byte := if b then 1#8 else 0#8
    let reply (kind : Byte) (r : Reply) : Result := .next (answered kind tag r (heard s))
    let size := s.pt.list.length
    let ahead := (s.pt.list.filter fun x => decide (s.pcu.high < x.station)).length
    let k := min 5 (size - n.toNat)
    let position : Byte := match planPosition s.pcu.high s.pt.list with
      | .none => 0#8
      | .before => 1#8
      | .between => 2#8
      | .past => 3#8
    let waypoint (x : Waypoint) : List Byte := le 4 x.station ++ le 2 x.left ++ leInt 2 x.right ++ le 2 (x.ramp.getD 0)
    let window (x : Window) : List Byte :=
      BitVec.ofNat 8 ((if x.valid then 1 else 0) + (if x.entered then 2 else 0))
        :: (le 4 x.start ++ le 2 x.length ++ le 2 x.lead ++ le 2 x.lift)
    exec (.identify tag []) s = reply 0x01#8
      [0x00#8, 0x54#8, 0x44#8, 0x4C#8, 0x24#8, 0x41#8, bit straps.cfg0, bit straps.cfg1, bit straps.cfg2,
       bit straps.cfg3, bit s.csc.commissioned] ∧
    exec (.poll tag []) s = reply 0x02#8 (statusContent s) ∧
    (∀ x, s.tlu.log[n.toNat]? = some x →
      exec (.tallyRead tag [n]) s = reply 0x44#8 (0x00#8 ::
        (le 2 x.number ++ le 4 x.target ++ le 4 x.delivered ++ le 4 x.opened ++ le 4 x.closed
          ++ [if x.reason = .full then 0#8 else 1#8, BitVec.ofNat 8 s.tlu.log.length] ++ le 4 s.tlu.closedTotal))) ∧
    (s.tlu.log.length ≤ n.toNat → exec (.tallyRead tag [n]) s = reply 0x44#8 [0x12#8, 0#8]) ∧
    (n.toNat ≤ size → exec (.planReadWaypoints tag [n]) s = reply 0x22#8
      ([0x00#8, BitVec.ofNat 8 size, BitVec.ofNat 8 ahead, position, n, BitVec.ofNat 8 k]
        ++ (((s.pt.list.drop n.toNat).take k).map waypoint).flatten)) ∧
    (size < n.toNat → exec (.planReadWaypoints tag [n]) s = reply 0x22#8 [0x12#8, 1#8]) ∧
    (n.toNat ≤ 128 → exec (.planReadWindows tag [n]) s = reply 0x22#8
      (0x00#8 :: (window s.pt.windows.w0 ++ window s.pt.windows.w1 ++ window s.pt.windows.w2
        ++ window s.pt.windows.w3))) ∧
    (128 < n.toNat → exec (.planReadWindows tag [n]) s = reply 0x22#8 [0x12#8, 1#8]) ∧
    (s.pins.stop = false → exec (.restart tag []) s =
      .next (answered 0x03#8 tag [0x00#8] { heard s with li := { (heard s).li with restarting := true } }))

/-- R204: CONFIG_GET of each section answers page n of the response, 56 bytes a page, with the page number and the page
count; a page past the last is FIELD FEh and an index out of range FIELD 0. The pages one after another are the
response, and no reply is longer than a telegram's payload. The responses hold the record's fields, then the readings of
R24, R37, R53 with R102, R77, R139, R117 with R182, R195 and R204 in the order of their rules. Which values a mark or a
level counts from (log 12), the free codes (log 13), what a stopped timer and a cause not recorded read (log 14), and the
slope readings between two sample sets (log 35), the silence timer's full period (log 36) and the one byte of a list's
length (log 37) are the model's. -/
def Obligations.ConfigGetAnswersPages : Prop :=
  ∀ (tag page : Byte) (index : Nat) (s : State), Listening s → index < 65536 →
    let paged (i : Instr) (bound : Nat) (response : List Byte) : Prop :=
      let count := (response.length + 55) / 56
      let reply := [0x00#8, page, BitVec.ofNat 8 count] ++ (response.drop (56 * page.toNat)).take 56
      (bound ≤ index → exec i s = .next (answered 0x11#8 tag [0x12#8, 0#8] (heard s))) ∧
      (index < bound → count ≤ page.toNat → exec i s = .next (answered 0x11#8 tag [0x12#8, 0xFE#8] (heard s))) ∧
      (index < bound → page.toNat < count → exec i s = .next (answered 0x11#8 tag reply (heard s))) ∧
      reply.length ≤ 59 ∧ (List.range count).flatMap (fun p => (response.drop (56 * p)).take 56) = response
    let rest := le 2 index ++ [page]
    let mark (set : Bool) : List Byte := place set [true, false]
    let bit (b : Bool) : List Byte := place b [false, true]
    let nats (l : List Nat) : List Byte := l.flatMap (le 2)
    let channels (l : List Chan) : List Byte := BitVec.ofNat 8 l.length :: l.map fun i => BitVec.ofNat 8 i.num
    let first := decide (index = 0)
    let sensor : List Byte :=
      let c := s.sfe.chans.get (Chan.all.getD index .a0)
      le 2 index ++ place c.cfg.role [.unused, .height, .slope, .pressure] ++ place c.cfg.side [.left, .right]
        ++ leInt 2 c.cfg.trim ++ nats [c.cfg.lockN, c.cfg.unlockN, c.cfg.tol] ++ leInt 2 c.cfg.zero
        ++ c.table.flatMap (leInt 2) ++ nats [c.raw, c.trimmed] ++ leInt 2 c.lin ++ mark c.fault
        ++ place c.qual [.qualified, .unqualified] ++ place c.pubState [.qualified, .unqualified, .substituted]
        ++ leInt 2 c.accepted ++ placeOr c.subst ++ nats [c.lock, c.unlock]
    let side : List Byte :=
      let i : Side := if index = 0 then .left else .right
      let r := s.cfg.side.get i
      let x := s.sru.sides.get i
      let l := s.dlu.get i
      let slope : List Byte := match s.sru.slope with
        | none => le 2 0x8000 ++ le 2 0x8000
        | some (c, v) => le 2 c.num ++ leInt 2 v
      le 2 index ++ place r.mode [.depth, .slope] ++ nats [r.minMembers, r.rebaseRate, r.deadband, r.normal.kp,
          r.normal.ki, r.normal.ilim, r.normal.umax, r.hard.kp, r.hard.ki, r.hard.ilim, r.hard.umax, r.vmin,
          r.engageTol, r.farTol]
        ++ channels x.heightSet ++ channels x.members ++ nats [x.heightSet.length, x.members.length]
        ++ place x.ref [.full, .degraded, .lost] ++ leInt 2 x.avg ++ leInt 2 x.depth
        ++ place x.tracking [.track, .rebase] ++ (if first = false ∧ r.mode = .slope then slope else [])
        ++ leInt 2 l.sp ++ le 2 l.acc ++ leInt 2 l.integ ++ place l.gain [.normal, .hard] ++ leInt 2 l.err
        ++ leInt 2 l.u ++ leInt 2 l.drive ++ le 2 l.settle ++ mark l.far
    let plan : List Byte :=
      let r := s.cfg.plan
      let position : Nat := match s.pt.list.head?, s.pt.list.getLast? with
        | some a, some b => if s.pcu.high < a.station then 1 else if b.station ≤ s.pcu.high then 3 else 2
        | _, _ => 0
      nats [0, r.maxSlope, r.engageRate, r.liftRate, r.clearance, r.maxDepth, r.lowMark, r.timeLimit,
          s.pt.list.length, (s.pt.list.filter fun x => decide (s.pcu.high < x.station)).length]
        ++ le 2 position
        ++ placeOr ((targets s).map Sides.left) ++ placeOr ((targets s).map Sides.right) ++ le 2 (activeSlope s)
        ++ mark s.pt.armed ++ le 2 (Config.conditionCode (condition .planLow s)).toNat
    let pulse : List Byte :=
      let i : PulseInput := if index = 0 then .travel else if index = 1 then .belt else .drum
      let r := s.cfg.pulse.get i
      let option : List Byte := match i with
        | .travel => place s.cfg.dirPolarity [.highForward, .lowForward]
        | .belt => le 2 0
        | .drum => le 2 s.cfg.drumMin
      let readings : List Byte := match i with
        | .travel => leInt 2 s.pcu.travelSpeed ++ le 4 s.pcu.station ++ le 4 s.pcu.high ++ le 2 s.pcu.travelRem
            ++ mark s.pcu.forward
        | .belt => nats [s.pcu.beltSpeed, s.pcu.beltRem]
        | .drum => nats [s.pcu.drumSpeed, s.pcu.stall]
      le 2 index ++ place r.edge [.rising, .falling, .both] ++ nats [r.prescale, r.scale] ++ option
        ++ le 2 (s.pcu.count.get i) ++ readings
    let vmax := s.cfg.limits.vmax
    let beltTerm : Nat :=
      if s.btq.stalled = true ∨ s.cfg.belt.cap ≤ (s.btq.segs.map Segment.vol).headD 0 ∨ s.btq.mode = .stop then 0
      else vmax
    let belt : List Byte :=
      let r := s.cfg.belt
      let b := s.btq
      nats [0, r.length, r.cap, r.fill, r.vmin, r.vmax, r.vfull, r.kb, r.fixed]
        ++ b.segs.flatMap (fun g => le 2 g.vol ++ place g.tag [.current, .next])
        ++ le 4 (b.segs.map Segment.vol).sum ++ nats [r.length / 32, b.acc] ++ le 4 b.carry ++ b.bins.flatMap (le 4)
        ++ le 4 b.bins.sum ++ place b.mode [.stop, .fixed, .follow] ++ nats [b.spB, b.drive, b.stall]
        ++ mark b.stalled ++ mark b.paused ++ le 2 beltTerm ++ le 4 b.intakeTotal ++ le 4 b.lostTotal
    let classes : List Material := [.soft, .hard]
    let limits : List Byte :=
      let r := s.cfg.limits
      let d := s.dlm
      let creeps (b : Bool) : Nat := if b then r.creep else vmax
      let load : Nat :=
        if d.usable = false then r.vminAdv
        else if r.lh ≤ d.load then 0
        else if d.load ≤ r.ls then vmax
        else ((r.vminAdv : Int)
          + ((vmax : Int) - (r.vminAdv : Int)) * ((r.lh : Int) - (d.load : Int)) / ((r.lh : Int) - (r.ls : Int))).toNat
      let truck : Nat :=
        if (s.tlu.current.any fun x => decide (x.state = .loading)) = true ∨ s.tlu.next.isSome = true then vmax else 0
      let causes : List (Option HoldCause) :=
        [some .request, some .silence, some .silenceEscalated, some .refLost, some .drumStall, some .timeout,
         some .stop, some .supply, none]
      nats [0, vmax, r.vminAdv, r.creep, r.ls, r.lh, r.gain, r.offset, r.hardOn, r.hardOff, r.classLock,
          r.classUnlock, r.width]
        ++ le 2 d.load ++ mark d.usable ++ nats [load, d.winSum, d.winCount, d.lastMean, d.hardCount, d.softCount]
        ++ place d.auto classes ++ place d.mode [.auto, .manual] ++ place d.manual classes
        ++ place (if d.mode = .auto then d.auto else d.manual) classes
        ++ place s.csc.state [.config, .ready, .engaging, .cutting, .lifting, .holdSoft, .holdHard]
        ++ place s.csc.cause causes ++ placeOr (s.csc.stateTimer.map Int.ofNat)
        ++ le 2 (16 * 2 ^ s.cfg.link.silence) ++ mark s.csc.commissioned ++ mark s.pins.stop
        ++ nats [if s.csc.state = .cutting then vmax else 0, load,
            creeps (s.dlu.left.far || s.dlu.right.far), beltTerm, truck, creeps s.vos.low, ceiling s]
        ++ place (ceilingReason s) [.state, .load, .depth, .belt, .truck, .supply]
        ++ le 2 (Config.permitCode (advancePermit s)).toNat
    let output : List Byte :=
      let leg (i : Side) : List Byte :=
        let r := s.cfg.out.get i
        let l := s.vos.legs.get i
        let a : Int := if s.vos.low then max (-700) (min 700 l.held) else l.held
        nats [index, r.imax] ++ place r.polarity [.normal, .swapped] ++ place l.owner [.none, .loop, .jog]
          ++ leInt 2 l.held ++ le 2 l.jogLeft ++ leInt 2 a ++ le 2 (if 0 < a then 1 else if a < 0 then 2 else 0)
          ++ le 2 (a.natAbs * r.imax / 1000)
      let held := s.vos.beltHeld
      if index = 0 then leg .left else if index = 1 then leg .right
      else nats [index, s.cfg.beltImax, 0, held, held, held * s.cfg.beltImax / 1000]
    let link : List Byte :=
      let l := s.li
      let event (i : Nat) : List Byte :=
        le 2 (Config.pendingCode (marked l.events.pending i)).toNat ++ bit (marked l.events.enable i)
          ++ bit (marked l.events.route i)
      nats [0, s.cfg.link.silence, s.cfg.link.period] ++ bit l.straps.cfg0 ++ bit l.straps.cfg1 ++ bit l.straps.cfg2
        ++ bit l.straps.cfg3 ++ place RxState.hunt [.hunt, .length, .header, .body, .check] ++ le 2 l.replies.length
        ++ bit l.notice ++ bit l.status.isSome ++ mark l.dropped ++ placeOr (l.statusTimer.map Int.ofNat)
        ++ (List.range 25).flatMap event
    let supply : List Byte :=
      let v := s.vos
      nats [0, s.cfg.lowLevel, 200 + 10 * s.cfg.lowLevel, v.supply] ++ le 2 (Config.conditionCode v.low).toNat
        ++ nats [v.lowCount, v.recoverCount, v.cutoffCount]
    paged (.configGetSensor tag rest) 8 sensor ∧ paged (.configGetSide tag rest) 2 side ∧
    paged (.configGetPlan tag rest) 1 plan ∧ paged (.configGetPulse tag rest) 3 pulse ∧
    paged (.configGetBelt tag rest) 1 belt ∧ paged (.configGetLimits tag rest) 1 limits ∧
    paged (.configGetOutput tag rest) 3 output ∧ paged (.configGetLink tag rest) 1 link ∧
    paged (.configGetSupply tag rest) 1 supply

/-! ### Configuration records (R203) -/

/-- R23, R4, R14: a SENSOR record in range is refused MODE outside CONFIG when its role or side differs, and is written
whole otherwise; a changed role restarts the channel's qualification and CHANNEL_FAULT is judged. -/
def Obligations.SensorRecordIsWritten : Prop :=
  ∀ (tag : Byte) (i : Chan) (r : SensorRec) (s : State), Free s → -7 ≤ r.trim → r.trim ≤ 7 →
    1 ≤ r.lockN → r.lockN ≤ 31 → 1 ≤ r.unlockN → r.unlockN ≤ 7 → 1 ≤ r.tol → r.tol ≤ 500 →
    -20000 ≤ r.zero → r.zero ≤ 20000 →
    let role : Nat := match r.role with
      | .unused => 0
      | .height => 1
      | .slope => 2
      | .pressure => 3
    let run := exec (.configSetSensor tag (le 2 i.num ++ le 2 role ++ le 2 (if r.side = .left then 0 else 1)
      ++ leInt 2 r.trim ++ le 2 r.lockN ++ le 2 r.unlockN ++ le 2 r.tol ++ leInt 2 r.zero)) s
    let c := s.sfe.chans.get i
    let put (x : Channel) : State := { heard s with sfe := { s.sfe with chans := s.sfe.chans.set i x } }
    let anew := put { c with cfg := r, qual := .unqualified, lock := 0, unlock := 0, cmp := none, accepted := 0 }
    let fault := Chan.all.any fun j =>
      decide ((anew.sfe.chans.get j).cfg.role ≠ .unused ∧ (anew.sfe.chans.get j).qual = .unqualified)
    (s.csc.state ≠ .config → c.cfg.role ≠ r.role ∨ c.cfg.side ≠ r.side →
      run = .next (answered 0x10#8 tag [0x13#8] (heard s))) ∧
    (s.csc.state = .config ∨ c.cfg.side = r.side → c.cfg.role = r.role →
      run = .next (answered 0x10#8 tag [0x00#8] (put { c with cfg := r }))) ∧
    (s.csc.state = .config → c.cfg.role ≠ r.role →
      run = .next (answered 0x10#8 tag [0x00#8] (setCond .channelFault fault anew)))

/-- R52, R55, R98, R104: a SIDE record in range is refused MODE outside CONFIG when its mode or min members differs, and
is written whole otherwise; the integrator is limited to the active gain set at once, and a changed mode of RIGHT
empties the plan. -/
def Obligations.SideRecordIsWritten : Prop :=
  ∀ (tag : Byte) (i : Side) (r : SideRec) (s : State), Free s → (i = .left → r.mode = .depth) →
    1 ≤ r.minMembers → r.minMembers ≤ 3 → 1 ≤ r.rebaseRate → r.rebaseRate ≤ 50 → r.deadband ≤ 50 →
    (∀ g, g = r.normal ∨ g = r.hard → g.kp ≤ 255 ∧ g.ki ≤ 255 ∧ g.ilim ≤ 1000 ∧ 100 ≤ g.umax ∧ g.umax ≤ 1000) →
    r.vmin ≤ 400 → 1 ≤ r.engageTol → r.engageTol ≤ 100 → 10 ≤ r.farTol → r.farTol ≤ 500 →
    let gains (g : Gains) : List Byte := le 2 g.kp ++ le 2 g.ki ++ le 2 g.ilim ++ le 2 g.umax
    let run := exec (.configSetSide tag (le 2 (if i = .left then 0 else 1) ++ le 2 (if r.mode = .depth then 0 else 1)
      ++ le 2 r.minMembers ++ le 2 r.rebaseRate ++ le 2 r.deadband ++ gains r.normal ++ gains r.hard ++ le 2 r.vmin
      ++ le 2 r.engageTol ++ le 2 r.farTol)) s
    let old := s.cfg.side.get i
    let l := s.dlu.get i
    let limit : Int := ((if l.gain = .normal then r.normal.ilim else r.hard.ilim : Nat) : Int)
    let w := { heard s with
      cfg := { s.cfg with side := s.cfg.side.set i r },
      dlu := s.dlu.set i { l with integ := max (-limit) (min limit l.integ) } }
    let structural : Prop := old.mode ≠ r.mode ∨ old.minMembers ≠ r.minMembers
    (s.csc.state ≠ .config → structural → run = .next (answered 0x10#8 tag [0x13#8] (heard s))) ∧
    (s.csc.state = .config ∨ ¬ structural → i = .left ∨ old.mode = r.mode →
      run = .next (answered 0x10#8 tag [0x00#8] w)) ∧
    (s.csc.state = .config → i = .right → old.mode ≠ r.mode →
      run = .next (answered 0x10#8 tag [0x00#8] (setCond .planLow (decide (0 < s.cfg.plan.lowMark))
        { w with sru := { s.sru with modeChanged := true }, pt := { s.pt with list := [], armed := false } })))

/-- R76, R78, R73, R36: a PLAN record in range is written in every cut state, limits both setpoints to the new max depth
and judges PLAN_LOW; a PULSE record in range is refused MODE outside CONFIG when the scale or the polarity differs, and
otherwise is written and returns the prescaler count and the remainder to 0 where the rule says so. -/
def Obligations.PlanAndPulseRecordsAreWritten : Prop :=
  (∀ (tag : Byte) (r : PlanRec) (s : State), Free s → 1 ≤ r.maxSlope → r.maxSlope ≤ 500 → 1 ≤ r.engageRate →
    r.engageRate ≤ 20 → 1 ≤ r.liftRate → r.liftRate ≤ 30 → r.clearance ≤ 500 → r.maxDepth ≤ 3500 → r.lowMark ≤ 32 →
    1 ≤ r.timeLimit → r.timeLimit ≤ 60 →
    let cut (l : Loop) : Loop := { l with sp := min l.sp (r.maxDepth : Int) }
    exec (.configSetPlan tag (le 2 0 ++ le 2 r.maxSlope ++ le 2 r.engageRate ++ le 2 r.liftRate ++ le 2 r.clearance
      ++ le 2 r.maxDepth ++ le 2 r.lowMark ++ le 2 r.timeLimit)) s
      = .next (answered 0x10#8 tag [0x00#8] (setCond .planLow
          (decide ((s.pt.list.filter fun x => decide (s.pcu.high < x.station)).length < r.lowMark))
          { heard s with cfg := { s.cfg with plan := r }, dlu := ⟨cut s.dlu.left, cut s.dlu.right⟩ }))) ∧
  (∀ (tag : Byte) (i : PulseInput) (r : PulseRec) (opt : Nat) (s : State), Free s →
    r.prescale ∈ [1, 2, 4, 8, 16, 32, 64, 128, 256] →
    (i = .drum → 1 ≤ r.scale ∧ r.scale ≤ 512 ∧ 10 ≤ opt ∧ opt ≤ 200) →
    (i ≠ .drum → 100 ≤ r.scale ∧ r.scale ≤ 20000) → (i = .travel → opt ≤ 1) → (i = .belt → opt = 0) →
    let number : Nat := match i with
      | .travel => 0
      | .belt => 1
      | .drum => 2
    let edge : Nat := match r.edge with
      | .rising => 0
      | .falling => 1
      | .both => 2
    let run := exec (.configSetPulse tag
      (le 2 number ++ le 2 edge ++ le 2 r.prescale ++ le 2 r.scale ++ le 2 opt)) s
    let old := s.cfg.pulse.get i
    let polarity : DirPolarity := if i = .travel then (if opt = 0 then .highForward else .lowForward) else s.cfg.dirPolarity
    let structural : Prop := old.scale ≠ r.scale ∨ polarity ≠ s.cfg.dirPolarity
    let w := { heard s with
      cfg := { s.cfg with pulse := s.cfg.pulse.set i r, dirPolarity := polarity,
                          drumMin := if i = .drum then opt else s.cfg.drumMin },
      pcu := { s.pcu with
               count := if old = r then s.pcu.count else s.pcu.count.set i 0,
               travelRem := if i = .travel ∧ old.scale ≠ r.scale then 0 else s.pcu.travelRem,
               beltRem := if i = .belt ∧ old.scale ≠ r.scale then 0 else s.pcu.beltRem } }
    (s.csc.state ≠ .config → structural → run = .next (answered 0x10#8 tag [0x13#8] (heard s))) ∧
    (s.csc.state = .config ∨ ¬ structural → run = .next (answered 0x10#8 tag [0x00#8] w)))

/-- R136, R137, R119: a BELT record in range is refused MODE outside CONFIG when the belt length differs, and is written
otherwise: a new length returns the accumulator to 0, and a new C cuts every segment to 2C into the lost total, with the
pause mark and the closing prediction (R146) worked out again. -/
def Obligations.BeltRecordIsWritten : Prop :=
  ∀ (tag : Byte) (r : BeltRec) (s : State), Free s → 3200 ≤ r.length → r.length ≤ 25600 → 10 ≤ r.cap → r.cap ≤ 5000 →
    20 ≤ r.fill → r.fill ≤ 100 → 100 ≤ r.vmin → r.vmin ≤ 6000 → 100 ≤ r.vmax → r.vmax ≤ 6000 → 100 ≤ r.vfull →
    r.vfull ≤ 6000 → r.kb ≤ 255 → 100 ≤ r.fixed → r.fixed ≤ 6000 →
    let run := exec (.configSetBelt tag (le 2 0 ++ le 2 r.length ++ le 2 r.cap ++ le 2 r.fill ++ le 2 r.vmin
      ++ le 2 r.vmax ++ le 2 r.vfull ++ le 2 r.kb ++ le 2 r.fixed)) s
    let same : Prop := s.cfg.belt.length = r.length
    let w := { heard s with
      cfg := { s.cfg with belt := r },
      btq := { s.btq with acc := if s.cfg.belt.length = r.length then s.btq.acc else 0 } }
    (s.csc.state ≠ .config → ¬ same → run = .next (answered 0x10#8 tag [0x13#8] (heard s))) ∧
    (s.csc.state = .config ∨ same → s.cfg.belt.cap = r.cap → run = .next (answered 0x10#8 tag [0x00#8] w)) ∧
    (s.csc.state = .config ∨ same → s.cfg.belt.cap ≠ r.cap →
      ∃ t, run = .next (answered 0x10#8 tag [0x00#8] t) ∧
        t = { w with btq := t.btq, tlu := t.tlu, vos := { s.vos with beltHeld := t.vos.beltHeld }, li := t.li } ∧
        t.btq = { w.btq with
          segs := s.btq.segs.map fun g => { g with vol := min g.vol (2 * r.cap) },
          lostTotal := t.btq.lostTotal, paused := t.btq.paused, drive := t.btq.drive } ∧
        t.btq.lostTotal + beltHolding t.btq.segs = s.btq.lostTotal + beltHolding s.btq.segs ∧
        t.btq.paused = pauseMark t.tlu.current t.btq.segs ∧ condition .beltPaused t = t.btq.paused ∧
        (t.btq.paused = true → t.btq.drive = 0 ∧ t.vos.beltHeld = 0) ∧
        (t.btq.paused = false → t.btq.drive = s.btq.drive ∧ t.vos.beltHeld = s.vos.beltHeld) ∧
        (let held := ((t.btq.segs.filter fun y => y.tag == .current).map Segment.vol).sum
         (∀ x, s.tlu.current = some x → x.state = .loading → x.target ≤ x.delivered + held →
           t.tlu = { s.tlu with current := some { x with state := .closing } } ∧
           (marked s.li.events.enable 21 = true → isPending .truckClosing t = true)) ∧
         ((∀ x, s.tlu.current = some x → x.state = .loading → x.delivered + held < x.target) → t.tlu = s.tlu)) ∧
        (s.btq.lostTotal < t.btq.lostTotal → marked s.li.events.enable 24 = true → isPending .spill t = true))

/-- R116, R194, R205, R207: the LIMITS, OUTPUT, LINK and SUPPLY records in range: refused MODE outside CONFIG when a
STRUCTURAL field differs, written whole otherwise. A new status period stops the status period timer or starts it
again. -/
def Obligations.OtherRecordsAreWritten : Prop :=
  ∀ (tag : Byte) (s : State), Free s →
    let ok (w : State) : Result := .next (answered 0x10#8 tag [0x00#8] w)
    let mode : Result := .next (answered 0x10#8 tag [0x13#8] (heard s))
    let fixed : Prop := s.csc.state ≠ .config
    (∀ r : LimitsRec, 10 ≤ r.vmax → r.vmax ≤ 600 → r.vminAdv ≤ 600 → r.creep ≤ 600 → r.ls ≤ 1000 → r.lh ≤ 1000 →
      1 ≤ r.gain → r.gain ≤ 64 → r.offset ≤ 4000 → r.hardOn ≤ 1000 → r.hardOff ≤ 1000 → 1 ≤ r.classLock →
      r.classLock ≤ 15 → 1 ≤ r.classUnlock → r.classUnlock ≤ 7 → 500 ≤ r.width → r.width ≤ 4400 →
      let run := exec (.configSetLimits tag (le 2 0 ++ le 2 r.vmax ++ le 2 r.vminAdv ++ le 2 r.creep ++ le 2 r.ls
        ++ le 2 r.lh ++ le 2 r.gain ++ le 2 r.offset ++ le 2 r.hardOn ++ le 2 r.hardOff ++ le 2 r.classLock
        ++ le 2 r.classUnlock ++ le 2 r.width)) s
      (fixed → s.cfg.limits.width ≠ r.width → run = mode) ∧
      (¬ fixed ∨ s.cfg.limits.width = r.width → run = ok { heard s with cfg := { s.cfg with limits := r } })) ∧
    (∀ (i : Side) (r : OutRec), 100 ≤ r.imax → r.imax ≤ 2000 →
      let run := exec (.configSetOutput tag (le 2 (if i = .left then 0 else 1) ++ le 2 r.imax
        ++ le 2 (if r.polarity = .normal then 0 else 1))) s
      let old := (s.cfg.out.get i).polarity
      (fixed → old ≠ r.polarity → run = mode) ∧
      (¬ fixed ∨ old = r.polarity → run = ok { heard s with cfg := { s.cfg with out := s.cfg.out.set i r } })) ∧
    (∀ imax, 100 ≤ imax → imax ≤ 2000 →
      exec (.configSetOutput tag (le 2 2 ++ le 2 imax ++ le 2 0)) s
        = ok { heard s with cfg := { s.cfg with beltImax := imax } }) ∧
    (∀ k period, 2 ≤ k → k ≤ 9 → period = 0 ∨ (20 ≤ period ∧ period ≤ 1000 ∧ period % 10 = 0) →
      exec (.configSetLink tag (le 2 0 ++ le 2 k ++ le 2 period)) s
        = ok { heard s with
          cfg := { s.cfg with link := { silence := k, period := period } },
          li := { (heard s).li with statusTimer := if period = 0 then none else some period } }) ∧
    (∀ level, level ≤ 3 →
      exec (.configSetSupply tag (le 2 0 ++ le 2 level)) s = ok { heard s with cfg := { s.cfg with lowLevel := level } })

/-- R203, R23, R36, R52, R76, R116, R136, R194, R205: in each section the first field out of its range, in field order,
is refused FIELD with its index, in every cut state, and the refused record changes nothing. -/
def Obligations.FirstFieldOutOfRangeIsRefused : Prop :=
  ∀ (tag : Byte) (rest : List Byte) (s : State), Free s →
    let refuses (i : Instr) (signs : List Bool) (checks : List Int → List Bool) : Prop :=
      rest.length = 2 * signs.length →
      let verdicts := checks (readFields signs rest)
      ∀ k, verdicts[k]? = some false → (∀ j, j < k → verdicts[j]? = some true) →
        exec i s = .next (answered 0x10#8 tag [0x12#8, BitVec.ofNat 8 k] (heard s))
    let inside (bounds : List (Int × Int)) (f : List Int) : List Bool :=
      List.zipWith (fun x b => decide (b.1 ≤ x ∧ x ≤ b.2)) f bounds
    let at_ (f : List Int) (k : Nat) : Int := f.getD k 0
    refuses (.configSetSensor tag rest) [false, false, false, true, false, false, false, true]
      (inside [(0, 7), (0, 3), (0, 1), (-7, 7), (1, 31), (1, 7), (1, 500), (-20000, 20000)]) ∧
    refuses (.configSetSide tag rest) (List.replicate 16 false)
      (fun f => inside [(0, 1), (0, if at_ f 0 = 0 then 0 else 1), (1, 3), (1, 50), (0, 50), (0, 255), (0, 255), (0, 1000),
        (100, 1000), (0, 255), (0, 255), (0, 1000), (100, 1000), (0, 400), (1, 100), (10, 500)] f) ∧
    refuses (.configSetPlan tag rest) (List.replicate 8 false)
      (inside [(0, 0), (1, 500), (1, 20), (1, 30), (0, 500), (0, 3500), (0, 32), (1, 60)]) ∧
    refuses (.configSetPulse tag rest) (List.replicate 5 false)
      (fun f =>
        let drum := decide (at_ f 0 = 2)
        [decide (at_ f 0 ≤ 2), decide (at_ f 1 ≤ 2), [1, 2, 4, 8, 16, 32, 64, 128, 256].contains (at_ f 2),
         decide ((if drum then 1 else 100) ≤ at_ f 3 ∧ at_ f 3 ≤ if drum then 512 else 20000),
         decide ((if drum then 10 else 0) ≤ at_ f 4 ∧ at_ f 4 ≤ if drum then 200 else if at_ f 0 = 0 then 1 else 0)]) ∧
    refuses (.configSetBelt tag rest) (List.replicate 9 false)
      (inside [(0, 0), (3200, 25600), (10, 5000), (20, 100), (100, 6000), (100, 6000), (100, 6000), (0, 255),
        (100, 6000)]) ∧
    refuses (.configSetLimits tag rest) (List.replicate 13 false)
      (inside [(0, 0), (10, 600), (0, 600), (0, 600), (0, 1000), (0, 1000), (1, 64), (0, 4000), (0, 1000), (0, 1000),
        (1, 15), (1, 7), (500, 4400)]) ∧
    refuses (.configSetOutput tag rest) (List.replicate 3 false)
      (fun f => inside [(0, 2), (100, 2000), (0, if at_ f 0 = 2 then 0 else 1)] f) ∧
    refuses (.configSetLink tag rest) (List.replicate 3 false)
      (fun f => [decide (at_ f 0 = 0), decide (2 ≤ at_ f 1 ∧ at_ f 1 ≤ 9),
        decide (at_ f 2 = 0 ∨ (20 ≤ at_ f 2 ∧ at_ f 2 ≤ 1000 ∧ at_ f 2 % 10 = 0))]) ∧
    refuses (.configSetSupply tag rest) (List.replicate 2 false) (inside [(0, 0), (0, 3)])

/-- R203, R204: a record that CONFIG_SET has written, with the reply OK, reads back byte for byte as the fields that a
CONFIG_GET response of its index begins with, in every section. That the index field is the first of them is the
model's reading of R204 (log 12). -/
def Obligations.WrittenRecordReadsBack : Prop :=
  ∀ (tag a b : Byte) (more : List Byte) (s t : State), Free s →
    let rest := a :: b :: more
    let index := u16 a b
    let written (i : Instr) (n : Nat) : Prop :=
      rest.length = n ∧ exec i s = .next t ∧ (outgoing t.li).getLast?.map Telegram.payload = some [0x00#8]
    (written (.configSetSensor tag rest) 16 → (sensorResponse index t).take 16 = rest) ∧
    (written (.configSetSide tag rest) 32 → (sideResponse index t).take 32 = rest) ∧
    (written (.configSetPlan tag rest) 16 → (planResponse t).take 16 = rest) ∧
    (written (.configSetPulse tag rest) 10 → (pulseResponse index t).take 10 = rest) ∧
    (written (.configSetBelt tag rest) 18 → (beltResponse t).take 18 = rest) ∧
    (written (.configSetLimits tag rest) 26 → (limitsResponse t).take 26 = rest) ∧
    (written (.configSetOutput tag rest) 6 → (outputResponse index t).take 6 = rest) ∧
    (written (.configSetLink tag rest) 6 → (linkResponse t).take 6 = rest) ∧
    (written (.configSetSupply tag rest) 4 → (supplyResponse t).take 4 = rest)

/-! ### Requests to the blocks -/

/-- R9, R4, R16, R17, R21: LINTAB_LOAD replaces a channel's table and restarts its qualification; SUBSTITUTE stores a
value and fails a ZERO capture of that channel, or completes one whose 32nd sample set has been taken (log 3); RELEASE
takes it away; each with its checks in order. -/
def Obligations.ChannelRequestsActOnOneChannel : Prop :=
  ∀ (tag : Byte) (s : State), Free s →
    let reply (kind : Byte) (r : Reply) (w : State) : Result := .next (answered kind tag r w)
    let put (i : Chan) (x : Channel) : State := { heard s with sfe := { s.sfe with chans := s.sfe.chans.set i x } }
    (∀ (number : Nat) (points : List Int), number < 65536 → points.length = 9 →
      (∀ p ∈ points, -32768 ≤ p ∧ p ≤ 32767) →
      let run := exec (.lintabLoad tag (le 2 number ++ points.flatMap (leInt 2))) s
      let inside (p : Int) : Prop := -20000 ≤ p ∧ p ≤ 20000
      (7 < number → run = reply 0x12#8 [0x12#8, 0#8] (heard s)) ∧
      (number ≤ 7 → ∀ k p, points[k]? = some p → ¬ inside p → (∀ q ∈ points.take k, inside q) →
        run = reply 0x12#8 [0x12#8, BitVec.ofNat 8 (k + 1)] (heard s)) ∧
      (number ≤ 7 → (∀ p ∈ points, inside p) → s.csc.state ≠ .config → run = reply 0x12#8 [0x13#8] (heard s)) ∧
      (∀ i : Chan, i.num = number → (∀ p ∈ points, inside p) → s.csc.state = .config →
        let w := put i { s.sfe.chans.get i with
          table := points, qual := .unqualified, lock := 0, unlock := 0, cmp := none, accepted := 0 }
        run = reply 0x12#8 [0x00#8] (setCond .channelFault (Chan.all.any fun j =>
          decide ((w.sfe.chans.get j).cfg.role ≠ .unused ∧ (w.sfe.chans.get j).qual = .unqualified)) w))) ∧
    (∀ (n : Byte) (v : Int), -32768 ≤ v → v ≤ 32767 →
      let run := exec (.substitute tag (n :: leInt 2 v)) s
      (7 < n.toNat → run = reply 0x36#8 [0x12#8, 0#8] (heard s)) ∧
      (n.toNat ≤ 7 → v < -20000 ∨ 20000 < v → run = reply 0x36#8 [0x12#8, 1#8] (heard s)) ∧
      (n.toNat ≤ 7 → -20000 ≤ v → v ≤ 20000 → s.csc.state = .config →
        run = reply 0x36#8 [0x13#8] (heard s)) ∧
      (∀ i : Chan, i.num = n.toNat → -20000 ≤ v → v ≤ 20000 → s.csc.state ≠ .config →
        let c := s.sfe.chans.get i
        let w := put i { c with subst := some v }
        (c.cfg.role = .unused → run = reply 0x36#8 [0x15#8] (heard s)) ∧
        (c.cfg.role ≠ .unused → (∀ k, s.sfe.capture = some k → ∀ p ∈ k.sums, p.1 ≠ i) →
          run = reply 0x36#8 [0x00#8] w) ∧
        (∀ k p, c.cfg.role ≠ .unused → s.sfe.capture = some k → p ∈ k.sums → p.1 = i →
          (k.count < 32 →
            run = reply 0x36#8 [0x00#8] (raise .zeroFailed { w with sfe := { w.sfe with capture := none } })) ∧
          (32 ≤ k.count → (k.sums.map Prod.fst).Nodup → run = reply 0x36#8 [0x00#8] (captured k w))))) ∧
    (∀ n : Byte,
      (7 < n.toNat → exec (.release tag [n]) s = reply 0x37#8 [0x12#8, 0#8] (heard s)) ∧
      (∀ i : Chan, i.num = n.toNat →
        exec (.release tag [n]) s = reply 0x37#8 [0x00#8] (put i { s.sfe.chans.get i with subst := none })))

/-- R162, R163: COMMISSION makes the nine checks in order and leaves CONFIG only when all hold; DECOMMISSION returns the
part from READY to CONFIG. -/
def Obligations.CommissionAndDecommission : Prop :=
  ∀ (tag : Byte) (s : State), Free s →
    let c := s.cfg
    let count (p : SensorRec → Bool) : Nat := (Chan.all.filter fun i => p (s.sfe.chans.get i).cfg).length
    let heights (i : Side) : Nat := count fun r => decide (r.role = .height ∧ r.side = i)
    let slope : Prop := c.side.right.mode = .slope
    let checks : List (Byte × Byte × Prop) :=
      [(2#8, 1#8, c.side.left.minMembers ≤ heights .left),
       (2#8, 2#8, slope ∨ c.side.right.minMembers ≤ heights .right),
       (1#8, 3#8, slope → count (fun r => decide (r.role = .slope)) = 1),
       (1#8, 4#8, count (fun r => decide (r.role = .pressure)) = 1),
       (6#8, 5#8, c.limits.ls < c.limits.lh),
       (6#8, 6#8, c.limits.vminAdv ≤ c.limits.vmax ∧ c.limits.creep ≤ c.limits.vmax),
       (5#8, 7#8, c.belt.length % 32 = 0),
       (5#8, 8#8, c.belt.vmin ≤ c.belt.vmax ∧ c.belt.vmax ≤ c.belt.vfull),
       (6#8, 9#8, c.limits.hardOff < c.limits.hardOn)]
    let run := exec (.commission tag []) s
    let undo := exec (.decommission tag []) s
    let flagged (b : Bool) (w : State) : State := { w with csc := { w.csc with commissioned := b } }
    (s.csc.state ≠ .config → run = .next (answered 0x13#8 tag [0x13#8] (heard s))) ∧
    (s.csc.state = .config →
      (∀ before after x, checks = before ++ x :: after → ¬ x.2.2 → (∀ y ∈ before, y.2.2) →
        run = .next (answered 0x13#8 tag [0x18#8, x.1, x.2.1] (heard s))) ∧
      ((∀ x ∈ checks, x.2.2) →
        run = .next (answered 0x13#8 tag [0x00#8] (flagged true (changeState .ready (heard s)))))) ∧
    (s.csc.state ≠ .ready → undo = .next (answered 0x14#8 tag [0x13#8] (heard s))) ∧
    (s.csc.state = .ready →
      undo = .next (answered 0x14#8 tag [0x00#8] (flagged false (changeState .config (heard s)))))

/-- R54, R56, R57, R59, R73: PLAN_APPEND judges its records one after another and joins them all to the list or none;
PLAN_CLEAR empties the list, but for a part held by STOP. The right value is carried signed in SLOPE mode. -/
def Obligations.PlanRequestsKeepOrder : Prop :=
  ∀ (tag : Byte) (s : State), Free s →
    let slope : Prop := s.cfg.side.right.mode = .slope
    let low (l : List Waypoint) (w : State) : State := setCond .planLow
      (decide ((l.filter fun x => decide (s.pcu.high < x.station)).length < s.cfg.plan.lowMark)) w
    let bytes (x : Waypoint) : List Byte := le 4 x.station ++ le 2 x.left ++ leInt 2 x.right ++ le 2 (x.ramp.getD 0)
    let cleared := low [] { heard s with pt := { s.pt with list := [], armed := false } }
    (∀ ws : List Waypoint, ws ≠ [] → ws.length ≤ 6 →
      (∀ x ∈ ws, x.station < 2 ^ 32 ∧ x.left < 65536 ∧ x.ramp.getD 0 < 65536 ∧ x.ramp ≠ some 0 ∧
        (slope → -32768 ≤ x.right ∧ x.right ≤ 32767) ∧ (¬ slope → 0 ≤ x.right ∧ x.right ≤ 65535)) →
      let run := exec (.planAppend tag (ws.flatMap bytes)) s
      let good (x : Waypoint) : List Prop :=
        [x.station ≤ 50000000, x.left ≤ 3500,
         (slope → -1000 ≤ x.right ∧ x.right ≤ 1000) ∧ (¬ slope → x.right ≤ 3500), x.ramp.getD 0 ≤ 500]
      let last (before : List Waypoint) : Option Waypoint := (s.pt.list ++ before).getLast?
      let ordered (before : List Waypoint) (x : Waypoint) : Prop :=
        s.pcu.high < x.station ∧ ∀ y, last before = some y → y.station < x.station
      let fits (before : List Waypoint) : Prop := s.pt.list.length + before.length + 1 ≤ 128
      let passes (before : List Waypoint) (x : Waypoint) : Prop :=
        (∀ p ∈ good x, p) ∧ ordered before x ∧ fits before
      let earlier (before : List Waypoint) : Prop :=
        ∀ front x rest, before = front ++ x :: rest → passes front x
      let refused (r : Reply) : Prop := run = .next (answered 0x20#8 tag r (heard s))
      let at_ (n : Nat) : Byte := BitVec.ofNat 8 n
      (∀ before x rest f p, ws = before ++ x :: rest → earlier before → (good x)[f]? = some p → ¬ p →
        (∀ q ∈ (good x).take f, q) → refused [0x12#8, at_ (4 * before.length + f)]) ∧
      (∀ before x rest, ws = before ++ x :: rest → earlier before → (∀ p ∈ good x, p) → ¬ ordered before x →
        refused [0x17#8, at_ before.length]) ∧
      (∀ before x rest, ws = before ++ x :: rest → earlier before → (∀ p ∈ good x, p) → ordered before x →
        ¬ fits before → refused [0x16#8, at_ before.length]) ∧
      (earlier ws → run = .next (answered 0x20#8 tag [0x00#8]
        (low (s.pt.list ++ ws) { heard s with pt := { s.pt with list := s.pt.list ++ ws, armed := true } })))) ∧
    (s.csc.state = .holdHard → s.csc.cause = some .stop →
      exec (.planClear tag []) s = .next (answered 0x21#8 tag [0x13#8] (heard s))) ∧
    (s.csc.state = .config ∨ s.csc.state = .ready →
      exec (.planClear tag []) s = .next (answered 0x21#8 tag [0x00#8] cleared)) ∧
    (s.csc.state ≠ .config → s.csc.state ≠ .ready → s.csc.state ≠ .holdHard ∨ s.csc.cause ≠ some .stop →
      exec (.planClear tag []) s = .next (answered 0x21#8 tag [0x00#8] (raise .planEnd cleared)))

/-- R68, R69, R72, R31, R70, R74: WINDOW_SET with its checks in order and the entered mark worked out at once;
WINDOW_CLEAR, which changes nothing on an invalid slot; and STATION_SET, which re-bases h with no advance and raises the
events of the plan and the windows. That a window passed at the re-base keeps its entered mark is the model's (log 17). -/
def Obligations.WindowAndStationRequests : Prop :=
  ∀ (tag : Byte) (s : State), Free s →
    let h := s.pcu.high
    let reply (kind : Byte) (r : Reply) (w : State) : Result := .next (answered kind tag r w)
    let slot (i : Nat) (x : Window) : State :=
      { heard s with pt := { s.pt with windows := s.pt.windows.set i x } }
    (∀ (n : Byte) (start length lead lift : Nat), start < 2 ^ 32 → length < 65536 → lead < 65536 → lift < 65536 →
      let i := n.toNat
      let run := exec (.windowSet tag (n :: (le 4 start ++ le 2 length ++ le 2 lead ++ le 2 lift))) s
      let fields : List Prop :=
        [i ≤ 3, start ≤ 50000000, 100 ≤ length ∧ length ≤ 50000, lead ≤ 20000, lift ≤ 3500]
      let overlaps : Prop := ∃ j, j < 4 ∧ j ≠ i ∧
        let w := s.pt.windows.get j
        w.valid = true ∧ start < w.start + w.length + lead ∧ w.start < start + length + w.lead
      let set (entered : Bool) : State := slot i
        { valid := true, entered := entered, start := start, length := length, lead := lead, lift := lift }
      (∀ f p, fields[f]? = some p → ¬ p → (∀ q ∈ fields.take f, q) →
        run = reply 0x23#8 [0x12#8, BitVec.ofNat 8 f] (heard s)) ∧
      ((∀ p ∈ fields, p) → start + length ≤ h ∨ overlaps → run = reply 0x23#8 [0x17#8, 0#8] (heard s)) ∧
      ((∀ p ∈ fields, p) → h < start + length → ¬ overlaps →
        (h + lead < start → run = reply 0x23#8 [0x00#8] (set false)) ∧
        (start ≤ h + lead → run = reply 0x23#8 [0x00#8] (raise .windowEntered (set true))))) ∧
    (∀ n : Byte,
      (3 < n.toNat → exec (.windowClear tag [n]) s = reply 0x24#8 [0x12#8, 0#8] (heard s)) ∧
      (n.toNat ≤ 3 →
        let w := s.pt.windows.get n.toNat
        (w.valid = true → exec (.windowClear tag [n]) s = reply 0x24#8 [0x00#8]
          (slot n.toNat { w with valid := false, entered := false })) ∧
        (w.valid = false → exec (.windowClear tag [n]) s = reply 0x24#8 [0x00#8] (heard s)))) ∧
    (∀ v, v < 2 ^ 32 →
      let run := exec (.stationSet tag (le 4 v)) s
      (50000000 < v → run = reply 0x25#8 [0x12#8, 0#8] (heard s)) ∧
      (v ≤ 50000000 → s.csc.state ≠ .ready → run = reply 0x25#8 [0x13#8] (heard s)) ∧
      (v ≤ 50000000 → s.csc.state = .ready →
        ∃ t, run = reply 0x25#8 [0x00#8] t ∧ t = { heard s with pcu := t.pcu, pt := t.pt, li := t.li } ∧
          t.pcu = { s.pcu with station := v, high := v, travelRem := 0, count := { s.pcu.count with travel := 0 } } ∧
          (PlanOrdered s.pt.list → PlanSettledAt v s.pt t.pt ∧ PlanEventsAt v s t)))

/-- R164, R166, R169, R170: ENGAGE, LIFT, HOLD and RESUME in every cut state, with their checks in order. -/
def Obligations.CutStateRequests : Prop :=
  ∀ (tag : Byte) (s : State), Free s →
    let x := heard s
    let st := s.csc.state
    let lost : Prop := s.sru.sides.left.ref = .lost ∨ s.sru.sides.right.ref = .lost
    let slow : Prop := s.pcu.drumSpeed < s.cfg.drumMin
    let gives (i : Instr) (kind : Byte) (r : Reply) (w : State) : Prop := exec i s = .next (answered kind tag r w)
    let engage := gives (.engage tag []) 0x30#8
    let lift := gives (.lift tag []) 0x31#8
    let soft := gives (.holdSoft tag []) 0x32#8
    let hard := gives (.holdHard tag []) 0x32#8
    let resume := gives (.resume tag []) 0x33#8
    (st ≠ .ready → engage [0x13#8] x) ∧
    (st = .ready → s.sfe.capture ≠ none → engage [0x14#8] x) ∧
    (st = .ready → s.sfe.capture = none → lost ∨ slow ∨ s.pt.list = [] → engage [0x15#8] x) ∧
    (st = .ready → s.sfe.capture = none → ¬ lost → ¬ slow → s.pt.list ≠ [] →
      engage [0x00#8] (changeState .engaging x)) ∧
    (st = .engaging ∨ st = .cutting ∨ st = .holdSoft → lift [0x00#8] (changeState .lifting x)) ∧
    (st = .lifting → lift [0x00#8] x) ∧
    (st = .config ∨ st = .ready ∨ st = .holdHard → lift [0x13#8] x ∧ soft [0x13#8] x) ∧
    (st = .engaging ∨ st = .cutting ∨ st = .lifting → soft [0x00#8] (enterHold .holdSoft .request x)) ∧
    (st = .holdSoft → soft [0x00#8] x) ∧
    (st ≠ .config → st ≠ .holdHard → hard [0x00#8] (enterHold .holdHard .request x)) ∧
    (st = .config ∨ st = .holdHard → hard [0x13#8] x) ∧
    (st ≠ .holdSoft → st ≠ .holdHard → resume [0x13#8] x) ∧
    (st = .holdSoft → lost ∨ slow → resume [0x15#8] x) ∧
    (st = .holdSoft → ¬ lost → ¬ slow → resume [0x00#8] (changeState .engaging x)) ∧
    (st = .holdHard → s.vos.supply < 160 → resume [0x15#8] x) ∧
    (st = .holdHard → 160 ≤ s.vos.supply → resume [0x00#8] (changeState .ready x))

/-- R112, R113, R132, R133, R134, R142: MATERIAL_SET in both modes, BELT_MODE, which clears a stall, and TRUCK_NEXT, with
their checks in order. A belt stall that has been counted and not yet called is called before BELT_MODE clears it (the
model's choice, log 3). -/
def Obligations.MaterialBeltAndTruckNext : Prop :=
  ∀ (tag : Byte) (s : State), Free s →
    let reply (kind : Byte) (r : Reply) (w : State) : Result := .next (answered kind tag r w)
    (∀ cls : Byte,
      (1 < cls.toNat → exec (.materialSetAuto tag [cls]) s = reply 0x38#8 [0x12#8, 1#8] (heard s) ∧
        exec (.materialSetManual tag [cls]) s = reply 0x38#8 [0x12#8, 1#8] (heard s)) ∧
      (cls.toNat ≤ 1 →
        let m : Material := if cls = 0#8 then .soft else .hard
        exec (.materialSetAuto tag [cls]) s = reply 0x38#8 [0x00#8]
          (setCond .materialHard (decide (s.dlm.auto = .hard)) { heard s with dlm := { s.dlm with mode := .auto } }) ∧
        exec (.materialSetManual tag [cls]) s = reply 0x38#8 [0x00#8]
          (setCond .materialHard (decide (m = .hard))
            { heard s with dlm := { s.dlm with mode := .manual, manual := m } }))) ∧
    (∀ n : Byte,
      let mode : BeltMode := if n = 0#8 then .stop else if n = 1#8 then .fixed else .follow
      (2 < n.toNat → exec (.beltMode tag [n]) s = reply 0x40#8 [0x12#8, 0#8] (heard s)) ∧
      (n.toNat ≤ 2 → s.csc.state = .config → exec (.beltMode tag [n]) s = reply 0x40#8 [0x13#8] (heard s)) ∧
      (n.toNat ≤ 2 → s.csc.state ≠ .config → s.btq.stall < 20 → exec (.beltMode tag [n]) s = reply 0x40#8 [0x00#8]
        (setCond .beltStall false
          { heard s with btq := { s.btq with mode := mode, stalled := false, stall := 0 } })) ∧
      (n.toNat ≤ 2 → s.csc.state ≠ .config → 20 ≤ s.btq.stall → exec (.beltMode tag [n]) s = reply 0x40#8 [0x00#8]
        (setCond .beltStall false (setCond .beltStall true
          { heard s with
            btq := { s.btq with mode := mode, stalled := false, stall := 0, spB := 0, drive := 0 },
            vos := { s.vos with beltHeld := 0 } })))) ∧
    (∀ number target, number < 65536 → target < 2 ^ 32 →
      let run := exec (.truckNext tag (le 2 number ++ le 4 target)) s
      (number = 0 → run = reply 0x41#8 [0x12#8, 0#8] (heard s)) ∧
      (0 < number → target < 10 ∨ 200000 < target → run = reply 0x41#8 [0x12#8, 1#8] (heard s)) ∧
      (0 < number → 10 ≤ target → target ≤ 200000 →
        (s.tlu.next ≠ none → run = reply 0x41#8 [0x14#8] (heard s)) ∧
        (s.tlu.next = none → run = reply 0x41#8 [0x00#8]
          { heard s with tlu := { s.tlu with next := some { number := number, target := target } } })))

/-- R143, R146, R150, R152, R154, R127: TRUCK_IN brings the next truck in and turns every NEXT tag to CURRENT; it is
CLOSING at once where the belt already holds its target. TRUCK_OUT writes the tally and turns every tag to NEXT. -/
def Obligations.TrucksComeAndGo : Prop :=
  ∀ (tag : Byte) (s : State), Free s →
    let runIn := exec (.truckIn tag []) s
    let runOut := exec (.truckOut tag []) s
    let turned (t : Tag) : List Segment := s.btq.segs.map fun g => { g with tag := t }
    let rest (t : State) : Prop :=
      t = { heard s with btq := t.btq, tlu := t.tlu, vos := { s.vos with beltHeld := t.vos.beltHeld }, li := t.li } ∧
      t.btq = { s.btq with segs := t.btq.segs, paused := t.btq.paused, drive := t.btq.drive } ∧
      condition .beltPaused t = t.btq.paused ∧ (t.btq.paused = true → t.btq.drive = 0 ∧ t.vos.beltHeld = 0) ∧
      (t.btq.paused = false → t.btq.drive = s.btq.drive ∧ t.vos.beltHeld = s.vos.beltHeld)
    (s.tlu.current ≠ none → runIn = .next (answered 0x42#8 tag [0x14#8] (heard s))) ∧
    (s.tlu.current = none → s.tlu.next = none → runIn = .next (answered 0x42#8 tag [0x15#8] (heard s))) ∧
    (∀ x, s.tlu.current = none → s.tlu.next = some x →
      ∃ t, runIn = .next (answered 0x42#8 tag [0x00#8] t) ∧ rest t ∧ t.btq.segs = turned .current ∧
        t.btq.paused = false ∧
        let full : Prop := x.target ≤ beltHolding s.btq.segs
        t.tlu = { s.tlu with
          next := none,
          current := some { state := if x.target ≤ beltHolding s.btq.segs then .closing else .loading,
                            number := x.number, target := x.target, delivered := 0, opened := s.pcu.station } } ∧
        (full → marked s.li.events.enable 21 = true → isPending .truckClosing t = true)) ∧
    (s.tlu.current = none → runOut = .next (answered 0x43#8 tag [0x15#8] (heard s))) ∧
    (∀ x, s.tlu.current = some x →
      ∃ t, runOut = .next (answered 0x43#8 tag [0x00#8] t) ∧ rest t ∧ t.btq.segs = turned .next ∧
        (∀ g, s.btq.segs.getLast? = some g → t.btq.paused = decide (0 < g.vol)) ∧
        isPending .truckClosed t = isPending .truckClosed s ∧
        t.tlu = { s.tlu with
          current := none, closedTotal := s.tlu.closedTotal + x.delivered,
          log := ({ number := x.number, target := x.target, delivered := x.delivered, opened := x.opened,
                    closed := s.pcu.station, reason := .out } :: s.tlu.log).take 8 })

/-- R209 to R212: EVENT_ROUTE writes the enable and route of one source, and a level source it enables latches at once
where its condition is true; EVENT_ACK clears the acknowledged marks, latches true level sources again without a notice,
and answers with the event and flag word. -/
def Obligations.EventTableRequests : Prop :=
  ∀ (tag : Byte) (s : State), Listening s →
    let e := s.li.events
    let levels : List Nat := [0, 1, 2, 3, 4, 7, 16, 17, 19, 20, 23]
    let with_ (v : Events) (notice : Bool) : State := { heard s with li := { (heard s).li with events := v, notice := notice } }
    (∀ n en ro : Byte, s.pins.stop = false →
      let i := n.toNat
      let run := exec (.eventRoute tag [n, en, ro]) s
      let gives (r : Reply) (w : State) : Prop := run = .next (answered 0x50#8 tag r w)
      let mark (w : EventWord) (b : Bool) : EventWord := if b then w ||| 1#25 <<< i else w &&& ~~~(1#25 <<< i)
      let wrote := { e with enable := mark e.enable (en == 1#8), route := mark e.route (ro == 1#8) }
      let latches : Prop := en = 1#8 ∧ i ∈ levels ∧ e.cond.getLsbD i = true ∧ e.pending.getLsbD i = false
      (24 < i → gives [0x12#8, 0#8] (heard s)) ∧
      (i ≤ 24 → 1 < en.toNat → gives [0x12#8, 1#8] (heard s)) ∧
      (i ≤ 24 → en.toNat ≤ 1 → 1 < ro.toNat → gives [0x12#8, 2#8] (heard s)) ∧
      (i ≤ 24 → en.toNat ≤ 1 → ro.toNat ≤ 1 →
        (¬ latches → gives [0x00#8] (with_ wrote s.li.notice)) ∧
        (latches → gives [0x00#8]
          (with_ { wrote with pending := e.pending ||| 1#25 <<< i } (s.li.notice || ro == 1#8))))) ∧
    (∀ a b c d : Byte,
      let mask := u32 a b c d
      ∃ v : Events, v = { e with pending := v.pending } ∧
        (∀ i, i < 25 → v.pending.getLsbD i =
          if mask.testBit i then decide (i ∈ levels) && e.enable.getLsbD i && e.cond.getLsbD i
          else e.pending.getLsbD i) ∧
        exec (.eventAck tag [a, b, c, d]) s = .next (answered 0x51#8 tag
          (0x00#8 :: le 4 (v.pending.toNat + 33554432 * s.pins.stop.toNat + 67108864 * s.csc.commissioned.toNat
            + 134217728 * s.li.dropped.toNat + 268435456 * causeCode s.csc.cause))
          (with_ v s.li.notice)))

/-! ### What every step keeps -/

/-- R155: the intake total equals the closed total, the delivered total of the current truck, the belt holding and the
lost total together: at reset, and after every step that finds it so. -/
def Obligations.VolumeEquationKept : Prop :=
  VolumeBalanced State.reset ∧ ∀ s t : State, VolumeBalanced s → step s = .next t → VolumeBalanced t

/-- R119: every step keeps 32 segments within 2C, the order of tags and the tags of a LOADING truck. The promises on
empty segments' tags are the model's own invariants and make that of R119 inductive. -/
def Obligations.QueueOrderKept : Prop :=
  ∀ s t : State, QueueShape s → TagsOrdered s.btq.segs → TagsFollowTruck s → step s = .next t →
    QueueShape t ∧ TagsOrdered t.btq.segs ∧ TagsFollowTruck t ∧ MaterialOrdered t.btq.segs ∧ LoadingTakesAll t

/-- R10, R18, R21, R29, R54, R65, R78, R93, R152, R168, R184, R185, R200, R201, R209: every step keeps each of these
promises. That JOG ownership exists only in READY rests on the state timer's promise too. -/
def Obligations.PromisesKept : Prop :=
  ∀ s t : State, step s = .next t →
    (LevelsLatched s → LevelsLatched t) ∧ (RepliesFit s → RepliesFit t) ∧
    (LineBusyWhileWaiting s → LineBusyWhileWaiting t) ∧ (StationInRange s → StationInRange t) ∧
    (TimerFollowsState s → TimerFollowsState t) ∧ (TimerFollowsState s → JogOnlyInReady s → JogOnlyInReady t) ∧
    (NeutralWhenHeld s → NeutralWhenHeld t) ∧ (HeldOnlyWhereAllowed s → HeldOnlyWhereAllowed t) ∧
    (PlanOrdered s.pt.list → PlanOrdered t.pt.list) ∧ (WindowsApart s.pt.windows → WindowsApart t.pt.windows) ∧
    (LogFits s → LogFits t) ∧ ((∀ i, CountersApart (s.sfe.chans.get i)) → ∀ i, CountersApart (t.sfe.chans.get i)) ∧
    (∀ i, (NoneMeansZero (s.vos.legs.get i) → NoneMeansZero (t.vos.legs.get i)) ∧
      (SetpointInRange s.cfg.plan.maxDepth (s.dlu.get i) → SetpointInRange t.cfg.plan.maxDepth (t.dlu.get i)) ∧
      (IntegratorLimited (s.cfg.side.get i) (s.dlu.get i) → IntegratorLimited (t.cfg.side.get i) (t.dlu.get i)))
end

