-- ==== Sys2Proof/Laws/Bytes.lean ====
section
/-! SUPPORT. Bytes and the numbers they carry (R199): what is written low byte first reads back, and the field checks. -/

namespace Sys2Proof.Machine

theorem le_two (v : Nat) : le 2 v = [BitVec.ofNat 8 v, BitVec.ofNat 8 (v / 256)] := rfl

theorem le_four (v : Nat) :
    le 4 v = [BitVec.ofNat 8 v, BitVec.ofNat 8 (v / 256), BitVec.ofNat 8 (v / 256 / 256),
      BitVec.ofNat 8 (v / 256 / 256 / 256)] := rfl

@[simp] theorem le_length (n v : Nat) : (le n v).length = n := by
  induction n generalizing v with
  | zero => rfl
  | succ n ih => simp [le, ih]

@[simp] theorem leInt_length (n : Nat) (v : Int) : (leInt n v).length = n := by simp [leInt]

/-- Two bytes written low byte first read back modulo 2^16. -/
theorem u16_le (v : Nat) : u16 (BitVec.ofNat 8 v) (BitVec.ofNat 8 (v / 256)) = v % 65536 := by
  simp only [u16, BitVec.toNat_ofNat]; omega

/-- Four bytes written low byte first read back modulo 2^32. -/
theorem u32_le (v : Nat) :
    u32 (BitVec.ofNat 8 v) (BitVec.ofNat 8 (v / 256)) (BitVec.ofNat 8 (v / 256 / 256))
      (BitVec.ofNat 8 (v / 256 / 256 / 256)) = v % 4294967296 := by
  simp only [u32, BitVec.toNat_ofNat]; omega

theorem u16_lt (a b : Byte) : u16 a b < 65536 := by
  have := a.isLt; have := b.isLt
  unfold u16; omega

theorem u32_lt (a b c d : Byte) : u32 a b c d < 4294967296 := by
  have := a.isLt; have := b.isLt; have := c.isLt; have := d.isLt
  unfold u32; omega

theorem leInt_two (x : Int) :
    leInt 2 x = [BitVec.ofNat 8 (x % 65536).toNat, BitVec.ofNat 8 ((x % 65536).toNat / 256)] := by
  simp [leInt, le]

/-- Two bytes of two's complement read back signed. -/
theorem s16_leInt {x : Int} (h1 : -32768 ≤ x) (h2 : x ≤ 32767) :
    s16 (BitVec.ofNat 8 (x % 65536).toNat) (BitVec.ofNat 8 ((x % 65536).toNat / 256)) = x := by
  unfold s16
  rw [u16_le]
  split <;> omega

/-- Two bytes written again from the number they carry. -/
theorem le_u16 (a b : Byte) : le 2 (u16 a b) = [a, b] := by
  have ha := a.isLt; have hb := b.isLt
  rw [le_two]
  congr 1
  · apply BitVec.eq_of_toNat_eq; simp only [u16, BitVec.toNat_ofNat]; omega
  · congr 1
    apply BitVec.eq_of_toNat_eq; simp only [u16, BitVec.toNat_ofNat]; omega

theorem leInt_s16 (a b : Byte) : leInt 2 (s16 a b) = [a, b] := by
  rw [← le_u16 a b, leInt]
  have := u16_lt a b
  congr 1
  unfold s16
  split <;> (simp; omega)

@[simp] theorem readFields_nil (bs : List Byte) : readFields [] bs = [] := by
  cases bs <;> rfl

theorem readFields_short {sgs : List Bool} : readFields sgs [] = [] := by
  cases sgs <;> rfl

/-- An unsigned field. -/
theorem readFields_le (sgs : List Bool) (v : Nat) (rest : List Byte) :
    readFields (false :: sgs) (le 2 v ++ rest) = ((v % 65536 : Nat) : Int) :: readFields sgs rest := by
  rw [le_two]
  simp only [List.cons_append, List.nil_append, readFields, u16_le]
  rfl

/-- A signed field. -/
theorem readFields_leInt (sgs : List Bool) {x : Int} (h1 : -32768 ≤ x) (h2 : x ≤ 32767) (rest : List Byte) :
    readFields (true :: sgs) (leInt 2 x ++ rest) = x :: readFields sgs rest := by
  rw [leInt_two]
  simp only [List.cons_append, List.nil_append, readFields, s16_leInt h1 h2]
  rfl

/-- The number of fields that a record of the right length holds. -/
theorem readFields_length {sgs : List Bool} {bs : List Byte} (h : bs.length = 2 * sgs.length) :
    (readFields sgs bs).length = sgs.length := by
  induction sgs generalizing bs with
  | nil => simp
  | cons sg sgs ih =>
    match bs, h with
    | a :: b :: rest, h => simp [readFields, ih (bs := rest) (by simp at h ⊢; omega)]
    | [], h => simp at h
    | [_], h => simp at h; omega

/-- No check fails exactly when every check holds. -/
theorem firstBad_none {i : Nat} {l : List Bool} : firstBad i l = none ↔ ∀ b ∈ l, b = true := by
  induction l generalizing i with
  | nil => simp [firstBad]
  | cons b rest ih => cases b <;> simp [firstBad, ih]

/-- The first check that fails. -/
theorem firstBad_some {i k : Nat} {l : List Bool} (hk : l[k]? = some false) (h : ∀ j < k, l[j]? = some true) :
    firstBad i l = some (i + k) := by
  induction l generalizing i k with
  | nil => simp at hk
  | cons b rest ih =>
    cases k with
    | zero => simp at hk; subst hk; simp [firstBad]
    | succ k =>
      have h0 := h 0 (by omega)
      simp at h0; subst h0
      simp only [firstBad, if_true]
      rw [ih (by simpa using hk) (fun j hj => by simpa using h (j + 1) (by omega))]
      congr 1; omega

/-- A value within its bounds. -/
@[simp] theorem within_eq_true (lo hi x : Int) : within lo hi x = true ↔ lo ≤ x ∧ x ≤ hi := by simp [within]

@[simp] theorem within_eq_false (lo hi x : Int) : within lo hi x = false ↔ x < lo ∨ hi < x := by
  rw [← Bool.not_eq_true, within_eq_true]; omega

/-- "Limited to a..b" as a greatest and a least. -/
theorem clamp_eq {a b : Int} (h : a ≤ b) (x : Int) : clamp a b x = max a (min b x) := by
  unfold clamp; split
  · omega
  · split <;> omega

end Sys2Proof.Machine
end

