-- ==== Sys2Proof/Laws/State.lean ====
section
/-! SUPPORT. One lemma per field per block update, and the reads of the containers after a write. -/

namespace Sys2Proof

@[simp] theorem Chans.get_of {α : Type} (f : Chan → α) (i : Chan) : (Chans.of f).get i = f i := by cases i <;> rfl
@[simp] theorem Chans.get_set_same {α : Type} (c : Chans α) (i : Chan) (x : α) : (c.set i x).get i = x := by
  cases i <;> rfl
theorem Chans.get_set_of_ne {α : Type} (c : Chans α) {i j : Chan} (x : α) (h : j ≠ i) : (c.set i x).get j = c.get j := by
  cases i <;> cases j <;> first | rfl | exact absurd rfl h
theorem Chans.ext_get {α : Type} {c d : Chans α} (h : ∀ i, c.get i = d.get i) : c = d := by
  cases c; cases d
  simp only [Chans.mk.injEq]
  exact ⟨h .a0, h .a1, h .a2, h .a3, h .a4, h .a5, h .a6, h .a7⟩
@[simp] theorem Sides.get_set_same {α : Type} (c : Sides α) (i : Side) (x : α) : (c.set i x).get i = x := by
  cases i <;> rfl
theorem Sides.get_set_of_ne {α : Type} (c : Sides α) {i j : Side} (x : α) (h : j ≠ i) : (c.set i x).get j = c.get j := by
  cases i <;> cases j <;> first | rfl | exact absurd rfl h
@[simp] theorem Sides.get_map {α β : Type} (f : α → β) (c : Sides α) (i : Side) : (c.map f).get i = f (c.get i) := by
  cases i <;> rfl
@[simp] theorem Pulses.get_set_same {α : Type} (c : Pulses α) (i : PulseInput) (x : α) : (c.set i x).get i = x := by
  cases i <;> rfl
theorem Pulses.get_set_of_ne {α : Type} (c : Pulses α) {i j : PulseInput} (x : α) (h : j ≠ i) :
    (c.set i x).get j = c.get j := by
  cases i <;> cases j <;> first | rfl | exact absurd rfl h
theorem Chan.mem_all (i : Chan) : i ∈ Chan.all := by cases i <;> decide

end Sys2Proof

namespace Sys2Proof.Machine

@[simp] theorem State.mapPins_pins (f : Pins → Pins) (s : State) : (s.mapPins f).pins = f s.pins := rfl
@[simp] theorem State.mapPins_cfg (f : Pins → Pins) (s : State) : (s.mapPins f).cfg = s.cfg := rfl
@[simp] theorem State.mapPins_sfe (f : Pins → Pins) (s : State) : (s.mapPins f).sfe = s.sfe := rfl
@[simp] theorem State.mapPins_pcu (f : Pins → Pins) (s : State) : (s.mapPins f).pcu = s.pcu := rfl
@[simp] theorem State.mapPins_sru (f : Pins → Pins) (s : State) : (s.mapPins f).sru = s.sru := rfl
@[simp] theorem State.mapPins_pt (f : Pins → Pins) (s : State) : (s.mapPins f).pt = s.pt := rfl
@[simp] theorem State.mapPins_dlu (f : Pins → Pins) (s : State) : (s.mapPins f).dlu = s.dlu := rfl
@[simp] theorem State.mapPins_dlm (f : Pins → Pins) (s : State) : (s.mapPins f).dlm = s.dlm := rfl
@[simp] theorem State.mapPins_btq (f : Pins → Pins) (s : State) : (s.mapPins f).btq = s.btq := rfl
@[simp] theorem State.mapPins_tlu (f : Pins → Pins) (s : State) : (s.mapPins f).tlu = s.tlu := rfl
@[simp] theorem State.mapPins_csc (f : Pins → Pins) (s : State) : (s.mapPins f).csc = s.csc := rfl
@[simp] theorem State.mapPins_vos (f : Pins → Pins) (s : State) : (s.mapPins f).vos = s.vos := rfl
@[simp] theorem State.mapPins_li (f : Pins → Pins) (s : State) : (s.mapPins f).li = s.li := rfl
@[simp] theorem State.mapPins_pending (f : Pins → Pins) (s : State) : (s.mapPins f).pending = s.pending := rfl
@[simp] theorem State.mapCfg_pins (f : Records → Records) (s : State) : (s.mapCfg f).pins = s.pins := rfl
@[simp] theorem State.mapCfg_cfg (f : Records → Records) (s : State) : (s.mapCfg f).cfg = f s.cfg := rfl
@[simp] theorem State.mapCfg_sfe (f : Records → Records) (s : State) : (s.mapCfg f).sfe = s.sfe := rfl
@[simp] theorem State.mapCfg_pcu (f : Records → Records) (s : State) : (s.mapCfg f).pcu = s.pcu := rfl
@[simp] theorem State.mapCfg_sru (f : Records → Records) (s : State) : (s.mapCfg f).sru = s.sru := rfl
@[simp] theorem State.mapCfg_pt (f : Records → Records) (s : State) : (s.mapCfg f).pt = s.pt := rfl
@[simp] theorem State.mapCfg_dlu (f : Records → Records) (s : State) : (s.mapCfg f).dlu = s.dlu := rfl
@[simp] theorem State.mapCfg_dlm (f : Records → Records) (s : State) : (s.mapCfg f).dlm = s.dlm := rfl
@[simp] theorem State.mapCfg_btq (f : Records → Records) (s : State) : (s.mapCfg f).btq = s.btq := rfl
@[simp] theorem State.mapCfg_tlu (f : Records → Records) (s : State) : (s.mapCfg f).tlu = s.tlu := rfl
@[simp] theorem State.mapCfg_csc (f : Records → Records) (s : State) : (s.mapCfg f).csc = s.csc := rfl
@[simp] theorem State.mapCfg_vos (f : Records → Records) (s : State) : (s.mapCfg f).vos = s.vos := rfl
@[simp] theorem State.mapCfg_li (f : Records → Records) (s : State) : (s.mapCfg f).li = s.li := rfl
@[simp] theorem State.mapCfg_pending (f : Records → Records) (s : State) : (s.mapCfg f).pending = s.pending := rfl
@[simp] theorem State.mapSfe_pins (f : Sfe → Sfe) (s : State) : (s.mapSfe f).pins = s.pins := rfl
@[simp] theorem State.mapSfe_cfg (f : Sfe → Sfe) (s : State) : (s.mapSfe f).cfg = s.cfg := rfl
@[simp] theorem State.mapSfe_sfe (f : Sfe → Sfe) (s : State) : (s.mapSfe f).sfe = f s.sfe := rfl
@[simp] theorem State.mapSfe_pcu (f : Sfe → Sfe) (s : State) : (s.mapSfe f).pcu = s.pcu := rfl
@[simp] theorem State.mapSfe_sru (f : Sfe → Sfe) (s : State) : (s.mapSfe f).sru = s.sru := rfl
@[simp] theorem State.mapSfe_pt (f : Sfe → Sfe) (s : State) : (s.mapSfe f).pt = s.pt := rfl
@[simp] theorem State.mapSfe_dlu (f : Sfe → Sfe) (s : State) : (s.mapSfe f).dlu = s.dlu := rfl
@[simp] theorem State.mapSfe_dlm (f : Sfe → Sfe) (s : State) : (s.mapSfe f).dlm = s.dlm := rfl
@[simp] theorem State.mapSfe_btq (f : Sfe → Sfe) (s : State) : (s.mapSfe f).btq = s.btq := rfl
@[simp] theorem State.mapSfe_tlu (f : Sfe → Sfe) (s : State) : (s.mapSfe f).tlu = s.tlu := rfl
@[simp] theorem State.mapSfe_csc (f : Sfe → Sfe) (s : State) : (s.mapSfe f).csc = s.csc := rfl
@[simp] theorem State.mapSfe_vos (f : Sfe → Sfe) (s : State) : (s.mapSfe f).vos = s.vos := rfl
@[simp] theorem State.mapSfe_li (f : Sfe → Sfe) (s : State) : (s.mapSfe f).li = s.li := rfl
@[simp] theorem State.mapSfe_pending (f : Sfe → Sfe) (s : State) : (s.mapSfe f).pending = s.pending := rfl
@[simp] theorem State.mapPcu_pins (f : Pcu → Pcu) (s : State) : (s.mapPcu f).pins = s.pins := rfl
@[simp] theorem State.mapPcu_cfg (f : Pcu → Pcu) (s : State) : (s.mapPcu f).cfg = s.cfg := rfl
@[simp] theorem State.mapPcu_sfe (f : Pcu → Pcu) (s : State) : (s.mapPcu f).sfe = s.sfe := rfl
@[simp] theorem State.mapPcu_pcu (f : Pcu → Pcu) (s : State) : (s.mapPcu f).pcu = f s.pcu := rfl
@[simp] theorem State.mapPcu_sru (f : Pcu → Pcu) (s : State) : (s.mapPcu f).sru = s.sru := rfl
@[simp] theorem State.mapPcu_pt (f : Pcu → Pcu) (s : State) : (s.mapPcu f).pt = s.pt := rfl
@[simp] theorem State.mapPcu_dlu (f : Pcu → Pcu) (s : State) : (s.mapPcu f).dlu = s.dlu := rfl
@[simp] theorem State.mapPcu_dlm (f : Pcu → Pcu) (s : State) : (s.mapPcu f).dlm = s.dlm := rfl
@[simp] theorem State.mapPcu_btq (f : Pcu → Pcu) (s : State) : (s.mapPcu f).btq = s.btq := rfl
@[simp] theorem State.mapPcu_tlu (f : Pcu → Pcu) (s : State) : (s.mapPcu f).tlu = s.tlu := rfl
@[simp] theorem State.mapPcu_csc (f : Pcu → Pcu) (s : State) : (s.mapPcu f).csc = s.csc := rfl
@[simp] theorem State.mapPcu_vos (f : Pcu → Pcu) (s : State) : (s.mapPcu f).vos = s.vos := rfl
@[simp] theorem State.mapPcu_li (f : Pcu → Pcu) (s : State) : (s.mapPcu f).li = s.li := rfl
@[simp] theorem State.mapPcu_pending (f : Pcu → Pcu) (s : State) : (s.mapPcu f).pending = s.pending := rfl
@[simp] theorem State.mapSru_pins (f : Sru → Sru) (s : State) : (s.mapSru f).pins = s.pins := rfl
@[simp] theorem State.mapSru_cfg (f : Sru → Sru) (s : State) : (s.mapSru f).cfg = s.cfg := rfl
@[simp] theorem State.mapSru_sfe (f : Sru → Sru) (s : State) : (s.mapSru f).sfe = s.sfe := rfl
@[simp] theorem State.mapSru_pcu (f : Sru → Sru) (s : State) : (s.mapSru f).pcu = s.pcu := rfl
@[simp] theorem State.mapSru_sru (f : Sru → Sru) (s : State) : (s.mapSru f).sru = f s.sru := rfl
@[simp] theorem State.mapSru_pt (f : Sru → Sru) (s : State) : (s.mapSru f).pt = s.pt := rfl
@[simp] theorem State.mapSru_dlu (f : Sru → Sru) (s : State) : (s.mapSru f).dlu = s.dlu := rfl
@[simp] theorem State.mapSru_dlm (f : Sru → Sru) (s : State) : (s.mapSru f).dlm = s.dlm := rfl
@[simp] theorem State.mapSru_btq (f : Sru → Sru) (s : State) : (s.mapSru f).btq = s.btq := rfl
@[simp] theorem State.mapSru_tlu (f : Sru → Sru) (s : State) : (s.mapSru f).tlu = s.tlu := rfl
@[simp] theorem State.mapSru_csc (f : Sru → Sru) (s : State) : (s.mapSru f).csc = s.csc := rfl
@[simp] theorem State.mapSru_vos (f : Sru → Sru) (s : State) : (s.mapSru f).vos = s.vos := rfl
@[simp] theorem State.mapSru_li (f : Sru → Sru) (s : State) : (s.mapSru f).li = s.li := rfl
@[simp] theorem State.mapSru_pending (f : Sru → Sru) (s : State) : (s.mapSru f).pending = s.pending := rfl
@[simp] theorem State.mapPt_pins (f : Pt → Pt) (s : State) : (s.mapPt f).pins = s.pins := rfl
@[simp] theorem State.mapPt_cfg (f : Pt → Pt) (s : State) : (s.mapPt f).cfg = s.cfg := rfl
@[simp] theorem State.mapPt_sfe (f : Pt → Pt) (s : State) : (s.mapPt f).sfe = s.sfe := rfl
@[simp] theorem State.mapPt_pcu (f : Pt → Pt) (s : State) : (s.mapPt f).pcu = s.pcu := rfl
@[simp] theorem State.mapPt_sru (f : Pt → Pt) (s : State) : (s.mapPt f).sru = s.sru := rfl
@[simp] theorem State.mapPt_pt (f : Pt → Pt) (s : State) : (s.mapPt f).pt = f s.pt := rfl
@[simp] theorem State.mapPt_dlu (f : Pt → Pt) (s : State) : (s.mapPt f).dlu = s.dlu := rfl
@[simp] theorem State.mapPt_dlm (f : Pt → Pt) (s : State) : (s.mapPt f).dlm = s.dlm := rfl
@[simp] theorem State.mapPt_btq (f : Pt → Pt) (s : State) : (s.mapPt f).btq = s.btq := rfl
@[simp] theorem State.mapPt_tlu (f : Pt → Pt) (s : State) : (s.mapPt f).tlu = s.tlu := rfl
@[simp] theorem State.mapPt_csc (f : Pt → Pt) (s : State) : (s.mapPt f).csc = s.csc := rfl
@[simp] theorem State.mapPt_vos (f : Pt → Pt) (s : State) : (s.mapPt f).vos = s.vos := rfl
@[simp] theorem State.mapPt_li (f : Pt → Pt) (s : State) : (s.mapPt f).li = s.li := rfl
@[simp] theorem State.mapPt_pending (f : Pt → Pt) (s : State) : (s.mapPt f).pending = s.pending := rfl
@[simp] theorem State.mapDlu_pins (f : Sides Loop → Sides Loop) (s : State) : (s.mapDlu f).pins = s.pins := rfl
@[simp] theorem State.mapDlu_cfg (f : Sides Loop → Sides Loop) (s : State) : (s.mapDlu f).cfg = s.cfg := rfl
@[simp] theorem State.mapDlu_sfe (f : Sides Loop → Sides Loop) (s : State) : (s.mapDlu f).sfe = s.sfe := rfl
@[simp] theorem State.mapDlu_pcu (f : Sides Loop → Sides Loop) (s : State) : (s.mapDlu f).pcu = s.pcu := rfl
@[simp] theorem State.mapDlu_sru (f : Sides Loop → Sides Loop) (s : State) : (s.mapDlu f).sru = s.sru := rfl
@[simp] theorem State.mapDlu_pt (f : Sides Loop → Sides Loop) (s : State) : (s.mapDlu f).pt = s.pt := rfl
@[simp] theorem State.mapDlu_dlu (f : Sides Loop → Sides Loop) (s : State) : (s.mapDlu f).dlu = f s.dlu := rfl
@[simp] theorem State.mapDlu_dlm (f : Sides Loop → Sides Loop) (s : State) : (s.mapDlu f).dlm = s.dlm := rfl
@[simp] theorem State.mapDlu_btq (f : Sides Loop → Sides Loop) (s : State) : (s.mapDlu f).btq = s.btq := rfl
@[simp] theorem State.mapDlu_tlu (f : Sides Loop → Sides Loop) (s : State) : (s.mapDlu f).tlu = s.tlu := rfl
@[simp] theorem State.mapDlu_csc (f : Sides Loop → Sides Loop) (s : State) : (s.mapDlu f).csc = s.csc := rfl
@[simp] theorem State.mapDlu_vos (f : Sides Loop → Sides Loop) (s : State) : (s.mapDlu f).vos = s.vos := rfl
@[simp] theorem State.mapDlu_li (f : Sides Loop → Sides Loop) (s : State) : (s.mapDlu f).li = s.li := rfl
@[simp] theorem State.mapDlu_pending (f : Sides Loop → Sides Loop) (s : State) : (s.mapDlu f).pending = s.pending := rfl
@[simp] theorem State.mapDlm_pins (f : Dlm → Dlm) (s : State) : (s.mapDlm f).pins = s.pins := rfl
@[simp] theorem State.mapDlm_cfg (f : Dlm → Dlm) (s : State) : (s.mapDlm f).cfg = s.cfg := rfl
@[simp] theorem State.mapDlm_sfe (f : Dlm → Dlm) (s : State) : (s.mapDlm f).sfe = s.sfe := rfl
@[simp] theorem State.mapDlm_pcu (f : Dlm → Dlm) (s : State) : (s.mapDlm f).pcu = s.pcu := rfl
@[simp] theorem State.mapDlm_sru (f : Dlm → Dlm) (s : State) : (s.mapDlm f).sru = s.sru := rfl
@[simp] theorem State.mapDlm_pt (f : Dlm → Dlm) (s : State) : (s.mapDlm f).pt = s.pt := rfl
@[simp] theorem State.mapDlm_dlu (f : Dlm → Dlm) (s : State) : (s.mapDlm f).dlu = s.dlu := rfl
@[simp] theorem State.mapDlm_dlm (f : Dlm → Dlm) (s : State) : (s.mapDlm f).dlm = f s.dlm := rfl
@[simp] theorem State.mapDlm_btq (f : Dlm → Dlm) (s : State) : (s.mapDlm f).btq = s.btq := rfl
@[simp] theorem State.mapDlm_tlu (f : Dlm → Dlm) (s : State) : (s.mapDlm f).tlu = s.tlu := rfl
@[simp] theorem State.mapDlm_csc (f : Dlm → Dlm) (s : State) : (s.mapDlm f).csc = s.csc := rfl
@[simp] theorem State.mapDlm_vos (f : Dlm → Dlm) (s : State) : (s.mapDlm f).vos = s.vos := rfl
@[simp] theorem State.mapDlm_li (f : Dlm → Dlm) (s : State) : (s.mapDlm f).li = s.li := rfl
@[simp] theorem State.mapDlm_pending (f : Dlm → Dlm) (s : State) : (s.mapDlm f).pending = s.pending := rfl
@[simp] theorem State.mapBtq_pins (f : Btq → Btq) (s : State) : (s.mapBtq f).pins = s.pins := rfl
@[simp] theorem State.mapBtq_cfg (f : Btq → Btq) (s : State) : (s.mapBtq f).cfg = s.cfg := rfl
@[simp] theorem State.mapBtq_sfe (f : Btq → Btq) (s : State) : (s.mapBtq f).sfe = s.sfe := rfl
@[simp] theorem State.mapBtq_pcu (f : Btq → Btq) (s : State) : (s.mapBtq f).pcu = s.pcu := rfl
@[simp] theorem State.mapBtq_sru (f : Btq → Btq) (s : State) : (s.mapBtq f).sru = s.sru := rfl
@[simp] theorem State.mapBtq_pt (f : Btq → Btq) (s : State) : (s.mapBtq f).pt = s.pt := rfl
@[simp] theorem State.mapBtq_dlu (f : Btq → Btq) (s : State) : (s.mapBtq f).dlu = s.dlu := rfl
@[simp] theorem State.mapBtq_dlm (f : Btq → Btq) (s : State) : (s.mapBtq f).dlm = s.dlm := rfl
@[simp] theorem State.mapBtq_btq (f : Btq → Btq) (s : State) : (s.mapBtq f).btq = f s.btq := rfl
@[simp] theorem State.mapBtq_tlu (f : Btq → Btq) (s : State) : (s.mapBtq f).tlu = s.tlu := rfl
@[simp] theorem State.mapBtq_csc (f : Btq → Btq) (s : State) : (s.mapBtq f).csc = s.csc := rfl
@[simp] theorem State.mapBtq_vos (f : Btq → Btq) (s : State) : (s.mapBtq f).vos = s.vos := rfl
@[simp] theorem State.mapBtq_li (f : Btq → Btq) (s : State) : (s.mapBtq f).li = s.li := rfl
@[simp] theorem State.mapBtq_pending (f : Btq → Btq) (s : State) : (s.mapBtq f).pending = s.pending := rfl
@[simp] theorem State.mapTlu_pins (f : Tlu → Tlu) (s : State) : (s.mapTlu f).pins = s.pins := rfl
@[simp] theorem State.mapTlu_cfg (f : Tlu → Tlu) (s : State) : (s.mapTlu f).cfg = s.cfg := rfl
@[simp] theorem State.mapTlu_sfe (f : Tlu → Tlu) (s : State) : (s.mapTlu f).sfe = s.sfe := rfl
@[simp] theorem State.mapTlu_pcu (f : Tlu → Tlu) (s : State) : (s.mapTlu f).pcu = s.pcu := rfl
@[simp] theorem State.mapTlu_sru (f : Tlu → Tlu) (s : State) : (s.mapTlu f).sru = s.sru := rfl
@[simp] theorem State.mapTlu_pt (f : Tlu → Tlu) (s : State) : (s.mapTlu f).pt = s.pt := rfl
@[simp] theorem State.mapTlu_dlu (f : Tlu → Tlu) (s : State) : (s.mapTlu f).dlu = s.dlu := rfl
@[simp] theorem State.mapTlu_dlm (f : Tlu → Tlu) (s : State) : (s.mapTlu f).dlm = s.dlm := rfl
@[simp] theorem State.mapTlu_btq (f : Tlu → Tlu) (s : State) : (s.mapTlu f).btq = s.btq := rfl
@[simp] theorem State.mapTlu_tlu (f : Tlu → Tlu) (s : State) : (s.mapTlu f).tlu = f s.tlu := rfl
@[simp] theorem State.mapTlu_csc (f : Tlu → Tlu) (s : State) : (s.mapTlu f).csc = s.csc := rfl
@[simp] theorem State.mapTlu_vos (f : Tlu → Tlu) (s : State) : (s.mapTlu f).vos = s.vos := rfl
@[simp] theorem State.mapTlu_li (f : Tlu → Tlu) (s : State) : (s.mapTlu f).li = s.li := rfl
@[simp] theorem State.mapTlu_pending (f : Tlu → Tlu) (s : State) : (s.mapTlu f).pending = s.pending := rfl
@[simp] theorem State.mapCsc_pins (f : Csc → Csc) (s : State) : (s.mapCsc f).pins = s.pins := rfl
@[simp] theorem State.mapCsc_cfg (f : Csc → Csc) (s : State) : (s.mapCsc f).cfg = s.cfg := rfl
@[simp] theorem State.mapCsc_sfe (f : Csc → Csc) (s : State) : (s.mapCsc f).sfe = s.sfe := rfl
@[simp] theorem State.mapCsc_pcu (f : Csc → Csc) (s : State) : (s.mapCsc f).pcu = s.pcu := rfl
@[simp] theorem State.mapCsc_sru (f : Csc → Csc) (s : State) : (s.mapCsc f).sru = s.sru := rfl
@[simp] theorem State.mapCsc_pt (f : Csc → Csc) (s : State) : (s.mapCsc f).pt = s.pt := rfl
@[simp] theorem State.mapCsc_dlu (f : Csc → Csc) (s : State) : (s.mapCsc f).dlu = s.dlu := rfl
@[simp] theorem State.mapCsc_dlm (f : Csc → Csc) (s : State) : (s.mapCsc f).dlm = s.dlm := rfl
@[simp] theorem State.mapCsc_btq (f : Csc → Csc) (s : State) : (s.mapCsc f).btq = s.btq := rfl
@[simp] theorem State.mapCsc_tlu (f : Csc → Csc) (s : State) : (s.mapCsc f).tlu = s.tlu := rfl
@[simp] theorem State.mapCsc_csc (f : Csc → Csc) (s : State) : (s.mapCsc f).csc = f s.csc := rfl
@[simp] theorem State.mapCsc_vos (f : Csc → Csc) (s : State) : (s.mapCsc f).vos = s.vos := rfl
@[simp] theorem State.mapCsc_li (f : Csc → Csc) (s : State) : (s.mapCsc f).li = s.li := rfl
@[simp] theorem State.mapCsc_pending (f : Csc → Csc) (s : State) : (s.mapCsc f).pending = s.pending := rfl
@[simp] theorem State.mapVos_pins (f : Vos → Vos) (s : State) : (s.mapVos f).pins = s.pins := rfl
@[simp] theorem State.mapVos_cfg (f : Vos → Vos) (s : State) : (s.mapVos f).cfg = s.cfg := rfl
@[simp] theorem State.mapVos_sfe (f : Vos → Vos) (s : State) : (s.mapVos f).sfe = s.sfe := rfl
@[simp] theorem State.mapVos_pcu (f : Vos → Vos) (s : State) : (s.mapVos f).pcu = s.pcu := rfl
@[simp] theorem State.mapVos_sru (f : Vos → Vos) (s : State) : (s.mapVos f).sru = s.sru := rfl
@[simp] theorem State.mapVos_pt (f : Vos → Vos) (s : State) : (s.mapVos f).pt = s.pt := rfl
@[simp] theorem State.mapVos_dlu (f : Vos → Vos) (s : State) : (s.mapVos f).dlu = s.dlu := rfl
@[simp] theorem State.mapVos_dlm (f : Vos → Vos) (s : State) : (s.mapVos f).dlm = s.dlm := rfl
@[simp] theorem State.mapVos_btq (f : Vos → Vos) (s : State) : (s.mapVos f).btq = s.btq := rfl
@[simp] theorem State.mapVos_tlu (f : Vos → Vos) (s : State) : (s.mapVos f).tlu = s.tlu := rfl
@[simp] theorem State.mapVos_csc (f : Vos → Vos) (s : State) : (s.mapVos f).csc = s.csc := rfl
@[simp] theorem State.mapVos_vos (f : Vos → Vos) (s : State) : (s.mapVos f).vos = f s.vos := rfl
@[simp] theorem State.mapVos_li (f : Vos → Vos) (s : State) : (s.mapVos f).li = s.li := rfl
@[simp] theorem State.mapVos_pending (f : Vos → Vos) (s : State) : (s.mapVos f).pending = s.pending := rfl
@[simp] theorem State.mapLi_pins (f : Li → Li) (s : State) : (s.mapLi f).pins = s.pins := rfl
@[simp] theorem State.mapLi_cfg (f : Li → Li) (s : State) : (s.mapLi f).cfg = s.cfg := rfl
@[simp] theorem State.mapLi_sfe (f : Li → Li) (s : State) : (s.mapLi f).sfe = s.sfe := rfl
@[simp] theorem State.mapLi_pcu (f : Li → Li) (s : State) : (s.mapLi f).pcu = s.pcu := rfl
@[simp] theorem State.mapLi_sru (f : Li → Li) (s : State) : (s.mapLi f).sru = s.sru := rfl
@[simp] theorem State.mapLi_pt (f : Li → Li) (s : State) : (s.mapLi f).pt = s.pt := rfl
@[simp] theorem State.mapLi_dlu (f : Li → Li) (s : State) : (s.mapLi f).dlu = s.dlu := rfl
@[simp] theorem State.mapLi_dlm (f : Li → Li) (s : State) : (s.mapLi f).dlm = s.dlm := rfl
@[simp] theorem State.mapLi_btq (f : Li → Li) (s : State) : (s.mapLi f).btq = s.btq := rfl
@[simp] theorem State.mapLi_tlu (f : Li → Li) (s : State) : (s.mapLi f).tlu = s.tlu := rfl
@[simp] theorem State.mapLi_csc (f : Li → Li) (s : State) : (s.mapLi f).csc = s.csc := rfl
@[simp] theorem State.mapLi_vos (f : Li → Li) (s : State) : (s.mapLi f).vos = s.vos := rfl
@[simp] theorem State.mapLi_li (f : Li → Li) (s : State) : (s.mapLi f).li = f s.li := rfl
@[simp] theorem State.mapLi_pending (f : Li → Li) (s : State) : (s.mapLi f).pending = s.pending := rfl
@[simp] theorem State.mapChan_pins (i : Chan) (f : Channel → Channel) (s : State) : (s.mapChan i f).pins = s.pins := rfl
@[simp] theorem State.mapChan_cfg (i : Chan) (f : Channel → Channel) (s : State) : (s.mapChan i f).cfg = s.cfg := rfl
@[simp] theorem State.mapChan_pcu (i : Chan) (f : Channel → Channel) (s : State) : (s.mapChan i f).pcu = s.pcu := rfl
@[simp] theorem State.mapChan_sru (i : Chan) (f : Channel → Channel) (s : State) : (s.mapChan i f).sru = s.sru := rfl
@[simp] theorem State.mapChan_pt (i : Chan) (f : Channel → Channel) (s : State) : (s.mapChan i f).pt = s.pt := rfl
@[simp] theorem State.mapChan_dlu (i : Chan) (f : Channel → Channel) (s : State) : (s.mapChan i f).dlu = s.dlu := rfl
@[simp] theorem State.mapChan_dlm (i : Chan) (f : Channel → Channel) (s : State) : (s.mapChan i f).dlm = s.dlm := rfl
@[simp] theorem State.mapChan_btq (i : Chan) (f : Channel → Channel) (s : State) : (s.mapChan i f).btq = s.btq := rfl
@[simp] theorem State.mapChan_tlu (i : Chan) (f : Channel → Channel) (s : State) : (s.mapChan i f).tlu = s.tlu := rfl
@[simp] theorem State.mapChan_csc (i : Chan) (f : Channel → Channel) (s : State) : (s.mapChan i f).csc = s.csc := rfl
@[simp] theorem State.mapChan_vos (i : Chan) (f : Channel → Channel) (s : State) : (s.mapChan i f).vos = s.vos := rfl
@[simp] theorem State.mapChan_li (i : Chan) (f : Channel → Channel) (s : State) : (s.mapChan i f).li = s.li := rfl
@[simp] theorem State.mapChan_pending (i : Chan) (f : Channel → Channel) (s : State) : (s.mapChan i f).pending = s.pending := rfl
@[simp] theorem State.mapChan_get (i : Chan) (f : Channel → Channel) (s : State) :
    (s.mapChan i f).sfe.chans.get i = f (s.sfe.chans.get i) := by simp [State.mapChan]
theorem State.mapChan_get_of_ne {i j : Chan} (f : Channel → Channel) (s : State) (h : j ≠ i) :
    (s.mapChan i f).sfe.chans.get j = s.sfe.chans.get j := by simp [State.mapChan, Chans.get_set_of_ne _ _ h]
@[simp] theorem State.mapChan_capture (i : Chan) (f : Channel → Channel) (s : State) :
    (s.mapChan i f).sfe.capture = s.sfe.capture := rfl

end Sys2Proof.Machine
end

