-- ==== Sys2Proof/Laws/Frames.lean ====
section
/-! SUPPORT. Frames of the shared operations: the blocks that each one leaves as they are. -/

namespace Sys2Proof.Machine

@[simp] theorem latch_pins (i : Nat) (s : State) : (latch i s).pins = s.pins := by unfold latch; split <;> rfl
@[simp] theorem latch_cfg (i : Nat) (s : State) : (latch i s).cfg = s.cfg := by unfold latch; split <;> rfl
@[simp] theorem latch_sfe (i : Nat) (s : State) : (latch i s).sfe = s.sfe := by unfold latch; split <;> rfl
@[simp] theorem latch_pcu (i : Nat) (s : State) : (latch i s).pcu = s.pcu := by unfold latch; split <;> rfl
@[simp] theorem latch_sru (i : Nat) (s : State) : (latch i s).sru = s.sru := by unfold latch; split <;> rfl
@[simp] theorem latch_pt (i : Nat) (s : State) : (latch i s).pt = s.pt := by unfold latch; split <;> rfl
@[simp] theorem latch_dlu (i : Nat) (s : State) : (latch i s).dlu = s.dlu := by unfold latch; split <;> rfl
@[simp] theorem latch_dlm (i : Nat) (s : State) : (latch i s).dlm = s.dlm := by unfold latch; split <;> rfl
@[simp] theorem latch_btq (i : Nat) (s : State) : (latch i s).btq = s.btq := by unfold latch; split <;> rfl
@[simp] theorem latch_tlu (i : Nat) (s : State) : (latch i s).tlu = s.tlu := by unfold latch; split <;> rfl
@[simp] theorem latch_csc (i : Nat) (s : State) : (latch i s).csc = s.csc := by unfold latch; split <;> rfl
@[simp] theorem latch_vos (i : Nat) (s : State) : (latch i s).vos = s.vos := by unfold latch; split <;> rfl
@[simp] theorem latch_pending (i : Nat) (s : State) : (latch i s).pending = s.pending := by unfold latch; split <;> rfl

@[simp] theorem raise_pins (e : EventSrc) (s : State) : (raise e s).pins = s.pins := by unfold raise; split <;> simp
@[simp] theorem raise_cfg (e : EventSrc) (s : State) : (raise e s).cfg = s.cfg := by unfold raise; split <;> simp
@[simp] theorem raise_sfe (e : EventSrc) (s : State) : (raise e s).sfe = s.sfe := by unfold raise; split <;> simp
@[simp] theorem raise_pcu (e : EventSrc) (s : State) : (raise e s).pcu = s.pcu := by unfold raise; split <;> simp
@[simp] theorem raise_sru (e : EventSrc) (s : State) : (raise e s).sru = s.sru := by unfold raise; split <;> simp
@[simp] theorem raise_pt (e : EventSrc) (s : State) : (raise e s).pt = s.pt := by unfold raise; split <;> simp
@[simp] theorem raise_dlu (e : EventSrc) (s : State) : (raise e s).dlu = s.dlu := by unfold raise; split <;> simp
@[simp] theorem raise_dlm (e : EventSrc) (s : State) : (raise e s).dlm = s.dlm := by unfold raise; split <;> simp
@[simp] theorem raise_btq (e : EventSrc) (s : State) : (raise e s).btq = s.btq := by unfold raise; split <;> simp
@[simp] theorem raise_tlu (e : EventSrc) (s : State) : (raise e s).tlu = s.tlu := by unfold raise; split <;> simp
@[simp] theorem raise_csc (e : EventSrc) (s : State) : (raise e s).csc = s.csc := by unfold raise; split <;> simp
@[simp] theorem raise_vos (e : EventSrc) (s : State) : (raise e s).vos = s.vos := by unfold raise; split <;> simp
@[simp] theorem raise_pending (e : EventSrc) (s : State) : (raise e s).pending = s.pending := by unfold raise; split <;> simp

@[simp] theorem setCond_pins (e : EventSrc) (b : Bool) (s : State) : (setCond e b s).pins = s.pins := by unfold setCond; dsimp only; split <;> simp
@[simp] theorem setCond_cfg (e : EventSrc) (b : Bool) (s : State) : (setCond e b s).cfg = s.cfg := by unfold setCond; dsimp only; split <;> simp
@[simp] theorem setCond_sfe (e : EventSrc) (b : Bool) (s : State) : (setCond e b s).sfe = s.sfe := by unfold setCond; dsimp only; split <;> simp
@[simp] theorem setCond_pcu (e : EventSrc) (b : Bool) (s : State) : (setCond e b s).pcu = s.pcu := by unfold setCond; dsimp only; split <;> simp
@[simp] theorem setCond_sru (e : EventSrc) (b : Bool) (s : State) : (setCond e b s).sru = s.sru := by unfold setCond; dsimp only; split <;> simp
@[simp] theorem setCond_pt (e : EventSrc) (b : Bool) (s : State) : (setCond e b s).pt = s.pt := by unfold setCond; dsimp only; split <;> simp
@[simp] theorem setCond_dlu (e : EventSrc) (b : Bool) (s : State) : (setCond e b s).dlu = s.dlu := by unfold setCond; dsimp only; split <;> simp
@[simp] theorem setCond_dlm (e : EventSrc) (b : Bool) (s : State) : (setCond e b s).dlm = s.dlm := by unfold setCond; dsimp only; split <;> simp
@[simp] theorem setCond_btq (e : EventSrc) (b : Bool) (s : State) : (setCond e b s).btq = s.btq := by unfold setCond; dsimp only; split <;> simp
@[simp] theorem setCond_tlu (e : EventSrc) (b : Bool) (s : State) : (setCond e b s).tlu = s.tlu := by unfold setCond; dsimp only; split <;> simp
@[simp] theorem setCond_csc (e : EventSrc) (b : Bool) (s : State) : (setCond e b s).csc = s.csc := by unfold setCond; dsimp only; split <;> simp
@[simp] theorem setCond_vos (e : EventSrc) (b : Bool) (s : State) : (setCond e b s).vos = s.vos := by unfold setCond; dsimp only; split <;> simp
@[simp] theorem setCond_pending (e : EventSrc) (b : Bool) (s : State) : (setCond e b s).pending = s.pending := by unfold setCond; dsimp only; split <;> simp

@[simp] theorem judgeChannelFault_pins (s : State) : (judgeChannelFault s).pins = s.pins := by simp [judgeChannelFault]
@[simp] theorem judgeChannelFault_cfg (s : State) : (judgeChannelFault s).cfg = s.cfg := by simp [judgeChannelFault]
@[simp] theorem judgeChannelFault_sfe (s : State) : (judgeChannelFault s).sfe = s.sfe := by simp [judgeChannelFault]
@[simp] theorem judgeChannelFault_pcu (s : State) : (judgeChannelFault s).pcu = s.pcu := by simp [judgeChannelFault]
@[simp] theorem judgeChannelFault_sru (s : State) : (judgeChannelFault s).sru = s.sru := by simp [judgeChannelFault]
@[simp] theorem judgeChannelFault_pt (s : State) : (judgeChannelFault s).pt = s.pt := by simp [judgeChannelFault]
@[simp] theorem judgeChannelFault_dlu (s : State) : (judgeChannelFault s).dlu = s.dlu := by simp [judgeChannelFault]
@[simp] theorem judgeChannelFault_dlm (s : State) : (judgeChannelFault s).dlm = s.dlm := by simp [judgeChannelFault]
@[simp] theorem judgeChannelFault_btq (s : State) : (judgeChannelFault s).btq = s.btq := by simp [judgeChannelFault]
@[simp] theorem judgeChannelFault_tlu (s : State) : (judgeChannelFault s).tlu = s.tlu := by simp [judgeChannelFault]
@[simp] theorem judgeChannelFault_csc (s : State) : (judgeChannelFault s).csc = s.csc := by simp [judgeChannelFault]
@[simp] theorem judgeChannelFault_vos (s : State) : (judgeChannelFault s).vos = s.vos := by simp [judgeChannelFault]
@[simp] theorem judgeChannelFault_pending (s : State) : (judgeChannelFault s).pending = s.pending := by simp [judgeChannelFault]

@[simp] theorem judgePlanLow_pins (s : State) : (judgePlanLow s).pins = s.pins := by simp [judgePlanLow]
@[simp] theorem judgePlanLow_cfg (s : State) : (judgePlanLow s).cfg = s.cfg := by simp [judgePlanLow]
@[simp] theorem judgePlanLow_sfe (s : State) : (judgePlanLow s).sfe = s.sfe := by simp [judgePlanLow]
@[simp] theorem judgePlanLow_pcu (s : State) : (judgePlanLow s).pcu = s.pcu := by simp [judgePlanLow]
@[simp] theorem judgePlanLow_sru (s : State) : (judgePlanLow s).sru = s.sru := by simp [judgePlanLow]
@[simp] theorem judgePlanLow_pt (s : State) : (judgePlanLow s).pt = s.pt := by simp [judgePlanLow]
@[simp] theorem judgePlanLow_dlu (s : State) : (judgePlanLow s).dlu = s.dlu := by simp [judgePlanLow]
@[simp] theorem judgePlanLow_dlm (s : State) : (judgePlanLow s).dlm = s.dlm := by simp [judgePlanLow]
@[simp] theorem judgePlanLow_btq (s : State) : (judgePlanLow s).btq = s.btq := by simp [judgePlanLow]
@[simp] theorem judgePlanLow_tlu (s : State) : (judgePlanLow s).tlu = s.tlu := by simp [judgePlanLow]
@[simp] theorem judgePlanLow_csc (s : State) : (judgePlanLow s).csc = s.csc := by simp [judgePlanLow]
@[simp] theorem judgePlanLow_vos (s : State) : (judgePlanLow s).vos = s.vos := by simp [judgePlanLow]
@[simp] theorem judgePlanLow_pending (s : State) : (judgePlanLow s).pending = s.pending := by simp [judgePlanLow]

@[simp] theorem judgeMaterial_pins (s : State) : (judgeMaterial s).pins = s.pins := by simp [judgeMaterial]
@[simp] theorem judgeMaterial_cfg (s : State) : (judgeMaterial s).cfg = s.cfg := by simp [judgeMaterial]
@[simp] theorem judgeMaterial_sfe (s : State) : (judgeMaterial s).sfe = s.sfe := by simp [judgeMaterial]
@[simp] theorem judgeMaterial_pcu (s : State) : (judgeMaterial s).pcu = s.pcu := by simp [judgeMaterial]
@[simp] theorem judgeMaterial_sru (s : State) : (judgeMaterial s).sru = s.sru := by simp [judgeMaterial]
@[simp] theorem judgeMaterial_pt (s : State) : (judgeMaterial s).pt = s.pt := by simp [judgeMaterial]
@[simp] theorem judgeMaterial_dlu (s : State) : (judgeMaterial s).dlu = s.dlu := by simp [judgeMaterial]
@[simp] theorem judgeMaterial_dlm (s : State) : (judgeMaterial s).dlm = s.dlm := by simp [judgeMaterial]
@[simp] theorem judgeMaterial_btq (s : State) : (judgeMaterial s).btq = s.btq := by simp [judgeMaterial]
@[simp] theorem judgeMaterial_tlu (s : State) : (judgeMaterial s).tlu = s.tlu := by simp [judgeMaterial]
@[simp] theorem judgeMaterial_csc (s : State) : (judgeMaterial s).csc = s.csc := by simp [judgeMaterial]
@[simp] theorem judgeMaterial_vos (s : State) : (judgeMaterial s).vos = s.vos := by simp [judgeMaterial]
@[simp] theorem judgeMaterial_pending (s : State) : (judgeMaterial s).pending = s.pending := by simp [judgeMaterial]

@[simp] theorem judgeReferences_pins (s : State) : (judgeReferences s).pins = s.pins := by simp [judgeReferences]
@[simp] theorem judgeReferences_cfg (s : State) : (judgeReferences s).cfg = s.cfg := by simp [judgeReferences]
@[simp] theorem judgeReferences_sfe (s : State) : (judgeReferences s).sfe = s.sfe := by simp [judgeReferences]
@[simp] theorem judgeReferences_pcu (s : State) : (judgeReferences s).pcu = s.pcu := by simp [judgeReferences]
@[simp] theorem judgeReferences_sru (s : State) : (judgeReferences s).sru = s.sru := by simp [judgeReferences]
@[simp] theorem judgeReferences_pt (s : State) : (judgeReferences s).pt = s.pt := by simp [judgeReferences]
@[simp] theorem judgeReferences_dlu (s : State) : (judgeReferences s).dlu = s.dlu := by simp [judgeReferences]
@[simp] theorem judgeReferences_dlm (s : State) : (judgeReferences s).dlm = s.dlm := by simp [judgeReferences]
@[simp] theorem judgeReferences_btq (s : State) : (judgeReferences s).btq = s.btq := by simp [judgeReferences]
@[simp] theorem judgeReferences_tlu (s : State) : (judgeReferences s).tlu = s.tlu := by simp [judgeReferences]
@[simp] theorem judgeReferences_csc (s : State) : (judgeReferences s).csc = s.csc := by simp [judgeReferences]
@[simp] theorem judgeReferences_vos (s : State) : (judgeReferences s).vos = s.vos := by simp [judgeReferences]
@[simp] theorem judgeReferences_pending (s : State) : (judgeReferences s).pending = s.pending := by simp [judgeReferences]

@[simp] theorem raiseWindow_pins (m : Bool × Bool) (s : State) : (raiseWindow m s).pins = s.pins := by unfold raiseWindow; dsimp only; split <;> split <;> simp
@[simp] theorem raiseWindow_cfg (m : Bool × Bool) (s : State) : (raiseWindow m s).cfg = s.cfg := by unfold raiseWindow; dsimp only; split <;> split <;> simp
@[simp] theorem raiseWindow_sfe (m : Bool × Bool) (s : State) : (raiseWindow m s).sfe = s.sfe := by unfold raiseWindow; dsimp only; split <;> split <;> simp
@[simp] theorem raiseWindow_pcu (m : Bool × Bool) (s : State) : (raiseWindow m s).pcu = s.pcu := by unfold raiseWindow; dsimp only; split <;> split <;> simp
@[simp] theorem raiseWindow_sru (m : Bool × Bool) (s : State) : (raiseWindow m s).sru = s.sru := by unfold raiseWindow; dsimp only; split <;> split <;> simp
@[simp] theorem raiseWindow_pt (m : Bool × Bool) (s : State) : (raiseWindow m s).pt = s.pt := by unfold raiseWindow; dsimp only; split <;> split <;> simp
@[simp] theorem raiseWindow_dlu (m : Bool × Bool) (s : State) : (raiseWindow m s).dlu = s.dlu := by unfold raiseWindow; dsimp only; split <;> split <;> simp
@[simp] theorem raiseWindow_dlm (m : Bool × Bool) (s : State) : (raiseWindow m s).dlm = s.dlm := by unfold raiseWindow; dsimp only; split <;> split <;> simp
@[simp] theorem raiseWindow_btq (m : Bool × Bool) (s : State) : (raiseWindow m s).btq = s.btq := by unfold raiseWindow; dsimp only; split <;> split <;> simp
@[simp] theorem raiseWindow_tlu (m : Bool × Bool) (s : State) : (raiseWindow m s).tlu = s.tlu := by unfold raiseWindow; dsimp only; split <;> split <;> simp
@[simp] theorem raiseWindow_csc (m : Bool × Bool) (s : State) : (raiseWindow m s).csc = s.csc := by unfold raiseWindow; dsimp only; split <;> split <;> simp
@[simp] theorem raiseWindow_vos (m : Bool × Bool) (s : State) : (raiseWindow m s).vos = s.vos := by unfold raiseWindow; dsimp only; split <;> split <;> simp
@[simp] theorem raiseWindow_pending (m : Bool × Bool) (s : State) : (raiseWindow m s).pending = s.pending := by unfold raiseWindow; dsimp only; split <;> split <;> simp

@[simp] theorem completeCapture_pins (s : State) : (completeCapture s).pins = s.pins := by unfold completeCapture; split; rfl; split <;> simp
@[simp] theorem completeCapture_cfg (s : State) : (completeCapture s).cfg = s.cfg := by unfold completeCapture; split; rfl; split <;> simp
@[simp] theorem completeCapture_pcu (s : State) : (completeCapture s).pcu = s.pcu := by unfold completeCapture; split; rfl; split <;> simp
@[simp] theorem completeCapture_sru (s : State) : (completeCapture s).sru = s.sru := by unfold completeCapture; split; rfl; split <;> simp
@[simp] theorem completeCapture_pt (s : State) : (completeCapture s).pt = s.pt := by unfold completeCapture; split; rfl; split <;> simp
@[simp] theorem completeCapture_dlu (s : State) : (completeCapture s).dlu = s.dlu := by unfold completeCapture; split; rfl; split <;> simp
@[simp] theorem completeCapture_dlm (s : State) : (completeCapture s).dlm = s.dlm := by unfold completeCapture; split; rfl; split <;> simp
@[simp] theorem completeCapture_btq (s : State) : (completeCapture s).btq = s.btq := by unfold completeCapture; split; rfl; split <;> simp
@[simp] theorem completeCapture_tlu (s : State) : (completeCapture s).tlu = s.tlu := by unfold completeCapture; split; rfl; split <;> simp
@[simp] theorem completeCapture_csc (s : State) : (completeCapture s).csc = s.csc := by unfold completeCapture; split; rfl; split <;> simp
@[simp] theorem completeCapture_vos (s : State) : (completeCapture s).vos = s.vos := by unfold completeCapture; split; rfl; split <;> simp
@[simp] theorem completeCapture_pending (s : State) : (completeCapture s).pending = s.pending := by unfold completeCapture; split; rfl; split <;> simp

@[simp] theorem failCapture_pins (s : State) : (failCapture s).pins = s.pins := by unfold failCapture; split; rfl; split <;> simp
@[simp] theorem failCapture_cfg (s : State) : (failCapture s).cfg = s.cfg := by unfold failCapture; split; rfl; split <;> simp
@[simp] theorem failCapture_pcu (s : State) : (failCapture s).pcu = s.pcu := by unfold failCapture; split; rfl; split <;> simp
@[simp] theorem failCapture_sru (s : State) : (failCapture s).sru = s.sru := by unfold failCapture; split; rfl; split <;> simp
@[simp] theorem failCapture_pt (s : State) : (failCapture s).pt = s.pt := by unfold failCapture; split; rfl; split <;> simp
@[simp] theorem failCapture_dlu (s : State) : (failCapture s).dlu = s.dlu := by unfold failCapture; split; rfl; split <;> simp
@[simp] theorem failCapture_dlm (s : State) : (failCapture s).dlm = s.dlm := by unfold failCapture; split; rfl; split <;> simp
@[simp] theorem failCapture_btq (s : State) : (failCapture s).btq = s.btq := by unfold failCapture; split; rfl; split <;> simp
@[simp] theorem failCapture_tlu (s : State) : (failCapture s).tlu = s.tlu := by unfold failCapture; split; rfl; split <;> simp
@[simp] theorem failCapture_csc (s : State) : (failCapture s).csc = s.csc := by unfold failCapture; split; rfl; split <;> simp
@[simp] theorem failCapture_vos (s : State) : (failCapture s).vos = s.vos := by unfold failCapture; split; rfl; split <;> simp
@[simp] theorem failCapture_pending (s : State) : (failCapture s).pending = s.pending := by unfold failCapture; split; rfl; split <;> simp

@[simp] theorem judgeWindows_pins (s : State) : (judgeWindows s).pins = s.pins := by simp [judgeWindows]
@[simp] theorem judgeWindows_cfg (s : State) : (judgeWindows s).cfg = s.cfg := by simp [judgeWindows]
@[simp] theorem judgeWindows_sfe (s : State) : (judgeWindows s).sfe = s.sfe := by simp [judgeWindows]
@[simp] theorem judgeWindows_pcu (s : State) : (judgeWindows s).pcu = s.pcu := by simp [judgeWindows]
@[simp] theorem judgeWindows_sru (s : State) : (judgeWindows s).sru = s.sru := by simp [judgeWindows]
@[simp] theorem judgeWindows_dlu (s : State) : (judgeWindows s).dlu = s.dlu := by simp [judgeWindows]
@[simp] theorem judgeWindows_dlm (s : State) : (judgeWindows s).dlm = s.dlm := by simp [judgeWindows]
@[simp] theorem judgeWindows_btq (s : State) : (judgeWindows s).btq = s.btq := by simp [judgeWindows]
@[simp] theorem judgeWindows_tlu (s : State) : (judgeWindows s).tlu = s.tlu := by simp [judgeWindows]
@[simp] theorem judgeWindows_csc (s : State) : (judgeWindows s).csc = s.csc := by simp [judgeWindows]
@[simp] theorem judgeWindows_vos (s : State) : (judgeWindows s).vos = s.vos := by simp [judgeWindows]
@[simp] theorem judgeWindows_pending (s : State) : (judgeWindows s).pending = s.pending := by simp [judgeWindows]

@[simp] theorem judgePlanEnd_pins (s : State) : (judgePlanEnd s).pins = s.pins := by unfold judgePlanEnd; split <;> simp
@[simp] theorem judgePlanEnd_cfg (s : State) : (judgePlanEnd s).cfg = s.cfg := by unfold judgePlanEnd; split <;> simp
@[simp] theorem judgePlanEnd_sfe (s : State) : (judgePlanEnd s).sfe = s.sfe := by unfold judgePlanEnd; split <;> simp
@[simp] theorem judgePlanEnd_pcu (s : State) : (judgePlanEnd s).pcu = s.pcu := by unfold judgePlanEnd; split <;> simp
@[simp] theorem judgePlanEnd_sru (s : State) : (judgePlanEnd s).sru = s.sru := by unfold judgePlanEnd; split <;> simp
@[simp] theorem judgePlanEnd_dlu (s : State) : (judgePlanEnd s).dlu = s.dlu := by unfold judgePlanEnd; split <;> simp
@[simp] theorem judgePlanEnd_dlm (s : State) : (judgePlanEnd s).dlm = s.dlm := by unfold judgePlanEnd; split <;> simp
@[simp] theorem judgePlanEnd_btq (s : State) : (judgePlanEnd s).btq = s.btq := by unfold judgePlanEnd; split <;> simp
@[simp] theorem judgePlanEnd_tlu (s : State) : (judgePlanEnd s).tlu = s.tlu := by unfold judgePlanEnd; split <;> simp
@[simp] theorem judgePlanEnd_csc (s : State) : (judgePlanEnd s).csc = s.csc := by unfold judgePlanEnd; split <;> simp
@[simp] theorem judgePlanEnd_vos (s : State) : (judgePlanEnd s).vos = s.vos := by unfold judgePlanEnd; split <;> simp
@[simp] theorem judgePlanEnd_pending (s : State) : (judgePlanEnd s).pending = s.pending := by unfold judgePlanEnd; split <;> simp

@[simp] theorem highWaterChanged_pins (s : State) : (highWaterChanged s).pins = s.pins := by simp [highWaterChanged]
@[simp] theorem highWaterChanged_cfg (s : State) : (highWaterChanged s).cfg = s.cfg := by simp [highWaterChanged]
@[simp] theorem highWaterChanged_sfe (s : State) : (highWaterChanged s).sfe = s.sfe := by simp [highWaterChanged]
@[simp] theorem highWaterChanged_pcu (s : State) : (highWaterChanged s).pcu = s.pcu := by simp [highWaterChanged]
@[simp] theorem highWaterChanged_sru (s : State) : (highWaterChanged s).sru = s.sru := by simp [highWaterChanged]
@[simp] theorem highWaterChanged_dlu (s : State) : (highWaterChanged s).dlu = s.dlu := by simp [highWaterChanged]
@[simp] theorem highWaterChanged_dlm (s : State) : (highWaterChanged s).dlm = s.dlm := by simp [highWaterChanged]
@[simp] theorem highWaterChanged_btq (s : State) : (highWaterChanged s).btq = s.btq := by simp [highWaterChanged]
@[simp] theorem highWaterChanged_tlu (s : State) : (highWaterChanged s).tlu = s.tlu := by simp [highWaterChanged]
@[simp] theorem highWaterChanged_csc (s : State) : (highWaterChanged s).csc = s.csc := by simp [highWaterChanged]
@[simp] theorem highWaterChanged_vos (s : State) : (highWaterChanged s).vos = s.vos := by simp [highWaterChanged]
@[simp] theorem highWaterChanged_pending (s : State) : (highWaterChanged s).pending = s.pending := by simp [highWaterChanged]

@[simp] theorem rebaseHigh_pins (h : Nat) (s : State) : (rebaseHigh h s).pins = s.pins := by simp [rebaseHigh]
@[simp] theorem rebaseHigh_cfg (h : Nat) (s : State) : (rebaseHigh h s).cfg = s.cfg := by simp [rebaseHigh]
@[simp] theorem rebaseHigh_sfe (h : Nat) (s : State) : (rebaseHigh h s).sfe = s.sfe := by simp [rebaseHigh]
@[simp] theorem rebaseHigh_sru (h : Nat) (s : State) : (rebaseHigh h s).sru = s.sru := by simp [rebaseHigh]
@[simp] theorem rebaseHigh_dlu (h : Nat) (s : State) : (rebaseHigh h s).dlu = s.dlu := by simp [rebaseHigh]
@[simp] theorem rebaseHigh_dlm (h : Nat) (s : State) : (rebaseHigh h s).dlm = s.dlm := by simp [rebaseHigh]
@[simp] theorem rebaseHigh_btq (h : Nat) (s : State) : (rebaseHigh h s).btq = s.btq := by simp [rebaseHigh]
@[simp] theorem rebaseHigh_tlu (h : Nat) (s : State) : (rebaseHigh h s).tlu = s.tlu := by simp [rebaseHigh]
@[simp] theorem rebaseHigh_csc (h : Nat) (s : State) : (rebaseHigh h s).csc = s.csc := by simp [rebaseHigh]
@[simp] theorem rebaseHigh_vos (h : Nat) (s : State) : (rebaseHigh h s).vos = s.vos := by simp [rebaseHigh]
@[simp] theorem rebaseHigh_pending (h : Nat) (s : State) : (rebaseHigh h s).pending = s.pending := by simp [rebaseHigh]

@[simp] theorem emptyPlan_pins (s : State) : (emptyPlan s).pins = s.pins := by simp [emptyPlan]
@[simp] theorem emptyPlan_cfg (s : State) : (emptyPlan s).cfg = s.cfg := by simp [emptyPlan]
@[simp] theorem emptyPlan_sfe (s : State) : (emptyPlan s).sfe = s.sfe := by simp [emptyPlan]
@[simp] theorem emptyPlan_pcu (s : State) : (emptyPlan s).pcu = s.pcu := by simp [emptyPlan]
@[simp] theorem emptyPlan_sru (s : State) : (emptyPlan s).sru = s.sru := by simp [emptyPlan]
@[simp] theorem emptyPlan_dlu (s : State) : (emptyPlan s).dlu = s.dlu := by simp [emptyPlan]
@[simp] theorem emptyPlan_dlm (s : State) : (emptyPlan s).dlm = s.dlm := by simp [emptyPlan]
@[simp] theorem emptyPlan_btq (s : State) : (emptyPlan s).btq = s.btq := by simp [emptyPlan]
@[simp] theorem emptyPlan_tlu (s : State) : (emptyPlan s).tlu = s.tlu := by simp [emptyPlan]
@[simp] theorem emptyPlan_csc (s : State) : (emptyPlan s).csc = s.csc := by simp [emptyPlan]
@[simp] theorem emptyPlan_vos (s : State) : (emptyPlan s).vos = s.vos := by simp [emptyPlan]
@[simp] theorem emptyPlan_pending (s : State) : (emptyPlan s).pending = s.pending := by simp [emptyPlan]

@[simp] theorem closeClassWindow_pins (s : State) : (closeClassWindow s).pins = s.pins := by unfold closeClassWindow; split <;> simp
@[simp] theorem closeClassWindow_cfg (s : State) : (closeClassWindow s).cfg = s.cfg := by unfold closeClassWindow; split <;> simp
@[simp] theorem closeClassWindow_sfe (s : State) : (closeClassWindow s).sfe = s.sfe := by unfold closeClassWindow; split <;> simp
@[simp] theorem closeClassWindow_pcu (s : State) : (closeClassWindow s).pcu = s.pcu := by unfold closeClassWindow; split <;> simp
@[simp] theorem closeClassWindow_sru (s : State) : (closeClassWindow s).sru = s.sru := by unfold closeClassWindow; split <;> simp
@[simp] theorem closeClassWindow_pt (s : State) : (closeClassWindow s).pt = s.pt := by unfold closeClassWindow; split <;> simp
@[simp] theorem closeClassWindow_dlu (s : State) : (closeClassWindow s).dlu = s.dlu := by unfold closeClassWindow; split <;> simp
@[simp] theorem closeClassWindow_btq (s : State) : (closeClassWindow s).btq = s.btq := by unfold closeClassWindow; split <;> simp
@[simp] theorem closeClassWindow_tlu (s : State) : (closeClassWindow s).tlu = s.tlu := by unfold closeClassWindow; split <;> simp
@[simp] theorem closeClassWindow_csc (s : State) : (closeClassWindow s).csc = s.csc := by unfold closeClassWindow; split <;> simp
@[simp] theorem closeClassWindow_vos (s : State) : (closeClassWindow s).vos = s.vos := by unfold closeClassWindow; split <;> simp
@[simp] theorem closeClassWindow_pending (s : State) : (closeClassWindow s).pending = s.pending := by unfold closeClassWindow; split <;> simp

@[simp] theorem sampleLoad_pins (a : Bool) (s : State) : (sampleLoad a s).pins = s.pins := by unfold sampleLoad; dsimp only; split <;> simp
@[simp] theorem sampleLoad_cfg (a : Bool) (s : State) : (sampleLoad a s).cfg = s.cfg := by unfold sampleLoad; dsimp only; split <;> simp
@[simp] theorem sampleLoad_sfe (a : Bool) (s : State) : (sampleLoad a s).sfe = s.sfe := by unfold sampleLoad; dsimp only; split <;> simp
@[simp] theorem sampleLoad_pcu (a : Bool) (s : State) : (sampleLoad a s).pcu = s.pcu := by unfold sampleLoad; dsimp only; split <;> simp
@[simp] theorem sampleLoad_sru (a : Bool) (s : State) : (sampleLoad a s).sru = s.sru := by unfold sampleLoad; dsimp only; split <;> simp
@[simp] theorem sampleLoad_pt (a : Bool) (s : State) : (sampleLoad a s).pt = s.pt := by unfold sampleLoad; dsimp only; split <;> simp
@[simp] theorem sampleLoad_dlu (a : Bool) (s : State) : (sampleLoad a s).dlu = s.dlu := by unfold sampleLoad; dsimp only; split <;> simp
@[simp] theorem sampleLoad_btq (a : Bool) (s : State) : (sampleLoad a s).btq = s.btq := by unfold sampleLoad; dsimp only; split <;> simp
@[simp] theorem sampleLoad_tlu (a : Bool) (s : State) : (sampleLoad a s).tlu = s.tlu := by unfold sampleLoad; dsimp only; split <;> simp
@[simp] theorem sampleLoad_csc (a : Bool) (s : State) : (sampleLoad a s).csc = s.csc := by unfold sampleLoad; dsimp only; split <;> simp
@[simp] theorem sampleLoad_vos (a : Bool) (s : State) : (sampleLoad a s).vos = s.vos := by unfold sampleLoad; dsimp only; split <;> simp
@[simp] theorem sampleLoad_pending (a : Bool) (s : State) : (sampleLoad a s).pending = s.pending := by unfold sampleLoad; dsimp only; split <;> simp

@[simp] theorem readSides_pins (s : State) : (readSides s).pins = s.pins := by simp [readSides]
@[simp] theorem readSides_cfg (s : State) : (readSides s).cfg = s.cfg := by simp [readSides]
@[simp] theorem readSides_sfe (s : State) : (readSides s).sfe = s.sfe := by simp [readSides]
@[simp] theorem readSides_pcu (s : State) : (readSides s).pcu = s.pcu := by simp [readSides]
@[simp] theorem readSides_pt (s : State) : (readSides s).pt = s.pt := by simp [readSides]
@[simp] theorem readSides_dlu (s : State) : (readSides s).dlu = s.dlu := by simp [readSides]
@[simp] theorem readSides_dlm (s : State) : (readSides s).dlm = s.dlm := by simp [readSides]
@[simp] theorem readSides_btq (s : State) : (readSides s).btq = s.btq := by simp [readSides]
@[simp] theorem readSides_tlu (s : State) : (readSides s).tlu = s.tlu := by simp [readSides]
@[simp] theorem readSides_csc (s : State) : (readSides s).csc = s.csc := by simp [readSides]
@[simp] theorem readSides_vos (s : State) : (readSides s).vos = s.vos := by simp [readSides]
@[simp] theorem readSides_pending (s : State) : (readSides s).pending = s.pending := by simp [readSides]

@[simp] theorem scanChannels_pins (x : Scan) (s : State) : (scanChannels x s).pins = s.pins := by simp [scanChannels]
@[simp] theorem scanChannels_cfg (x : Scan) (s : State) : (scanChannels x s).cfg = s.cfg := by simp [scanChannels]
@[simp] theorem scanChannels_pcu (x : Scan) (s : State) : (scanChannels x s).pcu = s.pcu := by simp [scanChannels]
@[simp] theorem scanChannels_sru (x : Scan) (s : State) : (scanChannels x s).sru = s.sru := by simp [scanChannels]
@[simp] theorem scanChannels_pt (x : Scan) (s : State) : (scanChannels x s).pt = s.pt := by simp [scanChannels]
@[simp] theorem scanChannels_dlu (x : Scan) (s : State) : (scanChannels x s).dlu = s.dlu := by simp [scanChannels]
@[simp] theorem scanChannels_dlm (x : Scan) (s : State) : (scanChannels x s).dlm = s.dlm := by simp [scanChannels]
@[simp] theorem scanChannels_btq (x : Scan) (s : State) : (scanChannels x s).btq = s.btq := by simp [scanChannels]
@[simp] theorem scanChannels_tlu (x : Scan) (s : State) : (scanChannels x s).tlu = s.tlu := by simp [scanChannels]
@[simp] theorem scanChannels_csc (x : Scan) (s : State) : (scanChannels x s).csc = s.csc := by simp [scanChannels]
@[simp] theorem scanChannels_pending (x : Scan) (s : State) : (scanChannels x s).pending = s.pending := by simp [scanChannels]

@[simp] theorem setBeltDrive_pins (d : Nat) (s : State) : (setBeltDrive d s).pins = s.pins := by rfl
@[simp] theorem setBeltDrive_cfg (d : Nat) (s : State) : (setBeltDrive d s).cfg = s.cfg := by rfl
@[simp] theorem setBeltDrive_sfe (d : Nat) (s : State) : (setBeltDrive d s).sfe = s.sfe := by rfl
@[simp] theorem setBeltDrive_pcu (d : Nat) (s : State) : (setBeltDrive d s).pcu = s.pcu := by rfl
@[simp] theorem setBeltDrive_sru (d : Nat) (s : State) : (setBeltDrive d s).sru = s.sru := by rfl
@[simp] theorem setBeltDrive_pt (d : Nat) (s : State) : (setBeltDrive d s).pt = s.pt := by rfl
@[simp] theorem setBeltDrive_dlu (d : Nat) (s : State) : (setBeltDrive d s).dlu = s.dlu := by rfl
@[simp] theorem setBeltDrive_dlm (d : Nat) (s : State) : (setBeltDrive d s).dlm = s.dlm := by rfl
@[simp] theorem setBeltDrive_tlu (d : Nat) (s : State) : (setBeltDrive d s).tlu = s.tlu := by rfl
@[simp] theorem setBeltDrive_csc (d : Nat) (s : State) : (setBeltDrive d s).csc = s.csc := by rfl
@[simp] theorem setBeltDrive_li (d : Nat) (s : State) : (setBeltDrive d s).li = s.li := by rfl
@[simp] theorem setBeltDrive_pending (d : Nat) (s : State) : (setBeltDrive d s).pending = s.pending := by rfl

@[simp] theorem workOutPause_pins (s : State) : (workOutPause s).pins = s.pins := by unfold workOutPause; dsimp only; split <;> simp
@[simp] theorem workOutPause_cfg (s : State) : (workOutPause s).cfg = s.cfg := by unfold workOutPause; dsimp only; split <;> simp
@[simp] theorem workOutPause_sfe (s : State) : (workOutPause s).sfe = s.sfe := by unfold workOutPause; dsimp only; split <;> simp
@[simp] theorem workOutPause_pcu (s : State) : (workOutPause s).pcu = s.pcu := by unfold workOutPause; dsimp only; split <;> simp
@[simp] theorem workOutPause_sru (s : State) : (workOutPause s).sru = s.sru := by unfold workOutPause; dsimp only; split <;> simp
@[simp] theorem workOutPause_pt (s : State) : (workOutPause s).pt = s.pt := by unfold workOutPause; dsimp only; split <;> simp
@[simp] theorem workOutPause_dlu (s : State) : (workOutPause s).dlu = s.dlu := by unfold workOutPause; dsimp only; split <;> simp
@[simp] theorem workOutPause_dlm (s : State) : (workOutPause s).dlm = s.dlm := by unfold workOutPause; dsimp only; split <;> simp
@[simp] theorem workOutPause_tlu (s : State) : (workOutPause s).tlu = s.tlu := by unfold workOutPause; dsimp only; split <;> simp
@[simp] theorem workOutPause_csc (s : State) : (workOutPause s).csc = s.csc := by unfold workOutPause; dsimp only; split <;> simp
@[simp] theorem workOutPause_pending (s : State) : (workOutPause s).pending = s.pending := by unfold workOutPause; dsimp only; split <;> simp

@[simp] theorem spillVolume_pins (v : Nat) (s : State) : (spillVolume v s).pins = s.pins := by unfold spillVolume; dsimp only; split <;> simp
@[simp] theorem spillVolume_cfg (v : Nat) (s : State) : (spillVolume v s).cfg = s.cfg := by unfold spillVolume; dsimp only; split <;> simp
@[simp] theorem spillVolume_sfe (v : Nat) (s : State) : (spillVolume v s).sfe = s.sfe := by unfold spillVolume; dsimp only; split <;> simp
@[simp] theorem spillVolume_pcu (v : Nat) (s : State) : (spillVolume v s).pcu = s.pcu := by unfold spillVolume; dsimp only; split <;> simp
@[simp] theorem spillVolume_sru (v : Nat) (s : State) : (spillVolume v s).sru = s.sru := by unfold spillVolume; dsimp only; split <;> simp
@[simp] theorem spillVolume_pt (v : Nat) (s : State) : (spillVolume v s).pt = s.pt := by unfold spillVolume; dsimp only; split <;> simp
@[simp] theorem spillVolume_dlu (v : Nat) (s : State) : (spillVolume v s).dlu = s.dlu := by unfold spillVolume; dsimp only; split <;> simp
@[simp] theorem spillVolume_dlm (v : Nat) (s : State) : (spillVolume v s).dlm = s.dlm := by unfold spillVolume; dsimp only; split <;> simp
@[simp] theorem spillVolume_tlu (v : Nat) (s : State) : (spillVolume v s).tlu = s.tlu := by unfold spillVolume; dsimp only; split <;> simp
@[simp] theorem spillVolume_csc (v : Nat) (s : State) : (spillVolume v s).csc = s.csc := by unfold spillVolume; dsimp only; split <;> simp
@[simp] theorem spillVolume_vos (v : Nat) (s : State) : (spillVolume v s).vos = s.vos := by unfold spillVolume; dsimp only; split <;> simp
@[simp] theorem spillVolume_pending (v : Nat) (s : State) : (spillVolume v s).pending = s.pending := by unfold spillVolume; dsimp only; split <;> simp

@[simp] theorem predictClosing_pins (s : State) : (predictClosing s).pins = s.pins := by unfold predictClosing; split; rfl; split <;> simp
@[simp] theorem predictClosing_cfg (s : State) : (predictClosing s).cfg = s.cfg := by unfold predictClosing; split; rfl; split <;> simp
@[simp] theorem predictClosing_sfe (s : State) : (predictClosing s).sfe = s.sfe := by unfold predictClosing; split; rfl; split <;> simp
@[simp] theorem predictClosing_pcu (s : State) : (predictClosing s).pcu = s.pcu := by unfold predictClosing; split; rfl; split <;> simp
@[simp] theorem predictClosing_sru (s : State) : (predictClosing s).sru = s.sru := by unfold predictClosing; split; rfl; split <;> simp
@[simp] theorem predictClosing_pt (s : State) : (predictClosing s).pt = s.pt := by unfold predictClosing; split; rfl; split <;> simp
@[simp] theorem predictClosing_dlu (s : State) : (predictClosing s).dlu = s.dlu := by unfold predictClosing; split; rfl; split <;> simp
@[simp] theorem predictClosing_dlm (s : State) : (predictClosing s).dlm = s.dlm := by unfold predictClosing; split; rfl; split <;> simp
@[simp] theorem predictClosing_csc (s : State) : (predictClosing s).csc = s.csc := by unfold predictClosing; split; rfl; split <;> simp
@[simp] theorem predictClosing_pending (s : State) : (predictClosing s).pending = s.pending := by unfold predictClosing; split; rfl; split <;> simp

@[simp] theorem closeTruck_pins (r : CloseReason) (s : State) : (closeTruck r s).pins = s.pins := by unfold closeTruck; split <;> simp
@[simp] theorem closeTruck_cfg (r : CloseReason) (s : State) : (closeTruck r s).cfg = s.cfg := by unfold closeTruck; split <;> simp
@[simp] theorem closeTruck_sfe (r : CloseReason) (s : State) : (closeTruck r s).sfe = s.sfe := by unfold closeTruck; split <;> simp
@[simp] theorem closeTruck_pcu (r : CloseReason) (s : State) : (closeTruck r s).pcu = s.pcu := by unfold closeTruck; split <;> simp
@[simp] theorem closeTruck_sru (r : CloseReason) (s : State) : (closeTruck r s).sru = s.sru := by unfold closeTruck; split <;> simp
@[simp] theorem closeTruck_pt (r : CloseReason) (s : State) : (closeTruck r s).pt = s.pt := by unfold closeTruck; split <;> simp
@[simp] theorem closeTruck_dlu (r : CloseReason) (s : State) : (closeTruck r s).dlu = s.dlu := by unfold closeTruck; split <;> simp
@[simp] theorem closeTruck_dlm (r : CloseReason) (s : State) : (closeTruck r s).dlm = s.dlm := by unfold closeTruck; split <;> simp
@[simp] theorem closeTruck_btq (r : CloseReason) (s : State) : (closeTruck r s).btq = s.btq := by unfold closeTruck; split <;> simp
@[simp] theorem closeTruck_csc (r : CloseReason) (s : State) : (closeTruck r s).csc = s.csc := by unfold closeTruck; split <;> simp
@[simp] theorem closeTruck_vos (r : CloseReason) (s : State) : (closeTruck r s).vos = s.vos := by unfold closeTruck; split <;> simp
@[simp] theorem closeTruck_li (r : CloseReason) (s : State) : (closeTruck r s).li = s.li := by unfold closeTruck; split <;> simp
@[simp] theorem closeTruck_pending (r : CloseReason) (s : State) : (closeTruck r s).pending = s.pending := by unfold closeTruck; split <;> simp

@[simp] theorem judgeClose_pins (s : State) : (judgeClose s).pins = s.pins := by unfold judgeClose; split <;> simp
@[simp] theorem judgeClose_cfg (s : State) : (judgeClose s).cfg = s.cfg := by unfold judgeClose; split <;> simp
@[simp] theorem judgeClose_sfe (s : State) : (judgeClose s).sfe = s.sfe := by unfold judgeClose; split <;> simp
@[simp] theorem judgeClose_pcu (s : State) : (judgeClose s).pcu = s.pcu := by unfold judgeClose; split <;> simp
@[simp] theorem judgeClose_sru (s : State) : (judgeClose s).sru = s.sru := by unfold judgeClose; split <;> simp
@[simp] theorem judgeClose_pt (s : State) : (judgeClose s).pt = s.pt := by unfold judgeClose; split <;> simp
@[simp] theorem judgeClose_dlu (s : State) : (judgeClose s).dlu = s.dlu := by unfold judgeClose; split <;> simp
@[simp] theorem judgeClose_dlm (s : State) : (judgeClose s).dlm = s.dlm := by unfold judgeClose; split <;> simp
@[simp] theorem judgeClose_csc (s : State) : (judgeClose s).csc = s.csc := by unfold judgeClose; split <;> simp
@[simp] theorem judgeClose_pending (s : State) : (judgeClose s).pending = s.pending := by unfold judgeClose; split <;> simp

@[simp] theorem discharge_pins (s : State) : (discharge s).pins = s.pins := by unfold discharge; dsimp only; split <;> simp
@[simp] theorem discharge_cfg (s : State) : (discharge s).cfg = s.cfg := by unfold discharge; dsimp only; split <;> simp
@[simp] theorem discharge_sfe (s : State) : (discharge s).sfe = s.sfe := by unfold discharge; dsimp only; split <;> simp
@[simp] theorem discharge_pcu (s : State) : (discharge s).pcu = s.pcu := by unfold discharge; dsimp only; split <;> simp
@[simp] theorem discharge_sru (s : State) : (discharge s).sru = s.sru := by unfold discharge; dsimp only; split <;> simp
@[simp] theorem discharge_pt (s : State) : (discharge s).pt = s.pt := by unfold discharge; dsimp only; split <;> simp
@[simp] theorem discharge_dlu (s : State) : (discharge s).dlu = s.dlu := by unfold discharge; dsimp only; split <;> simp
@[simp] theorem discharge_dlm (s : State) : (discharge s).dlm = s.dlm := by unfold discharge; dsimp only; split <;> simp
@[simp] theorem discharge_csc (s : State) : (discharge s).csc = s.csc := by unfold discharge; dsimp only; split <;> simp
@[simp] theorem discharge_vos (s : State) : (discharge s).vos = s.vos := by unfold discharge; dsimp only; split <;> simp
@[simp] theorem discharge_pending (s : State) : (discharge s).pending = s.pending := by unfold discharge; dsimp only; split <;> simp

@[simp] theorem shift_pins (s : State) : (shift s).pins = s.pins := by simp [shift]
@[simp] theorem shift_cfg (s : State) : (shift s).cfg = s.cfg := by simp [shift]
@[simp] theorem shift_sfe (s : State) : (shift s).sfe = s.sfe := by simp [shift]
@[simp] theorem shift_pcu (s : State) : (shift s).pcu = s.pcu := by simp [shift]
@[simp] theorem shift_sru (s : State) : (shift s).sru = s.sru := by simp [shift]
@[simp] theorem shift_pt (s : State) : (shift s).pt = s.pt := by simp [shift]
@[simp] theorem shift_dlu (s : State) : (shift s).dlu = s.dlu := by simp [shift]
@[simp] theorem shift_dlm (s : State) : (shift s).dlm = s.dlm := by simp [shift]
@[simp] theorem shift_csc (s : State) : (shift s).csc = s.csc := by simp [shift]
@[simp] theorem shift_pending (s : State) : (shift s).pending = s.pending := by simp [shift]
@[simp] theorem shifts_pins (n : Nat) : ∀ s : State, (shifts n s).pins = s.pins := by
  induction n with
  | zero => intro s; rfl
  | succ n ih => intro s; simp [shifts, ih]
@[simp] theorem shifts_cfg (n : Nat) : ∀ s : State, (shifts n s).cfg = s.cfg := by
  induction n with
  | zero => intro s; rfl
  | succ n ih => intro s; simp [shifts, ih]
@[simp] theorem shifts_sfe (n : Nat) : ∀ s : State, (shifts n s).sfe = s.sfe := by
  induction n with
  | zero => intro s; rfl
  | succ n ih => intro s; simp [shifts, ih]
@[simp] theorem shifts_pcu (n : Nat) : ∀ s : State, (shifts n s).pcu = s.pcu := by
  induction n with
  | zero => intro s; rfl
  | succ n ih => intro s; simp [shifts, ih]
@[simp] theorem shifts_sru (n : Nat) : ∀ s : State, (shifts n s).sru = s.sru := by
  induction n with
  | zero => intro s; rfl
  | succ n ih => intro s; simp [shifts, ih]
@[simp] theorem shifts_pt (n : Nat) : ∀ s : State, (shifts n s).pt = s.pt := by
  induction n with
  | zero => intro s; rfl
  | succ n ih => intro s; simp [shifts, ih]
@[simp] theorem shifts_dlu (n : Nat) : ∀ s : State, (shifts n s).dlu = s.dlu := by
  induction n with
  | zero => intro s; rfl
  | succ n ih => intro s; simp [shifts, ih]
@[simp] theorem shifts_dlm (n : Nat) : ∀ s : State, (shifts n s).dlm = s.dlm := by
  induction n with
  | zero => intro s; rfl
  | succ n ih => intro s; simp [shifts, ih]
@[simp] theorem shifts_csc (n : Nat) : ∀ s : State, (shifts n s).csc = s.csc := by
  induction n with
  | zero => intro s; rfl
  | succ n ih => intro s; simp [shifts, ih]
@[simp] theorem shifts_pending (n : Nat) : ∀ s : State, (shifts n s).pending = s.pending := by
  induction n with
  | zero => intro s; rfl
  | succ n ih => intro s; simp [shifts, ih]

@[simp] theorem beltTravel_pins (d : Nat) (s : State) : (beltTravel d s).pins = s.pins := by simp [beltTravel]
@[simp] theorem beltTravel_cfg (d : Nat) (s : State) : (beltTravel d s).cfg = s.cfg := by simp [beltTravel]
@[simp] theorem beltTravel_sfe (d : Nat) (s : State) : (beltTravel d s).sfe = s.sfe := by simp [beltTravel]
@[simp] theorem beltTravel_pcu (d : Nat) (s : State) : (beltTravel d s).pcu = s.pcu := by simp [beltTravel]
@[simp] theorem beltTravel_sru (d : Nat) (s : State) : (beltTravel d s).sru = s.sru := by simp [beltTravel]
@[simp] theorem beltTravel_pt (d : Nat) (s : State) : (beltTravel d s).pt = s.pt := by simp [beltTravel]
@[simp] theorem beltTravel_dlu (d : Nat) (s : State) : (beltTravel d s).dlu = s.dlu := by simp [beltTravel]
@[simp] theorem beltTravel_dlm (d : Nat) (s : State) : (beltTravel d s).dlm = s.dlm := by simp [beltTravel]
@[simp] theorem beltTravel_csc (d : Nat) (s : State) : (beltTravel d s).csc = s.csc := by simp [beltTravel]
@[simp] theorem beltTravel_pending (d : Nat) (s : State) : (beltTravel d s).pending = s.pending := by simp [beltTravel]

@[simp] theorem takeIn_pins (v c : Nat) (s : State) : (takeIn v c s).pins = s.pins := by simp [takeIn]
@[simp] theorem takeIn_cfg (v c : Nat) (s : State) : (takeIn v c s).cfg = s.cfg := by simp [takeIn]
@[simp] theorem takeIn_sfe (v c : Nat) (s : State) : (takeIn v c s).sfe = s.sfe := by simp [takeIn]
@[simp] theorem takeIn_pcu (v c : Nat) (s : State) : (takeIn v c s).pcu = s.pcu := by simp [takeIn]
@[simp] theorem takeIn_sru (v c : Nat) (s : State) : (takeIn v c s).sru = s.sru := by simp [takeIn]
@[simp] theorem takeIn_pt (v c : Nat) (s : State) : (takeIn v c s).pt = s.pt := by simp [takeIn]
@[simp] theorem takeIn_dlu (v c : Nat) (s : State) : (takeIn v c s).dlu = s.dlu := by simp [takeIn]
@[simp] theorem takeIn_dlm (v c : Nat) (s : State) : (takeIn v c s).dlm = s.dlm := by simp [takeIn]
@[simp] theorem takeIn_csc (v c : Nat) (s : State) : (takeIn v c s).csc = s.csc := by simp [takeIn]
@[simp] theorem takeIn_pending (v c : Nat) (s : State) : (takeIn v c s).pending = s.pending := by simp [takeIn]

@[simp] theorem intake_pins (d : Nat) (s : State) : (intake d s).pins = s.pins := by unfold intake; split <;> simp
@[simp] theorem intake_cfg (d : Nat) (s : State) : (intake d s).cfg = s.cfg := by unfold intake; split <;> simp
@[simp] theorem intake_sfe (d : Nat) (s : State) : (intake d s).sfe = s.sfe := by unfold intake; split <;> simp
@[simp] theorem intake_pcu (d : Nat) (s : State) : (intake d s).pcu = s.pcu := by unfold intake; split <;> simp
@[simp] theorem intake_sru (d : Nat) (s : State) : (intake d s).sru = s.sru := by unfold intake; split <;> simp
@[simp] theorem intake_pt (d : Nat) (s : State) : (intake d s).pt = s.pt := by unfold intake; split <;> simp
@[simp] theorem intake_dlu (d : Nat) (s : State) : (intake d s).dlu = s.dlu := by unfold intake; split <;> simp
@[simp] theorem intake_dlm (d : Nat) (s : State) : (intake d s).dlm = s.dlm := by unfold intake; split <;> simp
@[simp] theorem intake_csc (d : Nat) (s : State) : (intake d s).csc = s.csc := by unfold intake; split <;> simp
@[simp] theorem intake_pending (d : Nat) (s : State) : (intake d s).pending = s.pending := by unfold intake; split <;> simp

@[simp] theorem applyCapacity_pins (s : State) : (applyCapacity s).pins = s.pins := by simp [applyCapacity]
@[simp] theorem applyCapacity_cfg (s : State) : (applyCapacity s).cfg = s.cfg := by simp [applyCapacity]
@[simp] theorem applyCapacity_sfe (s : State) : (applyCapacity s).sfe = s.sfe := by simp [applyCapacity]
@[simp] theorem applyCapacity_pcu (s : State) : (applyCapacity s).pcu = s.pcu := by simp [applyCapacity]
@[simp] theorem applyCapacity_sru (s : State) : (applyCapacity s).sru = s.sru := by simp [applyCapacity]
@[simp] theorem applyCapacity_pt (s : State) : (applyCapacity s).pt = s.pt := by simp [applyCapacity]
@[simp] theorem applyCapacity_dlu (s : State) : (applyCapacity s).dlu = s.dlu := by simp [applyCapacity]
@[simp] theorem applyCapacity_dlm (s : State) : (applyCapacity s).dlm = s.dlm := by simp [applyCapacity]
@[simp] theorem applyCapacity_csc (s : State) : (applyCapacity s).csc = s.csc := by simp [applyCapacity]
@[simp] theorem applyCapacity_pending (s : State) : (applyCapacity s).pending = s.pending := by simp [applyCapacity]

@[simp] theorem callBeltStall_pins (s : State) : (callBeltStall s).pins = s.pins := by simp [callBeltStall]
@[simp] theorem callBeltStall_cfg (s : State) : (callBeltStall s).cfg = s.cfg := by simp [callBeltStall]
@[simp] theorem callBeltStall_sfe (s : State) : (callBeltStall s).sfe = s.sfe := by simp [callBeltStall]
@[simp] theorem callBeltStall_pcu (s : State) : (callBeltStall s).pcu = s.pcu := by simp [callBeltStall]
@[simp] theorem callBeltStall_sru (s : State) : (callBeltStall s).sru = s.sru := by simp [callBeltStall]
@[simp] theorem callBeltStall_pt (s : State) : (callBeltStall s).pt = s.pt := by simp [callBeltStall]
@[simp] theorem callBeltStall_dlu (s : State) : (callBeltStall s).dlu = s.dlu := by simp [callBeltStall]
@[simp] theorem callBeltStall_dlm (s : State) : (callBeltStall s).dlm = s.dlm := by simp [callBeltStall]
@[simp] theorem callBeltStall_tlu (s : State) : (callBeltStall s).tlu = s.tlu := by simp [callBeltStall]
@[simp] theorem callBeltStall_csc (s : State) : (callBeltStall s).csc = s.csc := by simp [callBeltStall]
@[simp] theorem callBeltStall_pending (s : State) : (callBeltStall s).pending = s.pending := by simp [callBeltStall]

@[simp] theorem settleBeltStall_pins (s : State) : (settleBeltStall s).pins = s.pins := by unfold settleBeltStall; split <;> simp
@[simp] theorem settleBeltStall_cfg (s : State) : (settleBeltStall s).cfg = s.cfg := by unfold settleBeltStall; split <;> simp
@[simp] theorem settleBeltStall_sfe (s : State) : (settleBeltStall s).sfe = s.sfe := by unfold settleBeltStall; split <;> simp
@[simp] theorem settleBeltStall_pcu (s : State) : (settleBeltStall s).pcu = s.pcu := by unfold settleBeltStall; split <;> simp
@[simp] theorem settleBeltStall_sru (s : State) : (settleBeltStall s).sru = s.sru := by unfold settleBeltStall; split <;> simp
@[simp] theorem settleBeltStall_pt (s : State) : (settleBeltStall s).pt = s.pt := by unfold settleBeltStall; split <;> simp
@[simp] theorem settleBeltStall_dlu (s : State) : (settleBeltStall s).dlu = s.dlu := by unfold settleBeltStall; split <;> simp
@[simp] theorem settleBeltStall_dlm (s : State) : (settleBeltStall s).dlm = s.dlm := by unfold settleBeltStall; split <;> simp
@[simp] theorem settleBeltStall_tlu (s : State) : (settleBeltStall s).tlu = s.tlu := by unfold settleBeltStall; split <;> simp
@[simp] theorem settleBeltStall_csc (s : State) : (settleBeltStall s).csc = s.csc := by unfold settleBeltStall; split <;> simp
@[simp] theorem settleBeltStall_pending (s : State) : (settleBeltStall s).pending = s.pending := by unfold settleBeltStall; split <;> simp

@[simp] theorem testBeltStall_pins (a : Bool) (s : State) : (testBeltStall a s).pins = s.pins := by unfold testBeltStall; dsimp only; split <;> simp
@[simp] theorem testBeltStall_cfg (a : Bool) (s : State) : (testBeltStall a s).cfg = s.cfg := by unfold testBeltStall; dsimp only; split <;> simp
@[simp] theorem testBeltStall_sfe (a : Bool) (s : State) : (testBeltStall a s).sfe = s.sfe := by unfold testBeltStall; dsimp only; split <;> simp
@[simp] theorem testBeltStall_pcu (a : Bool) (s : State) : (testBeltStall a s).pcu = s.pcu := by unfold testBeltStall; dsimp only; split <;> simp
@[simp] theorem testBeltStall_sru (a : Bool) (s : State) : (testBeltStall a s).sru = s.sru := by unfold testBeltStall; dsimp only; split <;> simp
@[simp] theorem testBeltStall_pt (a : Bool) (s : State) : (testBeltStall a s).pt = s.pt := by unfold testBeltStall; dsimp only; split <;> simp
@[simp] theorem testBeltStall_dlu (a : Bool) (s : State) : (testBeltStall a s).dlu = s.dlu := by unfold testBeltStall; dsimp only; split <;> simp
@[simp] theorem testBeltStall_dlm (a : Bool) (s : State) : (testBeltStall a s).dlm = s.dlm := by unfold testBeltStall; dsimp only; split <;> simp
@[simp] theorem testBeltStall_tlu (a : Bool) (s : State) : (testBeltStall a s).tlu = s.tlu := by unfold testBeltStall; dsimp only; split <;> simp
@[simp] theorem testBeltStall_csc (a : Bool) (s : State) : (testBeltStall a s).csc = s.csc := by unfold testBeltStall; dsimp only; split <;> simp
@[simp] theorem testBeltStall_pending (a : Bool) (s : State) : (testBeltStall a s).pending = s.pending := by unfold testBeltStall; dsimp only; split <;> simp

@[simp] theorem formBeltDrive_pins (s : State) : (formBeltDrive s).pins = s.pins := by simp [formBeltDrive]
@[simp] theorem formBeltDrive_cfg (s : State) : (formBeltDrive s).cfg = s.cfg := by simp [formBeltDrive]
@[simp] theorem formBeltDrive_sfe (s : State) : (formBeltDrive s).sfe = s.sfe := by simp [formBeltDrive]
@[simp] theorem formBeltDrive_pcu (s : State) : (formBeltDrive s).pcu = s.pcu := by simp [formBeltDrive]
@[simp] theorem formBeltDrive_sru (s : State) : (formBeltDrive s).sru = s.sru := by simp [formBeltDrive]
@[simp] theorem formBeltDrive_pt (s : State) : (formBeltDrive s).pt = s.pt := by simp [formBeltDrive]
@[simp] theorem formBeltDrive_dlu (s : State) : (formBeltDrive s).dlu = s.dlu := by simp [formBeltDrive]
@[simp] theorem formBeltDrive_dlm (s : State) : (formBeltDrive s).dlm = s.dlm := by simp [formBeltDrive]
@[simp] theorem formBeltDrive_tlu (s : State) : (formBeltDrive s).tlu = s.tlu := by simp [formBeltDrive]
@[simp] theorem formBeltDrive_csc (s : State) : (formBeltDrive s).csc = s.csc := by simp [formBeltDrive]
@[simp] theorem formBeltDrive_li (s : State) : (formBeltDrive s).li = s.li := by simp [formBeltDrive]
@[simp] theorem formBeltDrive_pending (s : State) : (formBeltDrive s).pending = s.pending := by simp [formBeltDrive]

@[simp] theorem beltSpeedUpdate_pins (a : Bool) (s : State) : (beltSpeedUpdate a s).pins = s.pins := by simp [beltSpeedUpdate, rotateBins]
@[simp] theorem beltSpeedUpdate_cfg (a : Bool) (s : State) : (beltSpeedUpdate a s).cfg = s.cfg := by simp [beltSpeedUpdate, rotateBins]
@[simp] theorem beltSpeedUpdate_sfe (a : Bool) (s : State) : (beltSpeedUpdate a s).sfe = s.sfe := by simp [beltSpeedUpdate, rotateBins]
@[simp] theorem beltSpeedUpdate_pcu (a : Bool) (s : State) : (beltSpeedUpdate a s).pcu = s.pcu := by simp [beltSpeedUpdate, rotateBins]
@[simp] theorem beltSpeedUpdate_sru (a : Bool) (s : State) : (beltSpeedUpdate a s).sru = s.sru := by simp [beltSpeedUpdate, rotateBins]
@[simp] theorem beltSpeedUpdate_pt (a : Bool) (s : State) : (beltSpeedUpdate a s).pt = s.pt := by simp [beltSpeedUpdate, rotateBins]
@[simp] theorem beltSpeedUpdate_dlu (a : Bool) (s : State) : (beltSpeedUpdate a s).dlu = s.dlu := by simp [beltSpeedUpdate, rotateBins]
@[simp] theorem beltSpeedUpdate_dlm (a : Bool) (s : State) : (beltSpeedUpdate a s).dlm = s.dlm := by simp [beltSpeedUpdate, rotateBins]
@[simp] theorem beltSpeedUpdate_tlu (a : Bool) (s : State) : (beltSpeedUpdate a s).tlu = s.tlu := by simp [beltSpeedUpdate, rotateBins]
@[simp] theorem beltSpeedUpdate_csc (a : Bool) (s : State) : (beltSpeedUpdate a s).csc = s.csc := by simp [beltSpeedUpdate, rotateBins]
@[simp] theorem beltSpeedUpdate_pending (a : Bool) (s : State) : (beltSpeedUpdate a s).pending = s.pending := by simp [beltSpeedUpdate, rotateBins]

@[simp] theorem rampSides_pins (d : Nat) (s : State) : (rampSides d s).pins = s.pins := by unfold rampSides; split <;> simp
@[simp] theorem rampSides_cfg (d : Nat) (s : State) : (rampSides d s).cfg = s.cfg := by unfold rampSides; split <;> simp
@[simp] theorem rampSides_sfe (d : Nat) (s : State) : (rampSides d s).sfe = s.sfe := by unfold rampSides; split <;> simp
@[simp] theorem rampSides_pcu (d : Nat) (s : State) : (rampSides d s).pcu = s.pcu := by unfold rampSides; split <;> simp
@[simp] theorem rampSides_sru (d : Nat) (s : State) : (rampSides d s).sru = s.sru := by unfold rampSides; split <;> simp
@[simp] theorem rampSides_pt (d : Nat) (s : State) : (rampSides d s).pt = s.pt := by unfold rampSides; split <;> simp
@[simp] theorem rampSides_dlm (d : Nat) (s : State) : (rampSides d s).dlm = s.dlm := by unfold rampSides; split <;> simp
@[simp] theorem rampSides_btq (d : Nat) (s : State) : (rampSides d s).btq = s.btq := by unfold rampSides; split <;> simp
@[simp] theorem rampSides_tlu (d : Nat) (s : State) : (rampSides d s).tlu = s.tlu := by unfold rampSides; split <;> simp
@[simp] theorem rampSides_csc (d : Nat) (s : State) : (rampSides d s).csc = s.csc := by unfold rampSides; split <;> simp
@[simp] theorem rampSides_vos (d : Nat) (s : State) : (rampSides d s).vos = s.vos := by unfold rampSides; split <;> simp
@[simp] theorem rampSides_li (d : Nat) (s : State) : (rampSides d s).li = s.li := by unfold rampSides; split <;> simp
@[simp] theorem rampSides_pending (d : Nat) (s : State) : (rampSides d s).pending = s.pending := by unfold rampSides; split <;> simp

@[simp] theorem updateLoops_pins (s : State) : (updateLoops s).pins = s.pins := by simp [updateLoops]
@[simp] theorem updateLoops_cfg (s : State) : (updateLoops s).cfg = s.cfg := by simp [updateLoops]
@[simp] theorem updateLoops_sfe (s : State) : (updateLoops s).sfe = s.sfe := by simp [updateLoops]
@[simp] theorem updateLoops_pcu (s : State) : (updateLoops s).pcu = s.pcu := by simp [updateLoops]
@[simp] theorem updateLoops_sru (s : State) : (updateLoops s).sru = s.sru := by simp [updateLoops]
@[simp] theorem updateLoops_pt (s : State) : (updateLoops s).pt = s.pt := by simp [updateLoops]
@[simp] theorem updateLoops_dlm (s : State) : (updateLoops s).dlm = s.dlm := by simp [updateLoops]
@[simp] theorem updateLoops_btq (s : State) : (updateLoops s).btq = s.btq := by simp [updateLoops]
@[simp] theorem updateLoops_tlu (s : State) : (updateLoops s).tlu = s.tlu := by simp [updateLoops]
@[simp] theorem updateLoops_csc (s : State) : (updateLoops s).csc = s.csc := by simp [updateLoops]
@[simp] theorem updateLoops_li (s : State) : (updateLoops s).li = s.li := by simp [updateLoops]
@[simp] theorem updateLoops_pending (s : State) : (updateLoops s).pending = s.pending := by simp [updateLoops]

@[simp] theorem settleLowSet_pins (s : State) : (settleLowSet s).pins = s.pins := by unfold settleLowSet; split <;> simp
@[simp] theorem settleLowSet_cfg (s : State) : (settleLowSet s).cfg = s.cfg := by unfold settleLowSet; split <;> simp
@[simp] theorem settleLowSet_sfe (s : State) : (settleLowSet s).sfe = s.sfe := by unfold settleLowSet; split <;> simp
@[simp] theorem settleLowSet_pcu (s : State) : (settleLowSet s).pcu = s.pcu := by unfold settleLowSet; split <;> simp
@[simp] theorem settleLowSet_sru (s : State) : (settleLowSet s).sru = s.sru := by unfold settleLowSet; split <;> simp
@[simp] theorem settleLowSet_pt (s : State) : (settleLowSet s).pt = s.pt := by unfold settleLowSet; split <;> simp
@[simp] theorem settleLowSet_dlu (s : State) : (settleLowSet s).dlu = s.dlu := by unfold settleLowSet; split <;> simp
@[simp] theorem settleLowSet_dlm (s : State) : (settleLowSet s).dlm = s.dlm := by unfold settleLowSet; split <;> simp
@[simp] theorem settleLowSet_btq (s : State) : (settleLowSet s).btq = s.btq := by unfold settleLowSet; split <;> simp
@[simp] theorem settleLowSet_tlu (s : State) : (settleLowSet s).tlu = s.tlu := by unfold settleLowSet; split <;> simp
@[simp] theorem settleLowSet_csc (s : State) : (settleLowSet s).csc = s.csc := by unfold settleLowSet; split <;> simp
@[simp] theorem settleLowSet_pending (s : State) : (settleLowSet s).pending = s.pending := by unfold settleLowSet; split <;> simp

@[simp] theorem settleLowClear_pins (s : State) : (settleLowClear s).pins = s.pins := by unfold settleLowClear; split <;> simp
@[simp] theorem settleLowClear_cfg (s : State) : (settleLowClear s).cfg = s.cfg := by unfold settleLowClear; split <;> simp
@[simp] theorem settleLowClear_sfe (s : State) : (settleLowClear s).sfe = s.sfe := by unfold settleLowClear; split <;> simp
@[simp] theorem settleLowClear_pcu (s : State) : (settleLowClear s).pcu = s.pcu := by unfold settleLowClear; split <;> simp
@[simp] theorem settleLowClear_sru (s : State) : (settleLowClear s).sru = s.sru := by unfold settleLowClear; split <;> simp
@[simp] theorem settleLowClear_pt (s : State) : (settleLowClear s).pt = s.pt := by unfold settleLowClear; split <;> simp
@[simp] theorem settleLowClear_dlu (s : State) : (settleLowClear s).dlu = s.dlu := by unfold settleLowClear; split <;> simp
@[simp] theorem settleLowClear_dlm (s : State) : (settleLowClear s).dlm = s.dlm := by unfold settleLowClear; split <;> simp
@[simp] theorem settleLowClear_btq (s : State) : (settleLowClear s).btq = s.btq := by unfold settleLowClear; split <;> simp
@[simp] theorem settleLowClear_tlu (s : State) : (settleLowClear s).tlu = s.tlu := by unfold settleLowClear; split <;> simp
@[simp] theorem settleLowClear_csc (s : State) : (settleLowClear s).csc = s.csc := by unfold settleLowClear; split <;> simp
@[simp] theorem settleLowClear_pending (s : State) : (settleLowClear s).pending = s.pending := by unfold settleLowClear; split <;> simp

@[simp] theorem countCutoff_pins (s : State) : (countCutoff s).pins = s.pins := by unfold countCutoff; dsimp only; split <;> split <;> rfl
@[simp] theorem countCutoff_cfg (s : State) : (countCutoff s).cfg = s.cfg := by unfold countCutoff; dsimp only; split <;> split <;> rfl
@[simp] theorem countCutoff_sfe (s : State) : (countCutoff s).sfe = s.sfe := by unfold countCutoff; dsimp only; split <;> split <;> rfl
@[simp] theorem countCutoff_pcu (s : State) : (countCutoff s).pcu = s.pcu := by unfold countCutoff; dsimp only; split <;> split <;> rfl
@[simp] theorem countCutoff_sru (s : State) : (countCutoff s).sru = s.sru := by unfold countCutoff; dsimp only; split <;> split <;> rfl
@[simp] theorem countCutoff_pt (s : State) : (countCutoff s).pt = s.pt := by unfold countCutoff; dsimp only; split <;> split <;> rfl
@[simp] theorem countCutoff_dlu (s : State) : (countCutoff s).dlu = s.dlu := by unfold countCutoff; dsimp only; split <;> split <;> rfl
@[simp] theorem countCutoff_dlm (s : State) : (countCutoff s).dlm = s.dlm := by unfold countCutoff; dsimp only; split <;> split <;> rfl
@[simp] theorem countCutoff_btq (s : State) : (countCutoff s).btq = s.btq := by unfold countCutoff; dsimp only; split <;> split <;> rfl
@[simp] theorem countCutoff_tlu (s : State) : (countCutoff s).tlu = s.tlu := by unfold countCutoff; dsimp only; split <;> split <;> rfl
@[simp] theorem countCutoff_li (s : State) : (countCutoff s).li = s.li := by unfold countCutoff; dsimp only; split <;> split <;> rfl
@[simp] theorem countCutoff_pending (s : State) : (countCutoff s).pending = s.pending := by unfold countCutoff; dsimp only; split <;> split <;> rfl

@[simp] theorem recordHold_pins (c : HoldCause) (s : State) : (recordHold c s).pins = s.pins := by simp [recordHold]
@[simp] theorem recordHold_cfg (c : HoldCause) (s : State) : (recordHold c s).cfg = s.cfg := by simp [recordHold]
@[simp] theorem recordHold_sfe (c : HoldCause) (s : State) : (recordHold c s).sfe = s.sfe := by simp [recordHold]
@[simp] theorem recordHold_pcu (c : HoldCause) (s : State) : (recordHold c s).pcu = s.pcu := by simp [recordHold]
@[simp] theorem recordHold_sru (c : HoldCause) (s : State) : (recordHold c s).sru = s.sru := by simp [recordHold]
@[simp] theorem recordHold_pt (c : HoldCause) (s : State) : (recordHold c s).pt = s.pt := by simp [recordHold]
@[simp] theorem recordHold_dlu (c : HoldCause) (s : State) : (recordHold c s).dlu = s.dlu := by simp [recordHold]
@[simp] theorem recordHold_dlm (c : HoldCause) (s : State) : (recordHold c s).dlm = s.dlm := by simp [recordHold]
@[simp] theorem recordHold_btq (c : HoldCause) (s : State) : (recordHold c s).btq = s.btq := by simp [recordHold]
@[simp] theorem recordHold_tlu (c : HoldCause) (s : State) : (recordHold c s).tlu = s.tlu := by simp [recordHold]
@[simp] theorem recordHold_vos (c : HoldCause) (s : State) : (recordHold c s).vos = s.vos := by simp [recordHold]
@[simp] theorem recordHold_pending (c : HoldCause) (s : State) : (recordHold c s).pending = s.pending := by simp [recordHold]

@[simp] theorem highChange_pins (a b : CutState) (s : State) : (highChange a b s).pins = s.pins := by unfold highChange; split <;> simp
@[simp] theorem highChange_cfg (a b : CutState) (s : State) : (highChange a b s).cfg = s.cfg := by unfold highChange; split <;> simp
@[simp] theorem highChange_sfe (a b : CutState) (s : State) : (highChange a b s).sfe = s.sfe := by unfold highChange; split <;> simp
@[simp] theorem highChange_sru (a b : CutState) (s : State) : (highChange a b s).sru = s.sru := by unfold highChange; split <;> simp
@[simp] theorem highChange_dlu (a b : CutState) (s : State) : (highChange a b s).dlu = s.dlu := by unfold highChange; split <;> simp
@[simp] theorem highChange_dlm (a b : CutState) (s : State) : (highChange a b s).dlm = s.dlm := by unfold highChange; split <;> simp
@[simp] theorem highChange_btq (a b : CutState) (s : State) : (highChange a b s).btq = s.btq := by unfold highChange; split <;> simp
@[simp] theorem highChange_tlu (a b : CutState) (s : State) : (highChange a b s).tlu = s.tlu := by unfold highChange; split <;> simp
@[simp] theorem highChange_csc (a b : CutState) (s : State) : (highChange a b s).csc = s.csc := by unfold highChange; split <;> simp
@[simp] theorem highChange_vos (a b : CutState) (s : State) : (highChange a b s).vos = s.vos := by unfold highChange; split <;> simp
@[simp] theorem highChange_pending (a b : CutState) (s : State) : (highChange a b s).pending = s.pending := by unfold highChange; split <;> simp

@[simp] theorem sfeChange_pins (a b : CutState) (s : State) : (sfeChange a b s).pins = s.pins := by unfold sfeChange; dsimp only; split <;> split <;> simp [removeSubstitutes]
@[simp] theorem sfeChange_cfg (a b : CutState) (s : State) : (sfeChange a b s).cfg = s.cfg := by unfold sfeChange; dsimp only; split <;> split <;> simp [removeSubstitutes]
@[simp] theorem sfeChange_pcu (a b : CutState) (s : State) : (sfeChange a b s).pcu = s.pcu := by unfold sfeChange; dsimp only; split <;> split <;> simp [removeSubstitutes]
@[simp] theorem sfeChange_sru (a b : CutState) (s : State) : (sfeChange a b s).sru = s.sru := by unfold sfeChange; dsimp only; split <;> split <;> simp [removeSubstitutes]
@[simp] theorem sfeChange_pt (a b : CutState) (s : State) : (sfeChange a b s).pt = s.pt := by unfold sfeChange; dsimp only; split <;> split <;> simp [removeSubstitutes]
@[simp] theorem sfeChange_dlu (a b : CutState) (s : State) : (sfeChange a b s).dlu = s.dlu := by unfold sfeChange; dsimp only; split <;> split <;> simp [removeSubstitutes]
@[simp] theorem sfeChange_dlm (a b : CutState) (s : State) : (sfeChange a b s).dlm = s.dlm := by unfold sfeChange; dsimp only; split <;> split <;> simp [removeSubstitutes]
@[simp] theorem sfeChange_btq (a b : CutState) (s : State) : (sfeChange a b s).btq = s.btq := by unfold sfeChange; dsimp only; split <;> split <;> simp [removeSubstitutes]
@[simp] theorem sfeChange_tlu (a b : CutState) (s : State) : (sfeChange a b s).tlu = s.tlu := by unfold sfeChange; dsimp only; split <;> split <;> simp [removeSubstitutes]
@[simp] theorem sfeChange_csc (a b : CutState) (s : State) : (sfeChange a b s).csc = s.csc := by unfold sfeChange; dsimp only; split <;> split <;> simp [removeSubstitutes]
@[simp] theorem sfeChange_vos (a b : CutState) (s : State) : (sfeChange a b s).vos = s.vos := by unfold sfeChange; dsimp only; split <;> split <;> simp [removeSubstitutes]
@[simp] theorem sfeChange_pending (a b : CutState) (s : State) : (sfeChange a b s).pending = s.pending := by unfold sfeChange; dsimp only; split <;> split <;> simp [removeSubstitutes]

@[simp] theorem btqChange_pins (b : CutState) (s : State) : (btqChange b s).pins = s.pins := by unfold btqChange; split <;> simp
@[simp] theorem btqChange_cfg (b : CutState) (s : State) : (btqChange b s).cfg = s.cfg := by unfold btqChange; split <;> simp
@[simp] theorem btqChange_sfe (b : CutState) (s : State) : (btqChange b s).sfe = s.sfe := by unfold btqChange; split <;> simp
@[simp] theorem btqChange_pcu (b : CutState) (s : State) : (btqChange b s).pcu = s.pcu := by unfold btqChange; split <;> simp
@[simp] theorem btqChange_sru (b : CutState) (s : State) : (btqChange b s).sru = s.sru := by unfold btqChange; split <;> simp
@[simp] theorem btqChange_pt (b : CutState) (s : State) : (btqChange b s).pt = s.pt := by unfold btqChange; split <;> simp
@[simp] theorem btqChange_dlu (b : CutState) (s : State) : (btqChange b s).dlu = s.dlu := by unfold btqChange; split <;> simp
@[simp] theorem btqChange_dlm (b : CutState) (s : State) : (btqChange b s).dlm = s.dlm := by unfold btqChange; split <;> simp
@[simp] theorem btqChange_tlu (b : CutState) (s : State) : (btqChange b s).tlu = s.tlu := by unfold btqChange; split <;> simp
@[simp] theorem btqChange_csc (b : CutState) (s : State) : (btqChange b s).csc = s.csc := by unfold btqChange; split <;> simp
@[simp] theorem btqChange_li (b : CutState) (s : State) : (btqChange b s).li = s.li := by unfold btqChange; split <;> simp
@[simp] theorem btqChange_pending (b : CutState) (s : State) : (btqChange b s).pending = s.pending := by unfold btqChange; split <;> simp

@[simp] theorem changeState_pins (b : CutState) (s : State) : (changeState b s).pins = s.pins := by simp [changeState, vosChange, dluChange, pcuChange, cscChange]
@[simp] theorem changeState_cfg (b : CutState) (s : State) : (changeState b s).cfg = s.cfg := by simp [changeState, vosChange, dluChange, pcuChange, cscChange]
@[simp] theorem changeState_sru (b : CutState) (s : State) : (changeState b s).sru = s.sru := by simp [changeState, vosChange, dluChange, pcuChange, cscChange]
@[simp] theorem changeState_dlm (b : CutState) (s : State) : (changeState b s).dlm = s.dlm := by simp [changeState, vosChange, dluChange, pcuChange, cscChange]
@[simp] theorem changeState_tlu (b : CutState) (s : State) : (changeState b s).tlu = s.tlu := by simp [changeState, vosChange, dluChange, pcuChange, cscChange]
@[simp] theorem changeState_pending (b : CutState) (s : State) : (changeState b s).pending = s.pending := by simp [changeState, vosChange, dluChange, pcuChange, cscChange]

@[simp] theorem enterHold_pins (b : CutState) (c : HoldCause) (s : State) : (enterHold b c s).pins = s.pins := by simp [enterHold]
@[simp] theorem enterHold_cfg (b : CutState) (c : HoldCause) (s : State) : (enterHold b c s).cfg = s.cfg := by simp [enterHold]
@[simp] theorem enterHold_sru (b : CutState) (c : HoldCause) (s : State) : (enterHold b c s).sru = s.sru := by simp [enterHold]
@[simp] theorem enterHold_dlm (b : CutState) (c : HoldCause) (s : State) : (enterHold b c s).dlm = s.dlm := by simp [enterHold]
@[simp] theorem enterHold_tlu (b : CutState) (c : HoldCause) (s : State) : (enterHold b c s).tlu = s.tlu := by simp [enterHold]
@[simp] theorem enterHold_pending (b : CutState) (c : HoldCause) (s : State) : (enterHold b c s).pending = s.pending := by simp [enterHold]

@[simp] theorem restartSilence_pins (s : State) : (restartSilence s).pins = s.pins := by rfl
@[simp] theorem restartSilence_cfg (s : State) : (restartSilence s).cfg = s.cfg := by rfl
@[simp] theorem restartSilence_sfe (s : State) : (restartSilence s).sfe = s.sfe := by rfl
@[simp] theorem restartSilence_pcu (s : State) : (restartSilence s).pcu = s.pcu := by rfl
@[simp] theorem restartSilence_sru (s : State) : (restartSilence s).sru = s.sru := by rfl
@[simp] theorem restartSilence_pt (s : State) : (restartSilence s).pt = s.pt := by rfl
@[simp] theorem restartSilence_dlu (s : State) : (restartSilence s).dlu = s.dlu := by rfl
@[simp] theorem restartSilence_dlm (s : State) : (restartSilence s).dlm = s.dlm := by rfl
@[simp] theorem restartSilence_btq (s : State) : (restartSilence s).btq = s.btq := by rfl
@[simp] theorem restartSilence_tlu (s : State) : (restartSilence s).tlu = s.tlu := by rfl
@[simp] theorem restartSilence_vos (s : State) : (restartSilence s).vos = s.vos := by rfl
@[simp] theorem restartSilence_li (s : State) : (restartSilence s).li = s.li := by rfl
@[simp] theorem restartSilence_pending (s : State) : (restartSilence s).pending = s.pending := by rfl

/-- Every silence expiry either changes nothing or is the escalation of R177. -/
theorem expireSilence_cases (s : State) :
    (s.csc.silenceDue = false ∧ expireSilence s = s) ∨ (s.csc.silenceDue = true ∧ expireSilence s = escalateSilence s) := by
  unfold expireSilence; cases s.csc.silenceDue <;> simp

@[simp] theorem hearTelegram_pins (s : State) : (hearTelegram s).pins = s.pins := rfl
@[simp] theorem hearTelegram_cfg (s : State) : (hearTelegram s).cfg = s.cfg := rfl
@[simp] theorem hearTelegram_sfe (s : State) : (hearTelegram s).sfe = s.sfe := rfl
@[simp] theorem hearTelegram_pcu (s : State) : (hearTelegram s).pcu = s.pcu := rfl
@[simp] theorem hearTelegram_sru (s : State) : (hearTelegram s).sru = s.sru := rfl
@[simp] theorem hearTelegram_pt (s : State) : (hearTelegram s).pt = s.pt := rfl
@[simp] theorem hearTelegram_dlu (s : State) : (hearTelegram s).dlu = s.dlu := rfl
@[simp] theorem hearTelegram_dlm (s : State) : (hearTelegram s).dlm = s.dlm := rfl
@[simp] theorem hearTelegram_btq (s : State) : (hearTelegram s).btq = s.btq := rfl
@[simp] theorem hearTelegram_tlu (s : State) : (hearTelegram s).tlu = s.tlu := rfl
@[simp] theorem hearTelegram_vos (s : State) : (hearTelegram s).vos = s.vos := rfl
@[simp] theorem hearTelegram_li (s : State) : (hearTelegram s).li = s.li := rfl
@[simp] theorem hearTelegram_pending (s : State) : (hearTelegram s).pending = s.pending := rfl

@[simp] theorem endJogs_pins (s : State) : (endJogs s).pins = s.pins := by rfl
@[simp] theorem endJogs_cfg (s : State) : (endJogs s).cfg = s.cfg := by rfl
@[simp] theorem endJogs_sfe (s : State) : (endJogs s).sfe = s.sfe := by rfl
@[simp] theorem endJogs_pcu (s : State) : (endJogs s).pcu = s.pcu := by rfl
@[simp] theorem endJogs_sru (s : State) : (endJogs s).sru = s.sru := by rfl
@[simp] theorem endJogs_pt (s : State) : (endJogs s).pt = s.pt := by rfl
@[simp] theorem endJogs_dlu (s : State) : (endJogs s).dlu = s.dlu := by rfl
@[simp] theorem endJogs_dlm (s : State) : (endJogs s).dlm = s.dlm := by rfl
@[simp] theorem endJogs_btq (s : State) : (endJogs s).btq = s.btq := by rfl
@[simp] theorem endJogs_tlu (s : State) : (endJogs s).tlu = s.tlu := by rfl
@[simp] theorem endJogs_csc (s : State) : (endJogs s).csc = s.csc := by rfl
@[simp] theorem endJogs_li (s : State) : (endJogs s).li = s.li := by rfl
@[simp] theorem endJogs_pending (s : State) : (endJogs s).pending = s.pending := by rfl

@[simp] theorem arbitrate_pins (s : State) : (arbitrate s).pins = s.pins := by unfold arbitrate; split; rfl; split; simp; split; simp; split <;> simp
@[simp] theorem arbitrate_cfg (s : State) : (arbitrate s).cfg = s.cfg := by unfold arbitrate; split; rfl; split; simp; split; simp; split <;> simp
@[simp] theorem arbitrate_sfe (s : State) : (arbitrate s).sfe = s.sfe := by unfold arbitrate; split; rfl; split; simp; split; simp; split <;> simp
@[simp] theorem arbitrate_pcu (s : State) : (arbitrate s).pcu = s.pcu := by unfold arbitrate; split; rfl; split; simp; split; simp; split <;> simp
@[simp] theorem arbitrate_sru (s : State) : (arbitrate s).sru = s.sru := by unfold arbitrate; split; rfl; split; simp; split; simp; split <;> simp
@[simp] theorem arbitrate_pt (s : State) : (arbitrate s).pt = s.pt := by unfold arbitrate; split; rfl; split; simp; split; simp; split <;> simp
@[simp] theorem arbitrate_dlu (s : State) : (arbitrate s).dlu = s.dlu := by unfold arbitrate; split; rfl; split; simp; split; simp; split <;> simp
@[simp] theorem arbitrate_dlm (s : State) : (arbitrate s).dlm = s.dlm := by unfold arbitrate; split; rfl; split; simp; split; simp; split <;> simp
@[simp] theorem arbitrate_btq (s : State) : (arbitrate s).btq = s.btq := by unfold arbitrate; split; rfl; split; simp; split; simp; split <;> simp
@[simp] theorem arbitrate_tlu (s : State) : (arbitrate s).tlu = s.tlu := by unfold arbitrate; split; rfl; split; simp; split; simp; split <;> simp
@[simp] theorem arbitrate_csc (s : State) : (arbitrate s).csc = s.csc := by unfold arbitrate; split; rfl; split; simp; split; simp; split <;> simp
@[simp] theorem arbitrate_vos (s : State) : (arbitrate s).vos = s.vos := by unfold arbitrate; split; rfl; split; simp; split; simp; split <;> simp
@[simp] theorem arbitrate_pending (s : State) : (arbitrate s).pending = s.pending := by unfold arbitrate; split; rfl; split; simp; split; simp; split <;> simp

@[simp] theorem formReport_pins (s : State) : (formReport s).pins = s.pins := by rfl
@[simp] theorem formReport_cfg (s : State) : (formReport s).cfg = s.cfg := by rfl
@[simp] theorem formReport_sfe (s : State) : (formReport s).sfe = s.sfe := by rfl
@[simp] theorem formReport_pcu (s : State) : (formReport s).pcu = s.pcu := by rfl
@[simp] theorem formReport_sru (s : State) : (formReport s).sru = s.sru := by rfl
@[simp] theorem formReport_pt (s : State) : (formReport s).pt = s.pt := by rfl
@[simp] theorem formReport_dlu (s : State) : (formReport s).dlu = s.dlu := by rfl
@[simp] theorem formReport_dlm (s : State) : (formReport s).dlm = s.dlm := by rfl
@[simp] theorem formReport_btq (s : State) : (formReport s).btq = s.btq := by rfl
@[simp] theorem formReport_tlu (s : State) : (formReport s).tlu = s.tlu := by rfl
@[simp] theorem formReport_csc (s : State) : (formReport s).csc = s.csc := by rfl
@[simp] theorem formReport_vos (s : State) : (formReport s).vos = s.vos := by rfl
@[simp] theorem formReport_pending (s : State) : (formReport s).pending = s.pending := by rfl

@[simp] theorem placeReply_pins (k t : Byte) (r : Reply) (s : State) : (placeReply k t r s).pins = s.pins := by rfl
@[simp] theorem placeReply_cfg (k t : Byte) (r : Reply) (s : State) : (placeReply k t r s).cfg = s.cfg := by rfl
@[simp] theorem placeReply_sfe (k t : Byte) (r : Reply) (s : State) : (placeReply k t r s).sfe = s.sfe := by rfl
@[simp] theorem placeReply_pcu (k t : Byte) (r : Reply) (s : State) : (placeReply k t r s).pcu = s.pcu := by rfl
@[simp] theorem placeReply_sru (k t : Byte) (r : Reply) (s : State) : (placeReply k t r s).sru = s.sru := by rfl
@[simp] theorem placeReply_pt (k t : Byte) (r : Reply) (s : State) : (placeReply k t r s).pt = s.pt := by rfl
@[simp] theorem placeReply_dlu (k t : Byte) (r : Reply) (s : State) : (placeReply k t r s).dlu = s.dlu := by rfl
@[simp] theorem placeReply_dlm (k t : Byte) (r : Reply) (s : State) : (placeReply k t r s).dlm = s.dlm := by rfl
@[simp] theorem placeReply_btq (k t : Byte) (r : Reply) (s : State) : (placeReply k t r s).btq = s.btq := by rfl
@[simp] theorem placeReply_tlu (k t : Byte) (r : Reply) (s : State) : (placeReply k t r s).tlu = s.tlu := by rfl
@[simp] theorem placeReply_csc (k t : Byte) (r : Reply) (s : State) : (placeReply k t r s).csc = s.csc := by rfl
@[simp] theorem placeReply_vos (k t : Byte) (r : Reply) (s : State) : (placeReply k t r s).vos = s.vos := by rfl
@[simp] theorem placeReply_pending (k t : Byte) (r : Reply) (s : State) : (placeReply k t r s).pending = s.pending := by rfl

@[simp] theorem dropRequest_pins (s : State) : (dropRequest s).pins = s.pins := by rfl
@[simp] theorem dropRequest_cfg (s : State) : (dropRequest s).cfg = s.cfg := by rfl
@[simp] theorem dropRequest_sfe (s : State) : (dropRequest s).sfe = s.sfe := by rfl
@[simp] theorem dropRequest_pcu (s : State) : (dropRequest s).pcu = s.pcu := by rfl
@[simp] theorem dropRequest_sru (s : State) : (dropRequest s).sru = s.sru := by rfl
@[simp] theorem dropRequest_pt (s : State) : (dropRequest s).pt = s.pt := by rfl
@[simp] theorem dropRequest_dlu (s : State) : (dropRequest s).dlu = s.dlu := by rfl
@[simp] theorem dropRequest_dlm (s : State) : (dropRequest s).dlm = s.dlm := by rfl
@[simp] theorem dropRequest_btq (s : State) : (dropRequest s).btq = s.btq := by rfl
@[simp] theorem dropRequest_tlu (s : State) : (dropRequest s).tlu = s.tlu := by rfl
@[simp] theorem dropRequest_csc (s : State) : (dropRequest s).csc = s.csc := by rfl
@[simp] theorem dropRequest_vos (s : State) : (dropRequest s).vos = s.vos := by rfl
@[simp] theorem dropRequest_pending (s : State) : (dropRequest s).pending = s.pending := by rfl

end Sys2Proof.Machine
end

