-- ==== Sys2Proof/Laws/Request.lean ====
section
/-! SUPPORT. What every request does before and after its owner's work, and what a reply leaves. -/

namespace Sys2Proof.Machine

@[simp] theorem heard_pins (s : State) : (heard s).pins = s.pins := rfl
@[simp] theorem heard_cfg (s : State) : (heard s).cfg = s.cfg := rfl
@[simp] theorem heard_sfe (s : State) : (heard s).sfe = s.sfe := rfl
@[simp] theorem heard_pcu (s : State) : (heard s).pcu = s.pcu := rfl
@[simp] theorem heard_sru (s : State) : (heard s).sru = s.sru := rfl
@[simp] theorem heard_pt (s : State) : (heard s).pt = s.pt := rfl
@[simp] theorem heard_dlu (s : State) : (heard s).dlu = s.dlu := rfl
@[simp] theorem heard_dlm (s : State) : (heard s).dlm = s.dlm := rfl
@[simp] theorem heard_btq (s : State) : (heard s).btq = s.btq := rfl
@[simp] theorem heard_tlu (s : State) : (heard s).tlu = s.tlu := rfl
@[simp] theorem heard_vos (s : State) : (heard s).vos = s.vos := rfl
@[simp] theorem heard_pending (s : State) : (heard s).pending = s.pending := rfl
@[simp] theorem heard_csc (s : State) :
    (heard s).csc = { s.csc with silenceLeft := 16 * 2 ^ s.cfg.link.silence,
                                 overtaken := if s.csc.silenceLeft ≤ 1 then .byTelegram else .no } := rfl
@[simp] theorem heard_li (s : State) : (heard s).li = { s.li with rx := .hunt } := rfl

theorem heard_eq (s : State) : hearTelegram (s.mapLi fun l => { l with rx := .hunt }) = heard s := by
  by_cases h : s.csc.silenceLeft ≤ 1 <;>
    simp [hearTelegram, expiryDue, heard, silencePeriod, State.mapCsc, State.mapLi, h]

/-- A command on a part that is out of reset. -/
theorem act_free (f : State → State) {s : State} (h : s.pins.resetHeld = false) :
    act f s = .next (arbitrate (f s)) := by simp [act, h]

/-- A request that is heard gets the reply its form gives. -/
theorem request_answered (kind tag : Byte) (r : Request) {s : State} (h : Listening s) :
    act (takeTelegram kind tag r) s
      = .next (answered kind tag (r.answer (heard s)).2 (r.answer (heard s)).1) := by
  obtain ⟨h1, h2, h3⟩ := h
  rw [act_free _ h1]
  unfold takeTelegram answered
  rw [heard_eq]
  simp only [heard_li, h2]
  rw [if_neg (by simp), if_neg (by omega)]

/-- A request in good form that no STOP refuses is carried out by its owner. -/
theorem Request.answer_good {r : Request} {s : State} (hk : r.known = true) (hf : r.badForm = none)
    (hs : s.pins.stop = false ∨ r.readOnly = true) : r.answer s = r.carryOut s := by
  unfold Request.answer
  rw [hk, hf]
  simp only [Bool.true_eq_false, if_false]
  rw [if_neg]
  rcases hs with h | h <;> simp [h]

/-- A request of fixed length in good form. -/
theorem Request.ofLength_good {n : Nat} {payload : List Byte} {ro : Bool} {f : State → State × Reply} {s : State}
    (hn : payload.length = n) (hs : s.pins.stop = false ∨ ro = true) :
    (Request.ofLength n payload ro f).answer s = f s :=
  Request.answer_good rfl (by simp [Request.ofLength, hn]) hs

/-- A request row of fixed length whose payload is as long as its kind asks for gets what its owner gives. -/
theorem takeRequest_good {k : ReqKind} {n : Nat} {f : State → State × Reply} {ro : Bool} {tag : Byte}
    {payload : List Byte} {s : State} (hk : kindForm k payload = Request.ofLength n payload ro f)
    (hn : payload.length = n) (h : Listening s) (hs : s.pins.stop = false ∨ ro = true) :
    act (takeRequest k tag payload) s = .next (answered k.code tag (f (heard s)).2 (f (heard s)).1) := by
  unfold takeRequest
  rw [request_answered _ _ _ h, hk, Request.ofLength_good hn (by simpa using hs)]

/-- A CONFIG_SET row whose record is as long as its section asks for gets what the section's owner gives. -/
theorem setForm_good {p : Part} {n : Nat} {f : State → State × Reply} {tag : Byte} {rest : List Byte} {s : State}
    (hk : setForm p rest = Request.ofLength n rest false f) (hn : rest.length = n) (h : Free s) :
    act (takeTelegram ReqKind.configSet.code tag (setForm p rest)) s
      = .next (answered 0x10#8 tag (f (heard s)).2 (f (heard s)).1) := by
  rw [request_answered _ _ _ h.1, hk, Request.ofLength_good hn (.inl (by simpa using h.2))]
  rfl

/-- A CONFIG_GET row with an index and a page gets the page. -/
theorem getForm_good {p : Part} {tag : Byte} {rest : List Byte} {s : State} (hn : rest.length = 3) (h : Listening s) :
    act (takeTelegram ReqKind.configGet.code tag (getForm p rest)) s
      = .next (answered 0x11#8 tag (readPart p rest (heard s)) (heard s)) := by
  rw [request_answered _ _ _ h]
  unfold getForm
  rw [Request.ofLength_good hn (.inr rfl)]
  rfl

/-- The arbiter moves a telegram from a slot to the line and changes nothing else. -/
theorem arbitrate_outgoing {s : State} (h : s.li.sending = none → s.li.replies ≠ []) :
    outgoing (arbitrate s).li = outgoing s.li := by
  unfold arbitrate outgoing
  cases hs : s.li.sending with
  | some x => simp [hs]
  | none =>
    cases hr : s.li.replies with
    | nil => exact absurd hr (h hs)
    | cons r rest => simp

/-- R200, R201: a reply joins the replies that are still to be sent. -/
theorem answered_outgoing (kind tag : Byte) (r : Reply) (w : State) :
    outgoing (answered kind tag r w).li = outgoing w.li ++ [newTelegram (replyKind kind) tag r] := by
  unfold answered
  rw [arbitrate_outgoing (by simp [placeReply])]
  simp [outgoing, placeReply]

/-- The line is not looked at while a telegram is being sent. -/
theorem arbitrate_busy {s : State} (h : s.li.sending ≠ none) : arbitrate s = s := by
  unfold arbitrate
  cases hs : s.li.sending with
  | some x => rfl
  | none => exact absurd hs h

/-- Nothing begins while no slot holds anything. -/
theorem arbitrate_empty {s : State} (hr : s.li.replies = []) (hn : s.li.notice = false) (hs : s.li.status = none) :
    arbitrate s = s := by
  unfold arbitrate
  cases s.li.sending <;> simp [hr, hn, hs]

end Sys2Proof.Machine
end

