-- ==== Sys2Proof/Laws/Sample.lean ====
section
/-! SUPPORT. What a sample set leaves of each channel: the channel worked through the sample set, but for a zero that a
completed ZERO capture writes. -/

namespace Sys2Proof.Machine

/-- A channel with another zero. -/
def Channel.withZero (c : Channel) (z : Int) : Channel := { c with cfg := { c.cfg with zero := z } }

@[simp] theorem Channel.withZero_zero (c : Channel) (z : Int) : (c.withZero z).cfg.zero = z := rfl
@[simp] theorem Channel.withZero_self (c : Channel) : c.withZero c.cfg.zero = c := rfl
@[simp] theorem Channel.withZero_withZero (c : Channel) (y z : Int) : (c.withZero y).withZero z = c.withZero z := rfl

/-- Two channels that differ in the zero alone. -/
def Channel.SameButZero (c d : Channel) : Prop := c = d.withZero c.cfg.zero

theorem Channel.SameButZero.rfl (c : Channel) : c.SameButZero c := Eq.refl _

theorem Channel.SameButZero.trans {a b c : Channel} (h : a.SameButZero b) (k : b.SameButZero c) :
    a.SameButZero c := by
  unfold Channel.SameButZero at *
  rw [k] at h
  rw [h]
  simp

theorem Channel.sample_withZero (r : Nat) (c : Channel) (z : Int) :
    (c.withZero z).sample r = (c.sample r).withZero z := by
  unfold Channel.sample Channel.judgeQualified Channel.judgeUnqualified Channel.read Channel.withZero Channel.near
  dsimp only
  repeat' split
  all_goals first | contradiction | rfl

theorem Channel.SameButZero.sample {a b : Channel} (h : a.SameButZero b) (r : Nat) :
    (a.sample r).SameButZero (b.sample r) := by
  unfold Channel.SameButZero at *
  rw [h, Channel.sample_withZero]
  simp

/-- Two sets of channels that differ in zeros alone. -/
def SameButZeros (c d : Chans Channel) : Prop := ∀ i, (c.get i).SameButZero (d.get i)

theorem SameButZeros.rfl (c : Chans Channel) : SameButZeros c c := fun _ => Channel.SameButZero.rfl _

theorem SameButZeros.of_eq {c d : Chans Channel} (h : c = d) : SameButZeros c d := h ▸ SameButZeros.rfl c

theorem SameButZeros.trans {a b c : Chans Channel} (h : SameButZeros a b) (k : SameButZeros b c) : SameButZeros a c :=
  fun i => (h i).trans (k i)

theorem writeZeros_same (d : Int) (l : List (Chan × Int)) (cs : Chans Channel) : SameButZeros (writeZeros d cs l) cs := by
  induction l generalizing cs with
  | nil => exact SameButZeros.rfl cs
  | cons p rest ih =>
    obtain ⟨i, sum⟩ := p
    refine (ih _).trans fun j => ?_
    by_cases hj : j = i
    · subst hj
      simp only [Chans.get_set_same]
      exact Eq.refl _
    · rw [Chans.get_set_of_ne _ _ hj]
      exact Channel.SameButZero.rfl _

theorem completeCapture_chans (s : State) : SameButZeros (completeCapture s).sfe.chans s.sfe.chans := by
  unfold completeCapture
  split
  · exact SameButZeros.rfl _
  · split
    · simp only [raise_sfe, State.mapSfe_sfe]
      exact writeZeros_same _ _ _
    · exact SameButZeros.rfl _

/-- A capture that an occurrence ends writes zeros alone, and those only where it had counted its last sample set. -/
theorem failCapture_chans (s : State) : SameButZeros (failCapture s).sfe.chans s.sfe.chans := by
  unfold failCapture
  split
  · exact SameButZeros.rfl _
  · split
    · exact completeCapture_chans s
    · exact SameButZeros.of_eq (by simp)

@[simp] theorem countCapture_chans (s : State) : (countCapture s).sfe.chans = s.sfe.chans := rfl

/-- A change of the cut state that does not enter CONFIG leaves the channels as they are, but for their zeros. -/
theorem changeState_chans {new : CutState} (h : new ≠ .config) (s : State) :
    SameButZeros (changeState new s).sfe.chans s.sfe.chans := by
  unfold changeState sfeChange
  simp only [h, if_false, highChange_sfe]
  split
  · exact (failCapture_chans _).trans (SameButZeros.of_eq (by simp [cscChange, pcuChange, dluChange, vosChange]))
  · exact SameButZeros.of_eq (by simp [cscChange, pcuChange, dluChange, vosChange])

theorem enterHold_chans {new : CutState} (h : new ≠ .config) (cause : HoldCause) (s : State) :
    SameButZeros (enterHold new cause s).sfe.chans s.sfe.chans := by
  unfold enterHold
  simpa using changeState_chans h s

theorem settleEngage_chans (s : State) : SameButZeros (settleEngage s).sfe.chans s.sfe.chans := by
  unfold settleEngage
  split
  · simpa using changeState_chans (by decide) s
  · exact SameButZeros.rfl _

theorem settleLift_chans (s : State) : SameButZeros (settleLift s).sfe.chans s.sfe.chans := by
  unfold settleLift
  split
  · simpa using changeState_chans (by decide) s
  · exact SameButZeros.rfl _

theorem applyLoss_chans (lost : Bool) (s : State) : SameButZeros (applyLoss lost s).sfe.chans s.sfe.chans := by
  unfold applyLoss
  split
  · split
    all_goals first | exact enterHold_chans (by decide) _ s | exact SameButZeros.rfl _
  · exact SameButZeros.rfl _

theorem applyCutoff_chans (s : State) : SameButZeros (applyCutoff s).sfe.chans s.sfe.chans := by
  unfold applyCutoff
  split
  · dsimp only
    split
    all_goals first
      | exact (enterHold_chans (by decide) _ _).trans (SameButZeros.of_eq (by simp))
      | exact SameButZeros.of_eq (by simp)
  · exact SameButZeros.rfl _

theorem settleDue_chans (s : State) : SameButZeros (settleDue s).sfe.chans s.sfe.chans := by
  unfold settleDue
  refine (settleLift_chans _).trans ((settleEngage_chans _).trans ((applyCutoff_chans _).trans ?_))
  simp only [settleLowClear_sfe, settleLowSet_sfe, closeClassWindow_sfe]
  exact completeCapture_chans s

theorem monitorShare_chans (apart : Bool) (s : State) :
    SameButZeros (monitorShare apart s).sfe.chans s.sfe.chans := by
  unfold monitorShare
  cases apart
  · exact (applyCutoff_chans _).trans (SameButZeros.of_eq (by simp))
  · exact SameButZeros.of_eq (by simp)

theorem captureShare_chans (apart : Bool) (s : State) :
    SameButZeros (captureShare apart s).sfe.chans s.sfe.chans := by
  unfold captureShare
  cases apart
  · exact (completeCapture_chans _).trans (SameButZeros.of_eq (by simp))
  · exact SameButZeros.of_eq (by simp)

theorem completionShare_chans (apart : Bool) (s : State) :
    SameButZeros (completionShare apart s).sfe.chans s.sfe.chans := by
  unfold completionShare
  cases apart
  · exact (settleLift_chans _).trans (settleEngage_chans _)
  · exact SameButZeros.rfl _

theorem sideShare_chans (o : SampleOrder) (s : State) : SameButZeros (sideShare o s).sfe.chans s.sfe.chans := by
  unfold sideShare
  dsimp only
  split
  all_goals
    try simp only [sampleLoad_sfe]
    refine (completionShare_chans _ _).trans ?_
    split
    · simp only [updateLoops_sfe]
      exact (applyLoss_chans _ _).trans (SameButZeros.of_eq (by simp))
    · exact (applyLoss_chans _ _).trans (SameButZeros.of_eq (by simp))

/-- Each channel after a sample set is the channel worked through it, but for its zero. -/
theorem sampleSet_chans (scan : Scan) (o : SampleOrder) (s : State) (i : Chan) :
    ((sampleSet scan o s).sfe.chans.get i).SameButZero ((s.sfe.chans.get i).sample (scan.chans.get i).toNat) := by
  have base : ∀ u : State, SameButZeros u.sfe.chans (scanChannels scan (settleDue s)).sfe.chans →
      SameButZeros (captureShare o.apart (sideShare o u)).sfe.chans (scanChannels scan (settleDue s)).sfe.chans :=
    fun u hu => (captureShare_chans _ _).trans ((sideShare_chans _ _).trans hu)
  have fail : ∀ (u : State) (is : List Chan), SameButZeros (if captureInvolves u is then failCapture u else u).sfe.chans
      u.sfe.chans := fun u is => by
    split
    · exact failCapture_chans u
    · exact SameButZeros.rfl _
  have key : SameButZeros (sampleSet scan o s).sfe.chans (scanChannels scan (settleDue s)).sfe.chans := by
    unfold sampleSet
    dsimp only
    cases o.captureFirst <;> cases o.monitorFirst <;> simp only [Bool.false_eq_true, if_false, if_true]
    · exact (monitorShare_chans _ _).trans (base _ (fail _ _))
    · exact base _ ((monitorShare_chans _ _).trans (fail _ _))
    · exact (monitorShare_chans _ _).trans ((fail _ _).trans (base _ (SameButZeros.rfl _)))
    · exact (fail _ _).trans (base _ (monitorShare_chans _ _))
  refine (key i).trans ?_
  have hs : ((scanChannels scan (settleDue s)).sfe.chans.get i)
      = ((settleDue s).sfe.chans.get i).sample (scan.chans.get i).toNat := by
    simp [scanChannels, judgeChannelFault]
  rw [hs]
  exact (settleDue_chans s i).sample _

end Sys2Proof.Machine
end

