-- ==== Sys2Proof/Tests/Slice0.lean ====
section
/-! SUPPORT. Tests: the manual's worked examples, what WellFormed refuses, and for each statement a state that meets its
hypotheses. Expected values come from the manual's tables. -/

namespace Sys2Proof.Tests

open Sys2Proof Sys2Proof.Machine

/-! ### Helpers -/

/-- The state a command leaves. -/
def after (i : Instr) (s : State) : State :=
  match exec i s with
  | .next t => t
  | .fault _ => s
  | .refused _ => s

/-- An outcome is a next state. -/
def goesOn : Result → Bool
  | .next _ => true
  | .fault _ => false
  | .refused _ => false

/-- The payload of the reply formed last. -/
def reply (i : Instr) (s : State) : List Byte := ((outgoing (after i s).li).getLast?.map Telegram.payload).getD []

/-- The part in a cut state. -/
def inState (c : CutState) : State := { State.reset with csc := { State.reset.csc with state := c, commissioned := true } }

/-- The part in READY. -/
def ready : State := inState .ready

/-- The part in CUTTING with both legs under LOOP. -/
def cutting : State :=
  { inState .cutting with vos := { State.reset.vos with legs := ⟨⟨.loop, 0, 0⟩, ⟨.loop, 0, 0⟩⟩, supply := 240 } }

/-- The part with a channel in place. -/
def withChan (i : Chan) (c : Channel) (s : State) : State := { s with sfe := { s.sfe with chans := s.sfe.chans.set i c } }

/-- The part with a list of waypoints and h. -/
def withPlan (l : List Waypoint) (h : Nat) (s : State) : State :=
  { s with pt := { s.pt with list := l, armed := true }, pcu := { s.pcu with high := h, station := h } }

/-- A telegram that is being sent. -/
def sent (kind : Byte) (payload : List Byte) : Telegram := { kind := kind, tag := 0#8, payload := payload, dropAfter := false }

/-- The sample set with every raw value the same and a supply of 24.0 V. -/
def flat (r : Raw) : Scan := { chans := Chans.of fun _ => r, supply := 2458#12 }

/-- The table of the linearisation example. -/
def table500 : List Int := [-2000, -1500, -1000, -500, 0, 500, 1000, 1500, 2000]

/-- An order of a sample set. -/
def inOrder : SampleOrder :=
  { captureFirst := false, monitorFirst := false, loadFirst := false, lossFirst := false, apart := false }

/-! ### WellFormed -/

theorem test_wellFormed_overlength : (Instr.telegramOverlength 60#8).wellFormed = false := by decide
theorem test_wellFormed_payload : (Instr.jog 0#8 (List.replicate 61 0#8)).wellFormed = false := rfl
theorem test_wellFormed_rest : (Instr.configSetSide 0#8 (List.replicate 60 0#8)).wellFormed = false := rfl
theorem test_wellFormed_unknown_long : (Instr.unknownRequest 0x7F#8 0#8 (List.replicate 61 0#8)).wellFormed = false :=
  rfl
theorem test_wellFormed_unknown_named : (Instr.unknownRequest 0x30#8 0#8 []).wellFormed = false := by decide
theorem test_wellFormed_unknown_section : (Instr.unknownRequest 0x10#8 0#8 [9#8]).wellFormed = false := by decide
theorem test_wellFormed_unknown_first : (Instr.unknownRequest 0x32#8 0#8 [1#8]).wellFormed = false := by decide
theorem test_wellFormed_good :
    (Instr.telegramOverlength 61#8).wellFormed = true ∧ (Instr.jog 0#8 (List.replicate 60 0#8)).wellFormed = true ∧
      (Instr.configSetSide 0#8 (List.replicate 59 0#8)).wellFormed = true ∧
      (Instr.unknownRequest 0x10#8 0#8 [10#8]).wellFormed = true := ⟨rfl, rfl, rfl, rfl⟩

/-! ### Decoding: the table gives no bits; telegrams name the rows -/

theorem test_table_word : decodeTableWord 8 0x30 = none := by decide
theorem test_decode_engage : decodeTelegram 0x30#8 5#8 [] = .engage 5#8 [] := by decide
theorem test_decode_side : decodeTelegram 0x10#8 5#8 [2#8, 0#8] = .configSetSide 5#8 [0#8] := by decide
theorem test_decode_hold : decodeTelegram 0x32#8 5#8 [1#8] = .holdHard 5#8 [] := by decide
theorem test_decode_unknown : decodeTelegram 0x10#8 5#8 [10#8] = .unknownRequest 0x10#8 5#8 [10#8] := by decide

/-! ### Worked examples of the manual -/

/-- R197: the CRC over 31h to 39h. -/
theorem test_crc : crc [0x31#8, 0x32#8, 0x33#8, 0x34#8, 0x35#8, 0x36#8, 0x37#8, 0x38#8, 0x39#8] = 0x29B1#16 := by decide +kernel

/-- R2: 2458 is 24.0 V. -/
theorem test_supply : supplyValue 2458 = 240 := by decide

/-- The linearisation examples of section 1.4. -/
theorem test_linearise :
    trimmedValue 2 2310 = 2314 ∧ linearise table500 2314 = 259 ∧
      linearise [0, 0, 0, 1000, 0, 0, 0, 0, 0] 1537 = 998 ∧ linearise defaultTable 100 = -1948 := by decide

/-- The ZERO example: 32 sample sets at 259 with depth-now 1200 give −941. -/
theorem test_zero : capturedZero (32 * 259) 1200 = -941 := by decide

/-- Events 1 and 5 of the station example. -/
theorem test_station :
    moveStation 126490 (0 + travelGain true 4) 1573 = (126492, 854) ∧
      moveStation 126500 (270 + travelGain false 4) 1573 = (126497, 989) := by decide

/-- The speeds of R33 and R34. -/
theorem test_speeds :
    travelSpeedOf 16 1573 = 101 ∧ travelSpeedOf (-16) 1573 = -102 ∧ beltSpeedOf 130 500 = 2600 ∧
      drumSpeedOf 28 60 = 56 := by decide

/-- The SLOPE mode examples of section 3.5. -/
theorem test_slope : slopeDepth 1203 (-60) 2200 = 1071 ∧ slopeDepth 1203 (-7) 2200 = 1187 ∧
    slopeDepth 1203 25 2200 = 1258 := by decide

/-- The interpolation examples of section 4.3. -/
theorem test_interpolate :
    interpolate 1200 1500 120000 140000 126500 = 1297 ∧ interpolate 1500 1200 140000 160000 146500 = 1402 ∧
      rightDepth .slope 2200 1297 (interpolate (-50) 30 120000 140000 126500) = 1244 := by decide

/-- The ramp examples of section 5.1. -/
theorem test_ramp :
    let l := { Loop.reset with sp := 1290, acc := 850 }
    let one := rampSide 3500 20 10 1297 l
    let four := [2, 3, 2, 3].foldl (fun x d => rampSide 3500 20 d 1297 x) l
    one.sp = 1291 ∧ one.acc = 50 ∧ four = one := by decide

/-- The loop examples of section 5.3, HARD: updates 1, 2, 3 and 4. -/
theorem test_loop_law :
    let g : Gains := { kp := 32, ki := 56, ilim := 400, umax := 900 }
    let run (e i : Int) : Int × Int := let l := loopLaw g false 3 { Loop.reset with err := e, integ := i }; (l.u, l.integ)
    run 300 380 = (900, 380) ∧ run 250 380 = (900, 400) ∧ run (-20) 400 = (355, 395) ∧ run (-2) 395 = (0, 395) := by
  decide

/-- The loop examples, NORMAL: unwinding at the output limit. -/
theorem test_loop_unwinds :
    let g : Gains := { kp := 24, ki := 40, ilim := 500, umax := 300 }
    let l := loopLaw g false 3 { Loop.reset with err := -16, integ := 500 }
    l.u = 300 ∧ l.integ = 497 := by decide

/-- R97: a command of 1 gives vmin, and one of 1000 gives 1000. -/
theorem test_dead_zone : deadZone 150 1 = 150 ∧ deadZone 150 (-1000) = -1000 ∧ deadZone 150 0 = 0 := by decide

/-- The load index and load term examples of section 6.5. -/
theorem test_load :
    let term (n : Nat) : Nat := loadTerm { State.reset.dlm with usable := true, load := n } Records.reset.limits
    loadIndex 2650 800 8 = 925 ∧ loadIndex 3900 800 8 = 1000 ∧ loadIndex 700 800 8 = 0 ∧
      term 925 = 55 ∧ term 600 = 250 ∧ term 949 = 40 ∧ term 950 = 0 := by decide

/-- The intake example of section 7.2: advances 1 to 4. -/
theorem test_intake :
    let s : State := { cutting with
      cfg := { Records.reset with limits := { Records.reset.limits with width := 2200 } },
      sru := { State.reset.sru with sides := ⟨{ SideRef.reset with ref := .full, depth := 1203 },
                                              { SideRef.reset with ref := .full, depth := 1190 }⟩ } }
    let s2 := intake 10 (intake 10 s)
    let s4 := intake 10 (intake 10 s2)
    (intakeVolume s2.btq.segs, s2.btq.carry) = (52, 624000) ∧
      (intakeVolume s4.btq.segs, s4.btq.carry, s4.btq.lostTotal, s4.btq.intakeTotal) = (80, 248000, 25, 105) := by decide

/-- The FOLLOW example of section 7.5. -/
theorem test_follow :
    beltSetpoint Records.reset.belt .follow 131 = 2184 ∧ beltLaw Records.reset.belt 2184 2150 = 519 := by decide

/-- The coasting example of section 7.7: 900 mm from an accumulator of 150. -/
theorem test_coasting :
    let segs := List.replicate 28 (⟨0, .next⟩ : Segment) ++ [⟨24, .next⟩, ⟨23, .next⟩, ⟨21, .next⟩, ⟨18, .next⟩]
    let s := beltTravel 900 { ready with btq := { State.reset.btq with segs := segs, acc := 150, paused := true } }
    s.btq.acc = 250 ∧ s.btq.lostTotal = 39 ∧ lastVolume s.btq.segs = 23 ∧ s.btq.paused = true ∧
      isPending .spill s = true := by decide

/-- The ceiling examples of section 9.7: rows 2 and 6. -/
theorem test_ceiling :
    let s : State := { cutting with
      dlm := { State.reset.dlm with usable := true, load := 925 },
      dlu := ⟨{ Loop.reset with far := true }, Loop.reset⟩,
      btq := { State.reset.btq with mode := .follow },
      tlu := { State.reset.tlu with current := some ⟨.loading, 1, 500, 0, 0⟩ } }
    let t : State := { s with
      dlm := { s.dlm with load := 400 }, dlu := ⟨Loop.reset, Loop.reset⟩,
      btq := { s.btq with segs := ⟨40, .next⟩ :: List.replicate 31 ⟨0, .next⟩ },
      tlu := { s.tlu with current := some ⟨.closing, 1, 500, 0, 0⟩ } }
    ceilingWithReason s = (.depth, 50) ∧ ceilingWithReason t = (.belt, 0) := by decide

/-- R190: the current of the FOLLOW example's drive. -/
theorem test_current : coilCurrent 519 1500 = 778 := by decide

/-- The append examples of section 4.1. -/
theorem test_append :
    let w (s l r o : Nat) : List Byte := le 4 s ++ le 2 l ++ le 2 r ++ le 2 o
    let s := withPlan [⟨200000, 0, 0, none⟩, ⟨260000, 0, 0, none⟩] 231000 State.reset
    reply (.planAppend 0#8 (w 320000 1800 1800 0 ++ w 300000 1700 1700 0 ++ w 380000 1800 1800 0)) s = [0x17#8, 1#8] ∧
      reply (.planAppend 0#8 (w 320000 1800 1800 0 ++ w 380000 1800 4000 0)) s = [0x12#8, 6#8] ∧
      reply (.planAppend 0#8 (w 320000 1800 1800 0 ++ w 380000 1800 1800 120)) s = [0x00#8] := by decide

/-! ### Witnesses: a state and operands that meet the hypotheses of each statement, clause by clause -/

/-- StepRunsFrontCommand; StepIdlesOnEmptyQueue, in and out of reset. -/
theorem witness_step :
    { ready with pending := [.stopAsserted] }.pending = .stopAsserted :: [] ∧ ready.pending = [] ∧
      ready.pins.resetHeld = false ∧ (after .resetnAsserted ready).pins.resetHeld = true := by decide

/-- ResetsRestoreEveryBlock: a RESTART whose reply is being sent, and none in progress. -/
theorem witness_resets :
    let s := { ready with li := { ready.li with restarting := true, sending := some (sent 0x83#8 [0x00#8]) } }
    s.pins.resetHeld = false ∧ (after .transmitComplete s).csc.state = .config ∧
      (after .restartReset s).li.restarting = false ∧ ready.li.restarting = false ∧
      (after (.powerOnReset ⟨true, true, false, true⟩) ready).cfg.limits.width = 2200 := by decide

/-- HeldPartStandsStill: a held part, and a command that changes a pin alone. -/
theorem witness_held :
    let s := after .resetnAsserted cutting
    s.pins.resetHeld = true ∧ (after .stopAsserted s).pins.stop = true ∧ (after .stopAsserted s).csc = s.csc := by decide

/-- A channel in QUALIFIED at 0 with its unlock counter one short of the bound. -/
def nearUnlock : Channel := { Channel.reset with qual := .qualified, unlock := 2 }

/-- A channel in UNQUALIFIED with its lock counter one short of the bound. -/
def nearLock : Channel := { Channel.reset with lock := 7, cmp := some 0 }

/-- SampleSetReadsChannels, at the greatest raw value: the segment is the last. -/
theorem witness_sample_reads :
    let c := (after (.sampleSet (flat 4095#12) inOrder) ready).sfe.chans.a0
    c.trimmed = 4095 ∧ c.lin = 2047 ∧ c.fault = true := by decide

/-- SampleSetJudgesQualification: each way a sample is judged, the tolerance at its bound of 40. -/
theorem witness_sample_judges :
    let chan (c : Channel) (r : Raw) := (after (.sampleSet (flat r) inOrder) (withChan .a0 c ready)).sfe.chans.a0
    (chan nearUnlock 2088#12).unlock = 0 ∧ (chan { nearUnlock with unlock := 0 } 2089#12).unlock = 1 ∧
      (chan nearUnlock 2089#12).qual = .unqualified ∧ (chan Channel.reset 2088#12).cmp = some 40 := by decide

theorem witness_sample_locks :
    let chan (c : Channel) (r : Raw) := (after (.sampleSet (flat r) inOrder) (withChan .a0 c ready)).sfe.chans.a0
    (chan { nearLock with lock := 0 } 2088#12).lock = 1 ∧ (chan nearLock 2088#12).qual = .qualified ∧
      (chan nearLock 2089#12).lock = 0 := by decide

/-- ChannelUnlockAndLock: a sample that unlocks, with and without a capture of the channel (in flight, and due), one that
does not, and one that locks. -/
theorem witness_unlock :
    let s := withChan .a0 nearUnlock ready
    let k (n : Nat) : State := { s with sfe := { s.sfe with
      capture := some { sums := [(.a0, 8288)], depthNow := 1200, count := n } } }
    let u (n : Nat) := after (.channelUnlock .a0 2089#12) (k n)
    let l := withChan .a0 nearLock ready
    (after (.channelUnlock .a0 2089#12) s).sfe.chans.a0.qual = .unqualified ∧
      ((u 31).sfe.capture, isPending .zeroFailed (u 31), isPending .zeroDone (u 31)) = (none, true, false) ∧
      ((u 32).sfe.capture, (u 32).sfe.chans.a0.cfg.zero, isPending .zeroFailed (u 32)) = (none, -941, false) ∧
      (after (.channelUnlock .a0 2088#12) s).sfe.chans.a0.qual = .qualified ∧
      (after (.channelLock .a0 2088#12) l).sfe.chans.a0.qual = .qualified ∧
      (after (.channelLock .a0 2089#12) l).sfe.chans.a0.qual = .unqualified := by decide

/-- A LEFT HEIGHT channel, QUALIFIED at 0. -/
def height : Channel :=
  { Channel.reset with cfg := { Channel.reset.cfg with role := .height }, qual := .qualified }

/-- A part whose LEFT side has one HEIGHT channel. -/
def withHeight (s : State) : State := withChan .a0 height s

/-- SideReadingInDepthMode: a side that leaves LOST, one that slews and one that is LOST. -/
theorem witness_depth_mode :
    let set (s : State) := (after (.sampleSet (flat 2068#12) inOrder) s).sru.sides.left
    let at_ (r : SideRef) : State := withHeight { ready with sru := { ready.sru with sides := ⟨r, SideRef.reset⟩ } }
    ((set (at_ SideRef.reset)).depth, (set (at_ SideRef.reset)).leftLost) = (20, true) ∧
      ((set (at_ { SideRef.reset with ref := .full })).depth,
        (set (at_ { SideRef.reset with ref := .full })).tracking) = (5, .rebase) ∧
      (set ready).ref = .lost := by decide

/-- SideReadingInSlopeMode: RIGHT follows LEFT and the slope channel, and is LOST without one. -/
theorem witness_slope_mode :
    let slope := { height with cfg := { height.cfg with role := .slope } }
    let rec_ := { SideRec.reset with mode := .slope }
    let s := withHeight { ready with cfg := { ready.cfg with side := ⟨SideRec.reset, rec_⟩ } }
    let t := after (.sampleSet (flat 2068#12) inOrder) (withChan .a4 slope s)
    t.sru.sides.right.ref = .full ∧ t.sru.sides.right.depth = 40 ∧
      (after (.sampleSet (flat 2068#12) inOrder) s).sru.sides.right.ref = .lost := by decide

/-- LoopUpdateFollowsLaw: CUTTING under LOOP with an error outside the deadband. -/
theorem witness_loop :
    let side := { SideRef.reset with ref := .full, members := [.a0] }
    let s := withHeight { cutting with sru := { cutting.sru with sides := ⟨side, SideRef.reset⟩ },
                                       dlu := ⟨{ Loop.reset with sp := 50 }, Loop.reset⟩ }
    let t := after (.sampleSet (flat 2048#12) inOrder) s
    NoCutoff (flat 2048#12) inOrder s ∧ t.dlu.left.u = 82 ∧ t.dlu.left.integ = 7 ∧ t.vos.legs.left.held = 219 := by
  decide

/-- LoopUpdateFollowsLaw, SetpointsMoveByTime, ZeroCaptureRuns, EngageAndLiftComplete: the supply below 160 with the
cutoff counter at the bound of NoCutoff, and one cutoff that is left due. -/
theorem witness_noCutoff :
    let low : Scan := { flat 2048#12 with supply := 1600#12 }
    let s (n : Nat) : State := { cutting with vos := { cutting.vos with cutoffCount := n } }
    let late := { inOrder with apart := true }
    let out (t : State) := (t.csc.state, t.csc.cutoffHanded)
    NoCutoff low inOrder (s 3) ∧ ¬ NoCutoff low inOrder (s 4) ∧ NoCutoff low late (s 4) ∧
      NoCutoff low inOrder { s 4 with csc := (inState .config).csc } ∧
      out (after (.sampleSet low inOrder) (s 3)) = (.cutting, false) ∧
      out (after (.sampleSet low late) (s 4)) = (.cutting, true) := by decide +kernel

/-- SetpointsMoveByTime: ENGAGING toward a target, and LIFTING toward the clearance height. -/
theorem witness_setpoints :
    let side := { SideRef.reset with ref := .full, members := [.a0] }
    let right := { height with cfg := { height.cfg with side := .right } }
    let base (c : CutState) : State := withChan .a1 right (withHeight { inState c with
      sru := { State.reset.sru with sides := ⟨side, { side with members := [.a1] }⟩ },
      pt := { State.reset.pt with list := [⟨10, 30, 40, none⟩] } })
    let run (c : CutState) := after (.sampleSet (flat 2048#12) inOrder) (base c)
    (run .engaging).sru.sides.right.ref = .full ∧ (run .engaging).dlu.left.sp = 2 ∧ (run .lifting).dlu.left.sp = -4 := by
  decide

/-- LoadMonitorFollowsPressure: a usable pressure, a window that closes, and none. -/
theorem witness_load :
    let p := { height with cfg := { height.cfg with role := .pressure, tol := 500 }, accepted := 1900 }
    let s := withChan .a5 p ready
    let due := { ready with dlm := { ready.dlm with winSum := 35000, winCount := 50 } }
    let t := after (.sampleSet (flat 4000#12) inOrder) s
    t.dlm.usable = true ∧ t.dlm.winCount = 1 ∧ t.dlm.load = 576 ∧
      (after (.sampleSet (flat 4000#12) inOrder) ready).dlm.usable = false ∧
      (after .classWindowClose due).dlm.lastMean = 700 ∧ (after .classWindowClose due).dlm.hardCount = 1 := by decide

/-- ZeroCaptureRuns: each reply with the checks of the fields at their bounds, and a capture that counts and completes. -/
theorem witness_zero :
    let s := withHeight ready
    let req : Instr := .zero 0#8 [0#8, 0#8, 0#8, 0#8]
    let k (n : Nat) : State := { s with sfe := { s.sfe with
      capture := some { sums := [(.a0, 8288)], depthNow := 1200, count := n } } }
    let field (kind number : Byte) (depth : Int) := reply (.zero 0#8 (kind :: number :: leInt 2 depth)) s
    field 2#8 9#8 6000 = [0x12#8, 0#8] ∧ field 0#8 8#8 6000 = [0x12#8, 1#8] ∧ field 1#8 2#8 0 = [0x12#8, 1#8] ∧
      field 0#8 7#8 5001 = [0x12#8, 2#8] ∧ field 0#8 0#8 (-5000) = [0x01#8] ∧
    reply req s = [0x01#8] ∧ reply req State.reset = [0x13#8] ∧ reply req (k 1) = [0x14#8] ∧
      reply req ready = [0x15#8] ∧
      (after (.sampleSet (flat 2048#12) inOrder) (k 30)).sfe.capture.map Capture.count = some 31 ∧
      (after .zeroCaptureComplete (k 32)).sfe.chans.a0.cfg.zero = -941 ∧
      (after .zeroCaptureComplete (k 31)).sfe.capture.isSome = true := by decide

/-- ZeroCaptureRuns at a sample set: a capture that counts, completes or fails, in either order, where its channel's third
inconsistent sample comes at the same sample set. -/
theorem witness_zero_sample :
    let set (o : SampleOrder) (r : Raw) (n : Nat) : State := after (.sampleSet (flat r) o)
      (withChan .a0 { height with unlock := 2, lin := 0 } { ready with
        sfe := { ready.sfe with capture := some { sums := [(.a0, 8288)], depthNow := 1200, count := n } } })
    let out (t : State) := (t.sfe.capture.isSome, t.sfe.chans.a0.cfg.zero, isPending .zeroDone t, isPending .zeroFailed t)
    let first := { inOrder with captureFirst := true }
    out (set inOrder 2048#12 30) = (true, 0, false, false) ∧ out (set inOrder 2048#12 31) = (false, -941, true, false) ∧
      out (set { inOrder with apart := true } 2048#12 31) = (true, 0, false, false) ∧
      out (set inOrder 2089#12 31) = (false, 0, false, true) ∧ out (set first 2089#12 31) = (false, -941, true, false) ∧
      out (set first 2089#12 30) = (false, 0, false, true) ∧
      out (set { first with apart := true } 2089#12 31) = (false, -941, true, false) := by decide +kernel

/-- EngageAndLiftComplete: settled and not settled. -/
theorem witness_completions :
    let done := { Loop.reset with settle := 10 }
    let s (c : CutState) (l : Loop) : State := { inState c with dlu := ⟨done, l⟩ }
    (after .engageDone (s .engaging done)).csc.state = .cutting ∧
      (after .liftDone (s .lifting done)).csc.state = .ready ∧
      (after .engageDone (s .engaging { done with settle := 9 })).csc.state = .engaging ∧
      (after .liftDone (s .cutting done)).csc.state = .cutting := by decide

/-- EngageAndLiftComplete at a sample set: counters that rise to 9, to 10 (with the completion, together and apart), and
return to 0, and a loss in CUTTING. -/
theorem witness_settle :
    let side (c : Chan) := { SideRef.reset with ref := .full, members := [c] }
    let right := { height with cfg := { height.cfg with side := .right } }
    let s (c : CutState) (l r : Nat) : State := withChan .a1 right (withHeight { inState c with
      sru := { State.reset.sru with sides := ⟨side .a0, side .a1⟩ },
      dlu := ⟨{ Loop.reset with settle := l }, { Loop.reset with settle := r }⟩,
      pt := { State.reset.pt with list := [⟨10, 0, 0, none⟩] } })
    let run (o : SampleOrder) (r : Raw) (x : State) : State := after (.sampleSet (flat r) o) x
    let out (t : State) := (t.csc.state, t.dlu.left.settle, t.dlu.right.settle)
    let gone (x : State) : State := withChan .a0 { height with qual := .unqualified } x
    out (run inOrder 2048#12 (s .engaging 8 9)) = (.engaging, 9, 10) ∧
      out (run inOrder 2048#12 (s .engaging 9 9)) = (.cutting, 0, 0) ∧
      out (run { inOrder with apart := true } 2048#12 (s .engaging 9 9)) = (.engaging, 10, 10) ∧
      out (run inOrder 2060#12 (s .engaging 9 9)) = (.engaging, 0, 0) ∧
      out (run inOrder 2048#12 (s .lifting 9 9)) = (.lifting, 0, 0) ∧
      out (run inOrder 2048#12 (gone (s .cutting 0 0))) = (.holdSoft, 0, 0) ∧
      (run inOrder 2048#12 (gone (s .cutting 0 0))).csc.cause = some .refLost ∧
      out (run inOrder 2048#12 (gone (s .ready 0 0))) = (.ready, 0, 0) := by decide +kernel

/-- EngageAndLiftComplete: lifting complete at a sample set, at the bound of its condition (−200 + 10), which also leaves
every command of LoopUpdateFollowsLaw at 0. -/
theorem witness_lift_settles :
    let chan (i : Side) := { height with cfg := { height.cfg with side := i, zero := 190 } }
    let s := withChan .a1 (chan .right) (withChan .a0 (chan .left) { inState .lifting with
      dlu := ⟨{ Loop.reset with settle := 9 }, { Loop.reset with settle := 9 }⟩, vos := cutting.vos })
    let t := after (.sampleSet (flat 2048#12) inOrder) s
    (t.csc.state, t.dlu.left.u, t.vos.legs.left.owner, isPending .liftDone t) = (.ready, 0, .none, true) := by
  decide +kernel

/-- SupplyMonitorActs: the cutoff counter below and at its bound, together and apart; the coils and pins. -/
theorem witness_cutoff :
    let s (c : CutState) (n : Nat) : State := { inState c with vos := { State.reset.vos with cutoffCount := n } }
    let run (o : SampleOrder) (r : Raw) (x : State) : State := after (.sampleSet { flat 0#12 with supply := r } o) x
    let out (t : State) := (t.csc.state, t.csc.cutoffHanded, t.vos.cutoffCount)
    out (run inOrder 1600#12 (s .ready 3)) = (.ready, false, 4) ∧
      out (run inOrder 1600#12 (s .ready 4)) = (.holdHard, false, 0) ∧
      out (run { inOrder with apart := true } 1600#12 (s .ready 4)) = (.ready, true, 0) ∧
      out (run inOrder 1600#12 (s .config 4)) = (.config, false, 0) ∧
      out (run inOrder 1639#12 (s .ready 4)) = (.ready, false, 0) ∧
      (coil 5, plusPin .swapped 5, minusPin .swapped 5) = (.lower, false, true) ∧ appliedDrive true (-701) = -700 := by
  decide +kernel

/-- SupplyMonitorActs: the counters at their bounds, and a cutoff handed in READY and in CONFIG. -/
theorem witness_supply :
    let low := { ready with vos := { ready.vos with lowCount := 20 } }
    let good := { ready with vos := { ready.vos with low := true, recoverCount := 50 } }
    let cut (c : CutState) : State := { inState c with csc := { (inState c).csc with cutoffHanded := true } }
    (after .supplyLowSet low).vos.low = true ∧ (after .supplyLowClear good).vos.low = false ∧
      (after .supplyCutoff (cut .ready)).csc.cause = some .supply ∧
      (after .supplyCutoff (cut .config)).csc.state = .config ∧
      (after (.sampleSet { flat 0#12 with supply := 2150#12 } inOrder)
        { ready with vos := { ready.vos with lowCount := 19 } }).vos.low = true := by decide

/-- QualifyingEdgeCounts: an edge that does not count, one inside the group, and one that completes it on each input. -/
theorem witness_edge :
    let two := { ready with cfg := { ready.cfg with
      pulse := { ready.cfg.pulse with drum := { ready.cfg.pulse.drum with prescale := 2 } } } }
    let run (i : PulseInput) (rising : Bool) (s : State) := after (.qualifyingEdge i rising true true) s
    (run .drum false two).pcu.count.drum = 0 ∧ (run .drum true two).pcu.count.drum = 1 ∧
      (run .drum true ready).pcu.drumSum = 1 ∧ (run .travel true ready).pcu.station = 1 ∧
      (run .belt true ready).btq.acc = 2 := by decide

/-- CountedTravelMovesStation and ForwardThenReverseReturns: an advance, and a reverse movement that stays behind h. -/
theorem witness_travel :
    let s := after (.countedTravelEvent true true) ready
    let t := after (.countedTravelEvent false true) s
    s.pcu.high = 1 ∧ t.pcu.station = 0 ∧ t.pcu.high = 1 ∧
      (after (.countedTravelEvent true true) (withPlan [] 50000000 ready)).pcu.station = 50000000 := by decide

/-- A plan of three waypoints and a window that h enters, in CUTTING one millimetre before the second waypoint. -/
def onPlan : State :=
  withPlan [⟨10, 100, 100, none⟩, ⟨20, 110, 90, some 500⟩, ⟨30, 120, 80, none⟩] 19
    { cutting with pt := { cutting.pt with windows := { cutting.pt.windows with w0 := ⟨true, false, 30, 100, 10, 50⟩ } },
                   sru := { cutting.sru with sides := ⟨{ SideRef.reset with ref := .full, depth := 1000 },
                                                       { SideRef.reset with ref := .full, depth := 1000 }⟩ } }

/-- AdvanceMovesPlanAndRamp: one waypoint is consumed, the window is entered, and the sides ramp. -/
theorem witness_advance :
    let t := after (.countedTravelEvent true true) onPlan
    PlanOrdered onPlan.pt.list ∧ onPlan.pcu.high < t.pcu.high ∧ t.pt.list.length = 2 ∧
      t.pt.windows.w0.entered = true ∧ t.dlu.left.acc = 30 ∧ (targets t).isSome = true := by decide

/-- AdvanceTakesInMaterial: CUTTING takes in and keeps a carry; READY takes in nothing. -/
theorem witness_intake :
    let t := after (.countedTravelEvent true true) onPlan
    let u := after (.countedTravelEvent true true) { onPlan with csc := ready.csc }
    t.btq.intakeTotal = 1 ∧ t.btq.carry = 0 ∧ u.btq.intakeTotal = 0 ∧ u.pcu.high = 20 := by decide

/-- TargetFollowsPlan: before, between and past the waypoints, and inside a window. -/
theorem witness_target :
    let at_ (h : Nat) : State := { onPlan with pcu := { onPlan.pcu with high := h } }
    let left (h : Nat) := (targets (at_ h)).map Sides.left
    PlanOrdered onPlan.pt.list ∧ WindowsApart onPlan.pt.windows ∧ left 9 = some 100 ∧ left 10 = some 100 ∧
      left 19 = some 109 ∧ left 20 = some 50 ∧ left 30 = some 50 ∧ left 130 = some 120 ∧ targets ready = none := by decide

/-- CountedBeltShifts and ShiftDischargesAndMoves: one shift for 400 mm; without a truck, into one, and a close. -/
theorem witness_shift :
    let segs (t : Tag) := List.replicate 31 (⟨0, t⟩ : Segment) ++ [⟨7, t⟩]
    let s (t : Tag) (x : Option Truck) : State := { ready with
      btq := { ready.btq with segs := segs t, acc := 399 }, tlu := { ready.tlu with current := x } }
    let run (t : Tag) (x : Option Truck) := after .countedBeltEvent (s t x)
    (run .next none).btq.lostTotal = 7 ∧ (run .current (some ⟨.loading, 1, 50, 3, 0⟩)).tlu.current.map Truck.delivered
        = some 10 ∧
      (run .current (some ⟨.closing, 1, 50, 43, 0⟩)).tlu.closedTotal = 50 ∧
      (after .countedBeltEvent ready).btq.acc = 2 := by decide

/-- DrumSpeedAndStall: the stall counter below and at its bound, and a stall handed in CUTTING and in READY. -/
theorem witness_drum :
    let s (n : Nat) : State := { cutting with pcu := { cutting.pcu with stall := n } }
    let handed (x : State) : State := { x with csc := { x.csc with stallHanded := true } }
    (after (.drumSpeedUpdate false) (s 3)).pcu.stall = 4 ∧
      (after (.drumSpeedUpdate false) (s 4)).csc.cause = some .drumStall ∧
      (after (.drumSpeedUpdate true) (s 4)).csc.stallHanded = true ∧
      (after .drumStall (handed cutting)).csc.state = .holdSoft ∧ (after .drumStall (handed ready)).csc.state = .ready ∧
      (after (.drumSpeedUpdate false) ready).pcu.stall = 0 := by decide

/-- SpeedWindowDrivesBelt: each mode, a paused belt, and a stall that is called. -/
theorem witness_speed_window :
    let b (m : BeltMode) : State := { ready with btq := { ready.btq with mode := m } }
    let run (s : State) := (after (.speedWindowClose false) s).btq
    (run (b .stop)).spB = 0 ∧ (run (b .fixed)).spB = 2500 ∧ (run (b .follow)).spB = 500 ∧
      (run { b .fixed with btq := { (b .fixed).btq with paused := true } }).drive = 0 ∧ (run (b .fixed)).drive = 1000 ∧
      (run { b .fixed with btq := { (b .fixed).btq with stall := 19, drive := 300, spB := 500 } }).stalled = true ∧
      (after .beltStall { b .fixed with btq := { (b .fixed).btq with stall := 20 } }).btq.mode = .stop := by decide

/-- SpeedWindowDrivesBelt and MaterialBeltAndTruckNext: a stall left due by its update, which forms setpoint and drive as
0, and a BELT_MODE that calls it first. -/
theorem witness_due_stall :
    let s := { ready with btq := { ready.btq with mode := .fixed, stall := 19, drive := 300, spB := 500 } }
    let t := after (.speedWindowClose true) s
    let u := after (.beltMode 0#8 [2#8]) t
    (t.btq.stall, t.btq.spB, t.btq.drive, t.btq.stalled) = (20, 0, 0, false) ∧
      (u.btq.mode, u.btq.stall, u.btq.stalled, isPending .beltStall u) = (.follow, 0, false, true) := by decide

/-- CutStateChangeInEveryBlock: READY to ENGAGING, and READY to CONFIG with a capture (in flight, and due) and a
substitute; the re-base passes a window and the plan's end. -/
theorem witness_change :
    let s := withChan .a0 { height with subst := some 5 } { ready with
      sfe := { ready.sfe with capture := some { sums := [], depthNow := 0, count := 3 } } }
    let t := changeState .config s
    let due := changeState .config (withHeight { ready with
      sfe := { ready.sfe with capture := some { sums := [(.a0, 8288)], depthNow := 1200, count := 32 } } })
    let past := { onPlan with csc := ready.csc, pcu := { onPlan.pcu with station := 130 } }
    let e := changeState .engaging past
    (due.sfe.chans.a0.cfg.zero, isPending .zeroDone due, isPending .zeroFailed due) = (-941, true, false) ∧
      PlanOrdered past.pt.list ∧ isPending .windowEntered e = true ∧ isPending .windowPassed e = true ∧
      isPending .planEnd e = true ∧
    (changeState .engaging ready).vos.legs.left.owner = .loop ∧ t.sfe.capture = none ∧ t.sfe.chans.a0.subst = none ∧
      isPending .zeroFailed t = true := by decide

/-- The part in a cut state with a time left in the silence timer. -/
def silent (left : Nat) (c : CutState) : State :=
  { inState c with csc := { (inState c).csc with silenceLeft := left } }

/-- TimerExpiriesHold: the state timer in its last millisecond, before it and stopped, and a silence that is due in each
group of cut states. -/
theorem witness_timers :
    let run (c : CutState) := (after .silenceTimerExpiry (silent 1 c)).csc
    let s (n : Nat) := { inState .engaging with csc := { (inState .engaging).csc with stateTimer := some n } }
    (after .stateTimerExpiry (s 1)).csc.cause = some .timeout ∧ (after .stateTimerExpiry (s 2)).csc.state = .engaging ∧
      (after .stateTimerExpiry ready).csc.state = .ready ∧
      (run .cutting).state = .holdSoft ∧ (run .holdSoft).state = .holdHard ∧ (run .ready).state = .ready ∧
      (run .config).silenceLeft = 1024 := by decide

/-- TimerExpiriesHold, by R176: a telegram taken first leaves no expiry, and an expiry before the last millisecond none.
By R188: a JOG taken first in READY is ended by the expiry that it overtook, once, and one taken earlier is not. -/
theorem witness_silence_overtaken :
    let poll := after (.poll 0#8 []) (silent 1 .cutting)
    let jogged (n : Nat) := after (.jog 0#8 (0#8 :: (leInt 2 7 ++ le 2 50))) (silent n .ready)
    (after .silenceTimerExpiry poll).csc = poll.csc ∧ poll.csc.silenceLeft = 1024 ∧
      (after .silenceTimerExpiry (silent 2 .cutting)).csc.state = .cutting ∧
      (after .silenceTimerExpiry (jogged 1)).vos.legs.left = ⟨.none, 0, 0⟩ ∧
      (after .silenceTimerExpiry (jogged 2)).vos.legs.left = ⟨.jog, 7, 50⟩ ∧
      (after .silenceTimerExpiry (after (.poll 0#8 []) (jogged 1))).vos.legs.left = ⟨.jog, 7, 50⟩ := by decide

/-- StopHoldsThePart: asserted in CONFIG, HOLD_HARD and READY, asserted again, and released. -/
theorem witness_stop :
    let run (c : CutState) := after .stopAsserted (inState c)
    (run .config).csc.state = .config ∧ (run .holdHard).csc.cause = some .stop ∧ (run .ready).csc.state = .holdHard ∧
      (after .stopAsserted (run .ready)).pins.stop = true ∧ (after .stopReleased (run .ready)).pins.stop = false ∧
      (after .stopReleased ready).pins.stop = false := by decide

/-- JogRunsAndEnds: each check at its bounds, both outputs, and the end of a JOG. -/
theorem witness_jog :
    let req (out : Byte) (c : Int) (d : Nat) : Instr := .jog 0#8 (out :: (leInt 2 c ++ le 2 d))
    reply (req 2#8 0 50) ready = [0x12#8, 0#8] ∧ reply (req 1#8 (-1001) 50) ready = [0x12#8, 1#8] ∧
      reply (req 0#8 1000 49) ready = [0x12#8, 2#8] ∧ reply (req 0#8 1000 5001) ready = [0x12#8, 2#8] ∧
      reply (req 0#8 0 50) State.reset = [0x13#8] ∧ reply (req 0#8 (-1000) 50) ready = [0x00#8] ∧
      (after (req 1#8 1000 5000) ready).vos.legs.right = ⟨.jog, 1000, 5000⟩ ∧
      (after (.jogExpiry .right) (after (req 1#8 7 50) ready)).vos.legs.right = ⟨.jog, 7, 50⟩ := by decide

/-- JogRunsAndEnds and StepIdlesOnEmptyQueue: the last millisecond of a JOG, and the one before it. -/
theorem witness_jog_end :
    let s (n : Nat) : State := { ready with vos := { ready.vos with legs := ⟨⟨.jog, 7, n⟩, ⟨.none, 0, 0⟩⟩ } }
    (after (.jogExpiry .left) (s 1)).vos.legs.left = ⟨.none, 0, 0⟩ ∧
      (after (.jogExpiry .left) (s 2)).vos.legs.left = ⟨.jog, 7, 2⟩ ∧ (idle (s 1)).vos.legs.left = ⟨.none, 0, 0⟩ ∧
      (idle (s 2)).vos.legs.left = ⟨.jog, 7, 1⟩ := by decide

/-- EventsLatch: an enabled edge source, one that is pending already, and a level source. -/
theorem witness_events :
    isPending .spill (raise .spill ready) = true ∧ raise .planLow ready = ready ∧
      isPending .supplyLow (setCond .supplyLow true ready) = true ∧
      condition .planLow (setCond .planLow false ready) = false := by decide

/-- SlotsAreServedInOrder: a reply, a notice and a report in turn, and the end of a transmission. -/
theorem witness_slots :
    let s := { ready with li := { ready.li with replies := [sent 1#8 []], notice := true, status := some (sent 2#8 []) } }
    let kind (x : State) := x.li.sending.map Telegram.kind
    kind (arbitrate s) = some 1#8 ∧ kind (after .transmitComplete (arbitrate s)) = some 0xF2#8 ∧
      kind (after .transmitComplete (after .transmitComplete (arbitrate s))) = some 2#8 ∧
      kind (after .statusPeriodExpiry { ready with li := { ready.li with statusTimer := some 1 } }) = some 0xF1#8 ∧
      (after .statusPeriodExpiry ready).li.sending = none ∧ (after .statusPeriodExpiry { ready with li := { ready.li with statusTimer := none } }).li.sending = none := by decide

/-- SlotsAreServedInOrder: a report with REQUEST_DROPPED, one formed before the drop, and an older reply's end while a
RESTART is in progress. -/
theorem witness_drop_flag :
    let s (x : Telegram) : State := { ready with li := { ready.li with dropped := true, sending := some x } }
    let report := sent 0xF1#8 (List.replicate 59 0#8 ++ [8#8])
    let old := { s (sent 0x82#8 [0#8]) with li := { (s (sent 0x82#8 [0#8])).li with restarting := true } }
    (after .transmitComplete (s report)).li.dropped = false ∧
      (after .transmitComplete (s { report with dropAfter := true })).li.dropped = true ∧
      (after .transmitComplete old).li.restarting = true ∧ (after .transmitComplete old).csc.state = .ready := by decide

/-- StatusContentCarriesState: the ranges its clauses ask for. -/
theorem witness_status :
    ceiling cutting < 1024 ∧ cutting.dlm.load < 1024 ∧ beltHolding cutting.btq.segs < 16777216 ∧
      (targets onPlan).map Sides.left = some 109 ∧ (statusContent onPlan).getD 0 1#8 = 0#8 := by decide

/-- ReceiverFollowsTable: each state of the receiver. -/
theorem witness_receiver :
    let at_ (r : RxState) (buf : List Byte) : State := { ready with li := { ready.li with rx := r, buf := buf } }
    let rx (b : Byte) (s : State) := (after (.receiverByteTaken b) s).li.rx
    rx 0xA5#8 ready = .length ∧ rx 0#8 ready = .hunt ∧ rx 60#8 (at_ .length []) = .header ∧
      rx 61#8 (at_ .length []) = .hunt ∧ rx 9#8 (at_ .header [1#8]) = .header ∧
      rx 9#8 (at_ .header [0#8, 2#8]) = .check ∧ rx 9#8 (at_ .header [1#8, 2#8]) = .body ∧
      rx 9#8 (at_ .body [2#8, 2#8, 9#8]) = .body ∧ rx 9#8 (at_ .body [1#8, 2#8, 9#8]) = .check ∧
      rx 9#8 (at_ .check [0#8, 2#8, 9#8]) = .check ∧ rx 9#8 (at_ .check [0#8, 2#8, 9#8, 1#8]) = .hunt := by decide +kernel

/-- FrameRunsItsRequest: an IDENTIFY of tag 9 on a quiet line. -/
theorem witness_frame :
    let sum := crc [0#8, 0x01#8, 9#8]
    LineBusyWhileWaiting ready ∧
      goesOn (feed [0xA5#8, 0#8, 0x01#8, 9#8, BitVec.ofNat 8 sum.toNat, BitVec.ofNat 8 (sum.toNat / 256)] ready) = true := by
  decide +kernel

/-- TelegramDecodesToItsCommand: a request of each form. -/
theorem witness_telegram :
    (Instr.zero 1#8 [0#8]).telegram = some (0x35#8, 1#8, [0#8]) ∧ (Instr.zero 1#8 [0#8]).wellFormed = true ∧
      (Instr.materialSetManual 1#8 [0#8]).telegram = some (0x38#8, 1#8, [1#8, 0#8]) ∧
      (Instr.unknownRequest 0x7F#8 1#8 []).wellFormed = true := by decide

/-- RequestsAreScreened and UnknownRequestAnswered: each step that ends a request. -/
theorem witness_screened :
    let stopped := { ready with pins := { ready.pins with stop := true } }
    let full := { ready with li := { ready.li with replies := [sent 0#8 [], sent 0#8 []] } }
    let run (k : Byte) (p : List Byte) (s : State) := reply (decodeTelegram k 0#8 p) s
    run 0x7F#8 [] ready = [0x10#8] ∧ run 0x34#8 [0#8] ready = [0x11#8] ∧ run 0x30#8 [] stopped = [0x13#8] ∧
      run 0x10#8 [] ready = [0x11#8] ∧ run 0x10#8 [0#8] ready = [0x12#8, 0xFF#8] ∧
      run 0x11#8 [10#8] ready = [0x12#8, 0xFF#8] ∧ run 0x10#8 [9#8, 0#8] ready = [0x11#8] ∧
      run 0x10#8 [9#8, 0#8, 0#8, 1#8, 0#8] stopped = [0x13#8] ∧ run 0x11#8 [9#8, 0#8] ready = [0x11#8] ∧
      (after (.engage 0#8 []) full).li.dropped = true := by decide

/-- UnknownRequestAnswered: each answer, and the order of length, STOP and first byte. -/
theorem witness_unknown :
    let run (k : Byte) (p : List Byte) := reply (.unknownRequest k 0#8 p) ready
    let stopped (k : Byte) (p : List Byte) :=
      reply (.unknownRequest k 0#8 p) { ready with pins := { ready.pins with stop := true } }
    run 0x7F#8 [] = [0x10#8] ∧ run 0x22#8 [] = [0x11#8] ∧ run 0x10#8 [10#8] = [0x12#8, 0xFF#8] ∧
      run 0x22#8 [2#8, 0#8] = [0x12#8, 0#8] ∧ run 0x32#8 [2#8] = [0x12#8, 0#8] ∧
      run 0x38#8 [2#8, 0#8] = [0x12#8, 0#8] ∧ run 0x22#8 [2#8] = [0x11#8] ∧ stopped 0x32#8 [2#8, 0#8] = [0x11#8] ∧
      stopped 0x22#8 [2#8, 0#8] = [0x12#8, 0#8] ∧ stopped 0x32#8 [2#8] = [0x13#8] ∧
      stopped 0x38#8 [2#8, 0#8] = [0x13#8] := by decide

/-- ReadingsAreAnswered: IDENTIFY, TALLY_READ and PLAN_READ at their bounds, and RESTART. -/
theorem witness_readings :
    let one := { ready with tlu := { ready.tlu with log := [⟨5, 50, 60, 0, 9, .full⟩] } }
    reply (.identify 0#8 []) ready = [0#8, 0x54#8, 0x44#8, 0x4C#8, 0x24#8, 0x41#8, 0#8, 0#8, 0#8, 0#8, 1#8] ∧
      (reply (.tallyRead 0#8 [0#8]) one).length = 25 ∧ reply (.tallyRead 0#8 [1#8]) one = [0x12#8, 0#8] ∧
      (reply (.planReadWaypoints 0#8 [3#8]) onPlan).length = 6 ∧
      reply (.planReadWaypoints 0#8 [4#8]) onPlan = [0x12#8, 1#8] ∧
      (reply (.planReadWindows 0#8 [128#8]) ready).length = 45 ∧
      reply (.planReadWindows 0#8 [129#8]) ready = [0x12#8, 1#8] ∧
      (after (.restart 0#8 []) ready).li.restarting = true ∧ (reply (.poll 0#8 []) ready).length = 60 := by decide

/-- ConfigGetAnswersPages: a page, the page past the last, and an index out of range. -/
theorem witness_config_get :
    (reply (.configGetSensor 0#8 [7#8, 0#8, 0#8]) ready).take 3 = [0#8, 0#8, 1#8] ∧
      reply (.configGetSensor 0#8 [7#8, 0#8, 1#8]) ready = [0x12#8, 0xFE#8] ∧
      reply (.configGetSensor 0#8 [8#8, 0#8, 0#8]) ready = [0x12#8, 0#8] := by decide

/-- SensorRecordIsWritten and SideRecordIsWritten, in CONFIG and outside it, and FirstFieldOutOfRangeIsRefused. -/
theorem witness_records :
    let sensor (role : Nat) (lockN : Nat) : Instr := .configSetSensor 0#8 (le 2 7 ++ le 2 role ++ le 2 0 ++ leInt 2 (-7)
      ++ le 2 lockN ++ le 2 7 ++ le 2 500 ++ leInt 2 (-20000))
    let side (mode : Nat) : Instr := .configSetSide 0#8 (le 2 1 ++ le 2 mode ++ le 2 1 ++ le 2 50 ++ le 2 0
      ++ le 2 255 ++ le 2 255 ++ le 2 1000 ++ le 2 100 ++ le 2 0 ++ le 2 0 ++ le 2 0 ++ le 2 1000 ++ le 2 400 ++ le 2 1
      ++ le 2 500)
    reply (sensor 1 31) State.reset = [0x00#8] ∧ reply (sensor 1 31) ready = [0x13#8] ∧
      reply (sensor 0 31) ready = [0x00#8] ∧ reply (sensor 0 32) ready = [0x12#8, 4#8] ∧
      reply (side 1) State.reset = [0x00#8] ∧ reply (side 1) ready = [0x13#8] ∧ reply (side 0) ready = [0x00#8] := by decide

/-- PlanAndPulseRecordsAreWritten, BeltRecordIsWritten and OtherRecordsAreWritten. -/
theorem witness_more_records :
    let f (l : List Nat) : List Byte := l.flatMap (le 2)
    let pulse (scale : Nat) : Instr := .configSetPulse 0#8 (f [0, 2, 256, scale, 0])
    let belt (length cap : Nat) : Instr := .configSetBelt 0#8 (f [0, length, cap, 20, 100, 6000, 100, 0, 100])
    reply (.configSetPlan 0#8 (f [0, 500, 20, 30, 500, 0, 32, 60])) cutting = [0x00#8] ∧
      reply (pulse 1000) ready = [0x00#8] ∧ reply (pulse 100) ready = [0x13#8] ∧ reply (pulse 100) State.reset = [0x00#8] ∧
      reply (belt 12800 10) ready = [0x00#8] ∧ reply (belt 3200 10) ready = [0x13#8] ∧
      reply (.configSetOutput 0#8 (f [2, 2000, 0])) ready = [0x00#8] ∧
      reply (.configSetOutput 0#8 (f [1, 100, 1])) ready = [0x13#8] ∧
      (after (.configSetLink 0#8 (f [0, 9, 0])) ready).li.statusTimer = none ∧
      reply (.configSetSupply 0#8 (f [0, 3])) ready = [0x00#8] := by decide

/-- BeltRecordIsWritten: a C cut from 40 to 20 with a truck whose target the belt then holds (R137's example). -/
theorem witness_belt_cut :
    let f (l : List Nat) : List Byte := l.flatMap (le 2)
    let s := { ready with
      btq := { ready.btq with segs := ⟨46, .current⟩ :: List.replicate 31 ⟨0, .current⟩ },
      tlu := { ready.tlu with current := some ⟨.loading, 1, 40, 0, 0⟩ } }
    let t := after (.configSetBelt 0#8 (f [0, 12800, 20, 20, 100, 6000, 100, 0, 100])) s
    (intakeVolume t.btq.segs, t.btq.lostTotal, isPending .spill t) = (40, 6, true) ∧
      t.tlu.current.map Truck.state = some .closing ∧ isPending .truckClosing t = true := by decide

/-- WrittenRecordReadsBack: a LIMITS record written in CONFIG. -/
theorem witness_reads_back :
    let rest := ([0, 600, 0, 0, 1000, 0, 64, 4000, 0, 0, 15, 7, 4400] : List Nat).flatMap (le 2)
    reply (.configSetLimits 0#8 rest) State.reset = [0x00#8] ∧
      ((after (.configSetLimits 0#8 rest) State.reset).cfg.limits.fields) = rest ∧
      reply (.configSetLimits 0#8 rest) ready = [0x13#8] := by decide

/-- ChannelRequestsActOnOneChannel: each check at its bound. -/
theorem witness_channel_requests :
    let load (n : Nat) (y : Int) : Instr := .lintabLoad 0#8 (le 2 n ++ leInt 2 y ++ (List.replicate 8 (leInt 2 0)).flatten)
    let put (n : Byte) (v : Int) : Instr := .substitute 0#8 (n :: leInt 2 v)
    let s := withHeight ready
    reply (load 8 0) State.reset = [0x12#8, 0#8] ∧ reply (load 7 20001) State.reset = [0x12#8, 1#8] ∧
      reply (load 7 20000) ready = [0x13#8] ∧ reply (load 7 20000) State.reset = [0x00#8] ∧
      reply (put 8#8 0) s = [0x12#8, 0#8] ∧ reply (put 0#8 (-20001)) s = [0x12#8, 1#8] ∧
      reply (put 0#8 (-20000)) State.reset = [0x13#8] ∧ reply (put 1#8 0) s = [0x15#8] ∧
      (after (put 0#8 20000) s).sfe.chans.a0.subst = some 20000 ∧ reply (.release 0#8 [8#8]) s = [0x12#8, 0#8] ∧
      reply (.release 0#8 [7#8]) s = [0x00#8] := by decide

/-- ChannelRequestsActOnOneChannel: a SUBSTITUTE on a channel of a capture, in flight and due. -/
theorem witness_substitute_capture :
    let t (n : Nat) := after (.substitute 0#8 [0#8, 0#8, 0#8]) (withHeight { ready with
      sfe := { ready.sfe with capture := some { sums := [(.a0, 8288)], depthNow := 1200, count := n } } })
    let out (x : State) := (x.sfe.capture, x.sfe.chans.a0.cfg.zero, isPending .zeroDone x, isPending .zeroFailed x)
    out (t 31) = (none, 0, false, true) ∧ out (t 32) = (none, -941, true, false) := by decide

/-- A configuration that COMMISSION takes. -/
def complete : State :=
  withChan .a2 { height with cfg := { height.cfg with role := .pressure } }
    (withChan .a1 { height with cfg := { height.cfg with side := .right } } (withHeight State.reset))

/-- CommissionAndDecommission: the first failing check, all checks, and the way back. -/
theorem witness_commission :
    reply (.commission 0#8 []) State.reset = [0x18#8, 2#8, 1#8] ∧ reply (.commission 0#8 []) complete = [0x00#8] ∧
      reply (.commission 0#8 []) ready = [0x13#8] ∧ reply (.decommission 0#8 []) complete = [0x13#8] ∧
      (after (.decommission 0#8 []) (after (.commission 0#8 []) complete)).csc.state = .config := by decide

/-- PlanRequestsKeepOrder: PLAN_CLEAR in READY, in an active state and held by STOP (PLAN_APPEND: test_append). -/
theorem witness_plan_clear :
    let s (c : CutState) : State := { onPlan with csc := { (inState c).csc with cause := some .stop } }
    reply (.planClear 0#8 []) (s .holdHard) = [0x13#8] ∧ (after (.planClear 0#8 []) (s .ready)).pt.list = [] ∧
      isPending .planEnd (after (.planClear 0#8 []) (s .cutting)) = true ∧
      isPending .planEnd (after (.planClear 0#8 []) (s .ready)) = false := by decide

/-- PLAN_APPEND that does not fit: 127 waypoints and three records (section 4.1). -/
theorem witness_append_full :
    let w (x : Nat) : List Byte := le 4 x ++ le 2 0 ++ le 2 0 ++ le 2 0
    let s := withPlan ((List.range 127).map fun k => ⟨k, 0, 0, none⟩) 0 ready
    reply (.planAppend 0#8 (w 200 ++ w 201 ++ w 202)) s = [0x16#8, 1#8] := by decide +kernel

/-- WindowAndStationRequests: each check at its bound. -/
theorem witness_windows :
    let set (i : Byte) (start len : Nat) : Instr := .windowSet 0#8 (i :: (le 4 start ++ le 2 len ++ le 2 10 ++ le 2 3500))
    reply (set 4#8 100 100) onPlan = [0x12#8, 0#8] ∧ reply (set 1#8 50000001 100) onPlan = [0x12#8, 1#8] ∧
      reply (set 1#8 200 99) onPlan = [0x12#8, 2#8] ∧ reply (set 1#8 139 100) onPlan = [0x17#8, 0#8] ∧
      reply (set 1#8 140 100) onPlan = [0x00#8] ∧ reply (set 0#8 0 100) onPlan = [0x00#8] ∧
      reply (.windowClear 0#8 [4#8]) onPlan = [0x12#8, 0#8] ∧
      (after (.windowClear 0#8 [0#8]) onPlan).pt.windows.w0.valid = false ∧
      (after (.windowClear 0#8 [1#8]) { onPlan with pt := { onPlan.pt with
        windows := { onPlan.pt.windows with w1 := ⟨false, true, 0, 100, 0, 0⟩ } } }).pt.windows.w1.entered = true := by decide

theorem witness_station :
    reply (.stationSet 0#8 (le 4 50000001)) ready = [0x12#8, 0#8] ∧ reply (.stationSet 0#8 (le 4 5)) cutting = [0x13#8] ∧
      (after (.stationSet 0#8 (le 4 50000000)) ready).pcu.high = 50000000 ∧
      isPending .planEnd (after (.stationSet 0#8 (le 4 30)) { onPlan with csc := ready.csc }) = true := by decide

/-- A part in READY that ENGAGE takes. -/
def engageable : State :=
  let side := { SideRef.reset with ref := .full }
  { onPlan with csc := ready.csc, vos := { ready.vos with supply := 160 },
                sru := { ready.sru with sides := ⟨side, side⟩ }, pcu := { onPlan.pcu with drumSpeed := 40 } }

/-- CutStateRequests: ENGAGE, LIFT, HOLD and RESUME in the states that take and refuse them. -/
theorem witness_cut_requests :
    let s (c : CutState) : State := { engageable with csc := (inState c).csc }
    let now (i : Instr) (c : CutState) := (after i (s c)).csc.state
    now (.engage 0#8 []) .ready = .engaging ∧ reply (.engage 0#8 []) ready = [0x15#8] ∧
      now (.lift 0#8 []) .cutting = .lifting ∧ now (.lift 0#8 []) .ready = .ready ∧
      now (.holdSoft 0#8 []) .lifting = .holdSoft ∧ now (.holdHard 0#8 []) .ready = .holdHard ∧
      now (.resume 0#8 []) .holdSoft = .engaging ∧ now (.resume 0#8 []) .holdHard = .ready ∧
      reply (.resume 0#8 []) (inState .holdHard) = [0x15#8] := by decide

/-- MaterialBeltAndTruckNext: each check at its bound. -/
theorem witness_material_belt_truck :
    let next (n t : Nat) : Instr := .truckNext 0#8 (le 2 n ++ le 4 t)
    reply (.materialSetAuto 0#8 [2#8]) ready = [0x12#8, 1#8] ∧
      (after (.materialSetManual 0#8 [1#8]) ready).dlm.material = .hard ∧
      reply (.beltMode 0#8 [3#8]) ready = [0x12#8, 0#8] ∧ reply (.beltMode 0#8 [2#8]) State.reset = [0x13#8] ∧
      (after (.beltMode 0#8 [2#8]) ready).btq.mode = .follow ∧ reply (next 0 10) ready = [0x12#8, 0#8] ∧
      reply (next 1 9) ready = [0x12#8, 1#8] ∧ reply (next 65535 200000) ready = [0x00#8] ∧
      reply (next 1 10) (after (next 1 10) ready) = [0x14#8] := by decide

/-- TrucksComeAndGo: refused, taken in, and sent away. -/
theorem witness_trucks :
    let s := { ready with tlu := { ready.tlu with next := some ⟨4, 50⟩ } }
    let t := after (.truckIn 0#8 []) s
    reply (.truckIn 0#8 []) ready = [0x15#8] ∧ reply (.truckIn 0#8 []) t = [0x14#8] ∧
      t.tlu.current.map Truck.number = some 4 ∧ reply (.truckOut 0#8 []) ready = [0x15#8] ∧
      (after (.truckOut 0#8 []) t).tlu.log.length = 1 := by decide

/-- EventTableRequests: each check at its bound, a source that latches when it is enabled, and an acknowledgement. -/
theorem witness_event_requests :
    let route (i e r : Byte) : Instr := .eventRoute 0#8 [i, e, r]
    let off := after (.eventAck 0#8 [128#8, 0#8, 0#8, 0#8]) (after (route 7#8 0#8 0#8) ready)
    reply (route 25#8 0#8 0#8) ready = [0x12#8, 0#8] ∧ reply (route 24#8 2#8 0#8) ready = [0x12#8, 1#8] ∧
      reply (route 24#8 1#8 2#8) ready = [0x12#8, 2#8] ∧ isPending .planLow off = false ∧
      isPending .planLow (after (route 7#8 1#8 1#8) off) = true ∧
      isPending .planLow (after (.eventAck 0#8 [128#8, 0#8, 0#8, 0#8]) ready) = true := by decide

/-- VolumeEquationKept, QueueOrderKept and PromisesKept: the state after reset meets every premise (see
ResetMeetsEveryPromise), and a step answers next from it. -/
theorem witness_promises :
    VolumeBalanced State.reset ∧ QueueShape State.reset ∧ TagsOrdered State.reset.btq.segs ∧
      TagsFollowTruck State.reset ∧ goesOn (step State.reset) = true := by decide

end Sys2Proof.Tests
end

namespace Sys2Proof.Machine

/-! ### Marks of the event word -/

theorem marked_markBit (i j : Nat) : marked (markBit i) j = (decide (j = i) && decide (j < 25)) := by
  unfold marked markBit
  rw [Bool.eq_iff_iff]
  simp only [BitVec.getLsbD_shiftLeft, BitVec.getLsbD_one, Bool.and_eq_true, decide_eq_true_eq, Bool.not_eq_true',
    decide_eq_false_iff_not]
  omega

theorem marked_or (v w : EventWord) (j : Nat) : marked (v ||| w) j = (marked v j || marked w j) := by
  simp [marked]

theorem marked_setMark (w : EventWord) (i j : Nat) (b : Bool) (hj : j < 25) :
    marked (setMark w i b) j = if j = i then b else marked w j := by
  have hbit := marked_markBit i j
  unfold marked at *
  cases b <;> by_cases h : j = i <;> simp_all [setMark]

/-- R209, mark by mark: each enabled level source whose condition is true is pending. -/
def Events.Latched (e : Events) : Prop :=
  ∀ j < 25, marked e.enable j = true → marked e.cond j = true → marked levelSources j = true →
    marked e.pending j = true

theorem levelsLatched_iff (s : State) : LevelsLatched s ↔ s.li.events.Latched := by
  constructor
  · intro h j hj he hc hl
    have hbit := congrArg (fun w : EventWord => w.getLsbD j) h
    unfold marked at *
    simpa [he, hc, hl, hj] using hbit
  · intro h
    refine BitVec.eq_of_getLsbD_eq fun j hj => ?_
    have := h j hj
    unfold marked at this
    simp only [BitVec.getLsbD_and, BitVec.getLsbD_not, hj, decide_true, Bool.true_and, BitVec.getLsbD_zero]
    grind

theorem latch_pending_marked (i j : Nat) (s : State) (hj : j < 25) :
    marked (latch i s).li.events.pending j = (marked s.li.events.pending j || decide (j = i)) := by
  unfold latch
  split
  · rename_i h
    by_cases hji : j = i <;> simp_all
  · simp [marked_or, marked_markBit, hj]

@[simp] theorem latch_enable (i : Nat) (s : State) : (latch i s).li.events.enable = s.li.events.enable := by
  unfold latch; split <;> rfl
@[simp] theorem latch_cond (i : Nat) (s : State) : (latch i s).li.events.cond = s.li.events.cond := by
  unfold latch; split <;> rfl
@[simp] theorem latch_replies (i : Nat) (s : State) : (latch i s).li.replies = s.li.replies := by
  unfold latch; split <;> rfl
@[simp] theorem raise_replies (e : EventSrc) (s : State) : (raise e s).li.replies = s.li.replies := by
  unfold raise; split <;> simp
@[simp] theorem setCond_replies (e : EventSrc) (b : Bool) (s : State) :
    (setCond e b s).li.replies = s.li.replies := by
  unfold setCond; dsimp only; split <;> simp

/-- A latch makes a mark pending and takes none away. -/
theorem latch_latched (i : Nat) {s : State} (h : s.li.events.Latched) : (latch i s).li.events.Latched := by
  intro j hj he hc hl
  rw [latch_pending_marked _ _ _ hj, h j hj (by simpa using he) (by simpa using hc) hl, Bool.true_or]

/-- A condition that becomes true latches its source where it is enabled. -/
theorem setCond_latched (e : EventSrc) (b : Bool) {s : State} (h : s.li.events.Latched) :
    (setCond e b s).li.events.Latched := by
  intro j hj he hc hl
  unfold setCond at he hc ⊢
  dsimp only at he hc ⊢
  split at hc <;> rename_i hb
  · rw [if_pos hb] at he ⊢
    rw [latch_pending_marked _ _ _ hj]
    simp only [latch_enable, latch_cond, State.mapLi_li, marked_setMark _ _ _ _ hj] at he hc ⊢
    by_cases hje : j = e.id
    · simp [hje]
    · rw [if_neg hje] at hc
      rw [h j hj he hc hl, Bool.true_or]
  · rw [if_neg hb] at he ⊢
    simp only [State.mapLi_li, marked_setMark _ _ _ _ hj] at he hc ⊢
    by_cases hje : j = e.id
    · rw [if_pos hje] at hc
      simp_all
    · rw [if_neg hje] at hc
      exact h j hj he hc hl

/-- R212: a level source whose condition is true latches when it is enabled. -/
theorem writeRoute_latched (i : Nat) (enable route : Bool) {s : State} (h : s.li.events.Latched) :
    (writeRoute i enable route s).li.events.Latched := by
  intro j hj he hc hl
  unfold writeRoute at he hc ⊢
  dsimp only at he hc ⊢
  split at hc <;> rename_i hb
  · rw [if_pos hb] at he ⊢
    rw [latch_pending_marked _ _ _ hj]
    simp only [latch_enable, latch_cond, State.mapLi_li, marked_setMark _ _ _ _ hj] at he hc ⊢
    by_cases hji : j = i
    · simp [hji]
    · rw [if_neg hji] at he
      rw [h j hj he hc hl, Bool.true_or]
  · rw [if_neg hb] at he ⊢
    simp only [State.mapLi_li, marked_setMark _ _ _ _ hj] at he hc ⊢
    by_cases hji : j = i
    · rw [if_pos hji] at he
      subst hji
      simp_all
    · rw [if_neg hji] at he
      exact h j hj he hc hl

/-- R211: a level source that is enabled and true stays pending over its acknowledgement. -/
theorem acknowledge_latched (mask : EventWord) {e : Events} (h : e.Latched) : (acknowledge mask e).Latched := by
  intro j hj he hc hl
  have hp := h j hj he hc hl
  unfold marked acknowledge at *
  dsimp only at he hc ⊢
  simp only [BitVec.getLsbD_or, BitVec.getLsbD_and, BitVec.getLsbD_not, hj, hp, he, hc, hl, decide_true,
    Bool.true_and, Bool.and_true]
  cases mask.getLsbD j <;> rfl

/-! ### What an operation carries over -/

/-- Each promise on the blocks that holds before an operation holds after it. -/
structure Carried (s t : State) : Prop where
  levels : LevelsLatched s → LevelsLatched t := by dsimp only [LevelsLatched]; simp
  station : StationInRange s → StationInRange t := by dsimp only [StationInRange]; simp
  timer : TimerFollowsState s → TimerFollowsState t := by dsimp only [TimerFollowsState]; simp
  jog : TimerFollowsState s → JogOnlyInReady s → JogOnlyInReady t := by dsimp only [JogOnlyInReady]; simp
  neutral : NeutralWhenHeld s → NeutralWhenHeld t := by dsimp only [NeutralWhenHeld]; simp
  held : HeldOnlyWhereAllowed s → HeldOnlyWhereAllowed t := by dsimp only [HeldOnlyWhereAllowed]; simp
  plan : PlanOrdered s.pt.list → PlanOrdered t.pt.list := by simp
  windows : WindowsApart s.pt.windows → WindowsApart t.pt.windows := by simp
  log : LogFits s → LogFits t := by dsimp only [LogFits]; simp
  counters : (∀ i, CountersApart (s.sfe.chans.get i)) → ∀ i, CountersApart (t.sfe.chans.get i) := by simp
  ownerless : ∀ i, NoneMeansZero (s.vos.legs.get i) → NoneMeansZero (t.vos.legs.get i) := by simp
  setpoint : ∀ i, SetpointInRange s.cfg.plan.maxDepth (s.dlu.get i) →
    SetpointInRange t.cfg.plan.maxDepth (t.dlu.get i) := by simp
  integ : ∀ i, IntegratorLimited (s.cfg.side.get i) (s.dlu.get i) →
    IntegratorLimited (t.cfg.side.get i) (t.dlu.get i) := by simp

/-- An operation that carries every promise over and adds no reply (R200). -/
structure Kept (s t : State) : Prop extends Carried s t where
  replies : t.li.replies.length ≤ s.li.replies.length := by simp

theorem Carried.trans {s t u : State} (h : Carried s t) (k : Carried t u) : Carried s u where
  levels := k.levels ∘ h.levels
  station := k.station ∘ h.station
  timer := k.timer ∘ h.timer
  jog ht hj := k.jog (h.timer ht) (h.jog ht hj)
  neutral := k.neutral ∘ h.neutral
  held := k.held ∘ h.held
  plan := k.plan ∘ h.plan
  windows := k.windows ∘ h.windows
  log := k.log ∘ h.log
  counters := k.counters ∘ h.counters
  ownerless i := k.ownerless i ∘ h.ownerless i
  setpoint i := k.setpoint i ∘ h.setpoint i
  integ i := k.integ i ∘ h.integ i

theorem Kept.rfl {s : State} : Kept s s := {}

theorem Kept.trans {s t u : State} (h : Kept s t) (k : Kept t u) : Kept s u where
  toCarried := h.toCarried.trans k.toCarried
  replies := k.replies.trans h.replies

/-- A branch keeps what both of its arms keep. -/
theorem Kept.ite {s a b : State} {p : Prop} [Decidable p] (ha : p → Kept s a) (hb : ¬p → Kept s b) :
    Kept s (if p then a else b) := by
  split
  · exact ha ‹_›
  · exact hb ‹_›

/-! ### Updates of one block -/

theorem mapPins_kept (f : Pins → Pins) (s : State) : Kept s (s.mapPins f) := {}
theorem mapSru_kept (f : Sru → Sru) (s : State) : Kept s (s.mapSru f) := {}
theorem mapDlm_kept (f : Dlm → Dlm) (s : State) : Kept s (s.mapDlm f) := {}
theorem mapBtq_kept (f : Btq → Btq) (s : State) : Kept s (s.mapBtq f) := {}

theorem mapCfg_kept {f : Records → Records} {s : State} (hp : (f s.cfg).plan.maxDepth = s.cfg.plan.maxDepth)
    (hs : (f s.cfg).side = s.cfg.side) : Kept s (s.mapCfg f) where
  setpoint := by simp [hp]
  integ := by simp [hs]

theorem mapPcu_kept {f : Pcu → Pcu} {s : State} (h : StationInRange s →
    (f s.pcu).station ≤ (f s.pcu).high ∧ (f s.pcu).high ≤ Config.maxStation) : Kept s (s.mapPcu f) where
  station := h

theorem mapPcu_still_kept {f : Pcu → Pcu} {s : State} (hs : (f s.pcu).station = s.pcu.station)
    (hh : (f s.pcu).high = s.pcu.high) : Kept s (s.mapPcu f) :=
  mapPcu_kept fun h => by rw [hs, hh]; exact h

theorem mapTlu_kept {f : Tlu → Tlu} {s : State} (h : s.tlu.log.length ≤ 8 → (f s.tlu).log.length ≤ 8) :
    Kept s (s.mapTlu f) where
  log := h

theorem mapCsc_kept {f : Csc → Csc} {s : State} (hs : (f s.csc).state = s.csc.state)
    (ht : (f s.csc).stateTimer.isSome = s.csc.stateTimer.isSome) : Kept s (s.mapCsc f) where
  timer := by dsimp only [TimerFollowsState]; simp [hs, ht]
  jog := by dsimp only [JogOnlyInReady]; simp [hs]
  neutral := by dsimp only [NeutralWhenHeld]; simp [hs]
  held := by dsimp only [HeldOnlyWhereAllowed]; simp [hs]

theorem mapVos_kept {f : Vos → Vos} {s : State} (hl : (f s.vos).legs = s.vos.legs)
    (hb : (f s.vos).beltHeld = s.vos.beltHeld) : Kept s (s.mapVos f) where
  jog := by dsimp only [JogOnlyInReady]; simp [hl]
  neutral := by dsimp only [NeutralWhenHeld]; simp [hl, hb]
  ownerless := by simp [hl]

theorem mapLi_kept {f : Li → Li} {s : State} (he : s.li.events.Latched → (f s.li).events.Latched)
    (hr : (f s.li).replies.length ≤ s.li.replies.length) : Kept s (s.mapLi f) where
  levels := by simp only [levelsLatched_iff]; exact he
  replies := hr

/-- What an operation on one channel must keep: the counters apart, and no new substitute. -/
def Channel.Keeps (c d : Channel) : Prop :=
  (CountersApart c → CountersApart d) ∧ (c.subst = none → d.subst = none)

theorem Channel.Keeps.rfl {c : Channel} : c.Keeps c := ⟨id, id⟩

theorem mapSfe_kept {f : Sfe → Sfe} {s : State}
    (hc : ∀ i, (s.sfe.chans.get i).Keeps ((f s.sfe).chans.get i))
    (hk : s.sfe.capture = none → (f s.sfe).capture = none) : Kept s (s.mapSfe f) where
  held h := ⟨fun hs i => (hc i).2 (h.1 hs i), fun hs => hk (h.2 hs)⟩
  counters h i := (hc i).1 (h i)

theorem mapChan_kept {i : Chan} {f : Channel → Channel} {s : State}
    (h : (s.sfe.chans.get i).Keeps (f (s.sfe.chans.get i))) : Kept s (s.mapChan i f) := by
  refine mapSfe_kept (fun j => ?_) id
  by_cases hj : j = i
  · subst hj
    simpa using h
  · simpa only [Chans.get_set_of_ne _ _ hj] using Channel.Keeps.rfl

/-! ### Events -/

theorem latch_kept (i : Nat) (s : State) : Kept s (latch i s) where
  levels := by simp only [levelsLatched_iff]; exact latch_latched i

theorem raise_kept (e : EventSrc) (s : State) : Kept s (raise e s) := by
  unfold raise
  exact .ite (fun _ => latch_kept _ _) fun _ => .rfl

theorem setCond_kept (e : EventSrc) (b : Bool) (s : State) : Kept s (setCond e b s) where
  levels := by simp only [levelsLatched_iff]; exact setCond_latched e b

end Sys2Proof.Machine

namespace Sys2Proof.Machine

/-! ### Sensor channels -/

theorem Channel.sample_counters (r : Nat) {c : Channel} (h : CountersApart c) : CountersApart (c.sample r) := by
  obtain ⟨hq, hu⟩ := h
  unfold Channel.sample
  cases hc : c.qual
  · have hl := hq hc
    simp only [Channel.read, hc, Channel.judgeQualified]
    split
    · simp [hl, CountersApart]
    · split <;> simp [hl, CountersApart]
  · have hl := hu hc
    simp only [Channel.read, hc, Channel.judgeUnqualified]
    split
    · simp [hl, CountersApart]
    · split
      · split <;> simp [hl, CountersApart]
      · simp [hl, CountersApart]

@[simp] theorem Channel.sample_subst (r : Nat) (c : Channel) : (c.sample r).subst = c.subst := by
  unfold Channel.sample
  dsimp only
  split
  · unfold Channel.judgeQualified
    split
    · rfl
    · split <;> rfl
  · unfold Channel.judgeUnqualified
    split
    · rfl
    · split
      · split <;> rfl
      · rfl

theorem Channel.sample_keeps (r : Nat) (c : Channel) : c.Keeps (c.sample r) :=
  ⟨Channel.sample_counters r, fun h => (Channel.sample_subst r c).trans h⟩

theorem Channel.SameButZero.keeps {c d : Channel} (h : d.SameButZero c) : c.Keeps d := by
  rw [h]; exact Channel.Keeps.rfl

theorem judgeChannelFault_kept (s : State) : Kept s (judgeChannelFault s) := setCond_kept _ _ _

theorem completeCapture_kept (s : State) : Kept s (completeCapture s) := by
  unfold completeCapture
  split
  · exact .rfl
  · exact .ite (fun _ => (mapSfe_kept (fun i => (writeZeros_same _ _ _ i).keeps) fun _ => rfl).trans (raise_kept _ _))
      fun _ => .rfl

theorem failCapture_kept (s : State) : Kept s (failCapture s) := by
  unfold failCapture
  split
  · exact .rfl
  · exact .ite (fun _ => completeCapture_kept s) fun _ =>
      (mapSfe_kept (fun _ => .rfl) fun _ => rfl).trans (raise_kept _ _)

/-- No capture is in flight after an occurrence that fails or completes it. -/
theorem failCapture_capture (s : State) : (failCapture s).sfe.capture = none := by
  unfold failCapture completeCapture
  cases h : s.sfe.capture with
  | none => simpa using h
  | some k => by_cases hk : 32 ≤ k.count <;> simp [hk]

theorem countCapture_kept (s : State) : Kept s (countCapture s) :=
  mapSfe_kept (fun _ => .rfl) fun h => by simp [h]

theorem removeSubstitutes_kept (s : State) : Kept s (removeSubstitutes s) :=
  mapSfe_kept (fun i => by simp [Channel.Keeps, CountersApart]) id

theorem scanChannels_kept (scan : Scan) (s : State) : Kept s (scanChannels scan s) :=
  ((mapSfe_kept (fun i => by simpa using Channel.sample_keeps _ _) id).trans (mapVos_kept rfl rfl)).trans
    (judgeChannelFault_kept _)

theorem unlockChannel_kept (i : Chan) (raw : Nat) (s : State) : Kept s (unlockChannel i raw s) :=
  .ite (fun _ => ((mapChan_kept (Channel.sample_keeps _ _)).trans (judgeChannelFault_kept _)).trans
    (.ite (fun _ => failCapture_kept _) fun _ => .rfl)) fun _ => .rfl

theorem lockChannel_kept (i : Chan) (raw : Nat) (s : State) : Kept s (lockChannel i raw s) :=
  .ite (fun _ => (mapChan_kept (Channel.sample_keeps _ _)).trans (judgeChannelFault_kept _)) fun _ => .rfl

/-! ### Side readings, load and material -/

theorem readSides_kept (s : State) : Kept s (readSides s) :=
  (mapSru_kept _ _).trans ((((setCond_kept _ _ _).trans (setCond_kept _ _ _)).trans (setCond_kept _ _ _)).trans
    (setCond_kept _ _ _))

theorem judgeMaterial_kept (s : State) : Kept s (judgeMaterial s) := setCond_kept _ _ _

theorem closeClassWindow_kept (s : State) : Kept s (closeClassWindow s) :=
  .ite (fun _ => (mapDlm_kept _ _).trans (judgeMaterial_kept _)) fun _ => .rfl

theorem sampleLoad_kept (apart : Bool) (s : State) : Kept s (sampleLoad apart s) :=
  .ite (fun _ => mapDlm_kept _ _) fun _ => (mapDlm_kept _ _).trans (closeClassWindow_kept _)

/-! ### Belt and trucks -/

/-- A belt drive keeps the promises where it is 0 in the states that force the outputs neutral (R185). -/
theorem setBeltDrive_kept {d : Nat} {s : State} (h : s.csc.state.neutral = true → d = 0) :
    Kept s (setBeltDrive d s) where
  neutral := by
    intro hn hs
    obtain ⟨hl, hr, -⟩ := hn hs
    exact ⟨hl, hr, h hs⟩
  log := id
  plan := id
  windows := id
  jog _ := id
  ownerless _ := id

theorem workOutPause_kept (s : State) : Kept s (workOutPause s) :=
  .ite (fun _ => ((mapBtq_kept _ _).trans (setCond_kept _ _ _)).trans (setBeltDrive_kept fun _ => rfl))
    fun _ => (mapBtq_kept _ _).trans (setCond_kept _ _ _)

theorem spillVolume_kept (v : Nat) (s : State) : Kept s (spillVolume v s) :=
  .ite (fun _ => (mapBtq_kept _ _).trans (raise_kept _ _)) fun _ => mapBtq_kept _ _

theorem predictClosing_kept (s : State) : Kept s (predictClosing s) := by
  unfold predictClosing
  split
  · exact .rfl
  · exact .ite (fun _ => ((mapTlu_kept id).trans (raise_kept _ _)).trans (workOutPause_kept _)) fun _ => .rfl

theorem closeTruck_kept (reason : CloseReason) (s : State) : Kept s (closeTruck reason s) := by
  unfold closeTruck
  split
  · exact .rfl
  · exact mapTlu_kept fun _ => List.length_take_le ..

theorem judgeClose_kept (s : State) : Kept s (judgeClose s) :=
  .ite (fun _ => ((closeTruck_kept _ _).trans (raise_kept _ _)).trans (workOutPause_kept _)) fun _ => .rfl

theorem discharge_kept (s : State) : Kept s (discharge s) := by
  unfold discharge
  dsimp only
  split
  · exact mapTlu_kept id
  · exact spillVolume_kept _ _

theorem shift_kept (s : State) : Kept s (shift s) :=
  (((discharge_kept s).trans (mapBtq_kept _ _)).trans (judgeClose_kept _)).trans (workOutPause_kept _)

theorem shifts_kept (n : Nat) (s : State) : Kept s (shifts n s) := by
  induction n generalizing s with
  | zero => exact .rfl
  | succ n ih => exact (shift_kept s).trans (ih _)

theorem beltTravel_kept (d : Nat) (s : State) : Kept s (beltTravel d s) := (mapBtq_kept _ _).trans (shifts_kept _ _)

theorem intake_kept (delta : Nat) (s : State) : Kept s (intake delta s) :=
  .ite (fun _ => ((mapBtq_kept _ _).trans (spillVolume_kept _ _)).trans (predictClosing_kept _)) fun _ => .rfl

theorem applyCapacity_kept (s : State) : Kept s (applyCapacity s) :=
  (((mapBtq_kept _ _).trans (spillVolume_kept _ _)).trans (workOutPause_kept _)).trans (predictClosing_kept _)

theorem settleBeltStall_kept (s : State) : Kept s (settleBeltStall s) :=
  .ite (fun _ => ((mapBtq_kept _ _).trans (setBeltDrive_kept fun _ => rfl)).trans (setCond_kept _ _ _)) fun _ => .rfl

theorem testBeltStall_kept (apart : Bool) (s : State) : Kept s (testBeltStall apart s) :=
  .ite (fun _ => mapBtq_kept _ _) fun _ => (mapBtq_kept _ _).trans (settleBeltStall_kept _)

/-- R131: in the neutral states the drive is formed as 0. -/
theorem formBeltDrive_kept (s : State) : Kept s (formBeltDrive s) :=
  (mapBtq_kept _ _).trans (setBeltDrive_kept fun hs => by
    rw [State.mapBtq_csc] at hs
    rw [hs, Bool.or_true, if_pos rfl])

theorem beltSpeedUpdate_kept (apart : Bool) (s : State) : Kept s (beltSpeedUpdate apart s) :=
  ((mapBtq_kept _ _).trans (testBeltStall_kept _ _)).trans (formBeltDrive_kept _)

theorem takeBeltMode_kept (m : BeltMode) (s : State) : Kept s (takeBeltMode m s) :=
  ((settleBeltStall_kept s).trans (mapBtq_kept _ _)).trans (setCond_kept _ _ _)

theorem retagQueue_kept (a b : Tag) (s : State) : Kept s (retagQueue a b s) :=
  (mapBtq_kept _ _).trans (workOutPause_kept _)

/-! ### Plan and windows -/

theorem consume_suffix (h : Nat) (l : List Waypoint) : consume h l <:+ l := by
  induction l with
  | nil => exact List.suffix_rfl
  | cons w rest ih =>
    cases rest with
    | nil => exact List.suffix_rfl
    | cons x rest =>
      unfold consume
      split
      · exact ih.trans (List.suffix_cons _ _)
      · exact List.suffix_rfl

theorem PlanOrdered.sublist {l m : List Waypoint} (h : PlanOrdered l) (hm : m.Sublist l) : PlanOrdered m :=
  ⟨hm.length_le.trans h.1, h.2.sublist hm⟩

/-- A window after a change that neither makes it valid nor moves its span. -/
def Window.Narrows (v w : Window) : Prop :=
  (w.valid = true → v.valid = true) ∧ w.start = v.start ∧ w.length = v.length ∧ w.lead = v.lead

theorem Window.Narrows.rfl {w : Window} : w.Narrows w := ⟨id, Eq.refl _, Eq.refl _, Eq.refl _⟩

theorem Window.Narrows.overlaps {v w v' w' : Window} (h : v.Narrows v') (k : w.Narrows w') :
    v'.overlaps w' = v.overlaps w := by
  obtain ⟨-, hs, hl, hd⟩ := h
  obtain ⟨-, ks, kl, kd⟩ := k
  simp [Window.overlaps, hs, hl, hd, ks, kl, kd]

theorem Window.overlaps_comm (v w : Window) : v.overlaps w = w.overlaps v := by
  simp only [Window.overlaps, Bool.and_comm]

theorem judgeWindow_narrows (h : Nat) (w : Window) : w.Narrows (judgeWindow h w).1 := by
  unfold judgeWindow
  split
  · exact ⟨fun _ => ‹_›, Eq.refl _, Eq.refl _, Eq.refl _⟩
  · exact .rfl

/-- R65, slot by slot. -/
theorem windowsApart_iff (w : Windows) : WindowsApart w ↔ ∀ i < 4, ∀ j < i,
    ¬((w.get j).valid = true ∧ (w.get i).valid = true ∧ (w.get j).overlaps (w.get i) = true) := by
  constructor
  · intro h i hi j hj
    have hp := List.pairwise_iff_getElem.1 h j i (by simp [Windows.all]; omega) (by simpa [Windows.all]) hj
    interval_cases i <;> interval_cases j <;> exact hp
  · intro h
    refine List.pairwise_iff_getElem.2 fun j i hj hi hji => ?_
    have hi : i < 4 := by simpa [Windows.all] using hi
    have hp := h i hi j hji
    interval_cases i <;> interval_cases j <;> exact hp

theorem WindowsApart.narrow {v w : Windows} (h : WindowsApart v) (hn : ∀ i < 4, (v.get i).Narrows (w.get i)) :
    WindowsApart w := by
  rw [windowsApart_iff] at h ⊢
  rintro i hi j hj ⟨h1, h2, h3⟩
  have hj4 := hn j (by omega)
  have hi4 := hn i hi
  exact h i hi j hj ⟨hj4.1 h1, hi4.1 h2, (hj4.overlaps hi4) ▸ h3⟩

theorem raiseWindow_kept (m : Bool × Bool) (s : State) : Kept s (raiseWindow m s) := by
  have first : Kept s (if m.1 then raise .windowEntered s else s) := .ite (fun _ => raise_kept _ _) fun _ => .rfl
  exact .ite (fun _ => first.trans (raise_kept _ _)) fun _ => first

theorem mapPt_kept {f : Pt → Pt} {s : State} (hl : PlanOrdered s.pt.list → PlanOrdered (f s.pt).list)
    (hw : WindowsApart s.pt.windows → WindowsApart (f s.pt).windows) : Kept s (s.mapPt f) where
  plan := hl
  windows := hw

theorem judgeWindows_kept (s : State) : Kept s (judgeWindows s) := by
  refine Kept.trans (mapPt_kept id fun h => h.narrow fun i hi => ?_)
    ((((raiseWindow_kept _ _).trans (raiseWindow_kept _ _)).trans (raiseWindow_kept _ _)).trans (raiseWindow_kept _ _))
  interval_cases i <;> exact judgeWindow_narrows _ _

theorem judgePlanEnd_kept (s : State) : Kept s (judgePlanEnd s) :=
  .ite (fun _ => (mapPt_kept id id).trans (raise_kept _ _)) fun _ => .rfl

theorem judgePlanLow_kept (s : State) : Kept s (judgePlanLow s) := setCond_kept _ _ _

theorem highWaterChanged_kept (s : State) : Kept s (highWaterChanged s) :=
  (((mapPt_kept (fun h => h.sublist (consume_suffix _ _).sublist) id).trans (judgeWindows_kept _)).trans
    (judgePlanEnd_kept _)).trans (judgePlanLow_kept _)

theorem emptyPlan_kept (s : State) : Kept s (emptyPlan s) :=
  (mapPt_kept (fun _ => ⟨by simp, by simp⟩) id).trans (judgePlanLow_kept _)

/-! ### Setpoints and loops -/

theorem clamp_mem {a b : Int} (h : a ≤ b) (x : Int) : a ≤ clamp a b x ∧ clamp a b x ≤ b := by
  rw [clamp_eq h]; omega

/-- R78: a limited setpoint is in range. -/
theorem limitSetpoint_mem (maxDepth : Nat) (x : Int) :
    -500 ≤ limitSetpoint maxDepth x ∧ limitSetpoint maxDepth x ≤ maxDepth :=
  clamp_mem (a := Config.minSetpoint) (by unfold Config.minSetpoint; omega) x

/-- R93: a limited integrator is within its limit. -/
theorem limitInteg_le (g : Gains) (x : Int) : (limitInteg g x).natAbs ≤ g.ilim := by
  have := clamp_mem (a := -(g.ilim : Int)) (b := g.ilim) (by omega) x
  unfold limitInteg
  omega

theorem rampSide_range (maxDepth slope delta : Nat) (target : Int) (l : Loop) :
    SetpointInRange maxDepth (rampSide maxDepth slope delta target l) := by
  unfold rampSide
  dsimp only
  split <;> exact limitSetpoint_mem _ _

theorem rampSide_integ (r : SideRec) (maxDepth slope delta : Nat) (target : Int) {l : Loop}
    (h : IntegratorLimited r l) : IntegratorLimited r (rampSide maxDepth slope delta target l) := by
  unfold rampSide
  dsimp only
  split <;> exact h

theorem mapDlu_kept {f : Sides Loop → Sides Loop} {s : State}
    (hs : ∀ i, SetpointInRange s.cfg.plan.maxDepth (s.dlu.get i) →
      SetpointInRange s.cfg.plan.maxDepth ((f s.dlu).get i))
    (hi : ∀ i, IntegratorLimited (s.cfg.side.get i) (s.dlu.get i) →
      IntegratorLimited (s.cfg.side.get i) ((f s.dlu).get i)) : Kept s (s.mapDlu f) where
  setpoint := hs
  integ := hi

theorem rampSides_kept (delta : Nat) (s : State) : Kept s (rampSides delta s) := by
  unfold rampSides
  split
  · refine mapDlu_kept (fun i _ => ?_) fun i h => ?_ <;> cases i
    · exact rampSide_range _ _ _ _ _
    · exact rampSide_range _ _ _ _ _
    · exact rampSide_integ _ _ _ _ _ h
    · exact rampSide_integ _ _ _ _ _ h
  · exact .rfl

theorem moveSetpoint_range (st : CutState) (plan : PlanRec) (target : Option Int) {l : Loop}
    (h : SetpointInRange plan.maxDepth l) : SetpointInRange plan.maxDepth (moveSetpoint st plan target l) := by
  unfold moveSetpoint
  split
  · exact limitSetpoint_mem _ _
  · exact limitSetpoint_mem _ _
  · exact h

theorem loopLaw_sp (g : Gains) (lost : Bool) (deadband : Nat) (l : Loop) : (loopLaw g lost deadband l).sp = l.sp := by
  unfold loopLaw
  dsimp only
  repeat' split
  all_goals rfl

theorem loopLaw_gain (g : Gains) (lost : Bool) (deadband : Nat) (l : Loop) :
    (loopLaw g lost deadband l).gain = l.gain := by
  unfold loopLaw
  dsimp only
  repeat' split
  all_goals rfl

theorem loopLaw_integ (g : Gains) (lost : Bool) (deadband : Nat) {l : Loop} (h : l.integ.natAbs ≤ g.ilim) :
    (loopLaw g lost deadband l).integ.natAbs ≤ g.ilim := by
  unfold loopLaw
  split
  · simp
  · split
    · exact h
    · dsimp only
      split
      · exact limitInteg_le _ _
      · dsimp only
        split
        · exact limitInteg_le _ _
        · exact h

theorem lawSide_integ (r : SideRec) (m : Material) (lost : Bool) (l : Loop) :
    IntegratorLimited r (lawSide r m lost l) := by
  unfold lawSide IntegratorLimited
  simp only [loopLaw_gain]
  exact loopLaw_integ _ _ _ (limitInteg_le _ _)

theorem loopSide_sp (st : CutState) (plan : PlanRec) (r : SideRec) (m : Material) (target : Option Int) (ref : SideRef)
    (runs : Bool) (l : Loop) :
    (loopSide st plan r m target ref runs l).sp = (moveSetpoint st plan target (resetInteg ref.leftLost l)).sp := by
  unfold loopSide
  cases runs <;> simp [judgeSettle, judgeError, lawSide, loopLaw_sp, selectGains]

theorem moveSetpoint_integ (r : SideRec) (st : CutState) (plan : PlanRec) (target : Option Int) {l : Loop}
    (h : IntegratorLimited r l) : IntegratorLimited r (moveSetpoint st plan target l) := by
  unfold moveSetpoint
  split <;> exact h

theorem resetInteg_integ (r : SideRec) (leftLost : Bool) {l : Loop} (h : IntegratorLimited r l) :
    IntegratorLimited r (resetInteg leftLost l) := by
  unfold resetInteg
  split
  · simp [IntegratorLimited]
  · exact h

theorem loopSide_range (st : CutState) (plan : PlanRec) (r : SideRec) (m : Material) (target : Option Int)
    (ref : SideRef) (runs : Bool) {l : Loop} (h : SetpointInRange plan.maxDepth l) :
    SetpointInRange plan.maxDepth (loopSide st plan r m target ref runs l) := by
  have hl : SetpointInRange plan.maxDepth (resetInteg ref.leftLost l) := by
    unfold resetInteg
    split <;> exact h
  simpa only [SetpointInRange, loopSide_sp] using moveSetpoint_range st plan target hl

theorem loopSide_integ (st : CutState) (plan : PlanRec) (r : SideRec) (m : Material) (target : Option Int)
    (ref : SideRef) (runs : Bool) {l : Loop} (h : IntegratorLimited r l) :
    IntegratorLimited r (loopSide st plan r m target ref runs l) := by
  cases runs
  · exact moveSetpoint_integ r st plan target (resetInteg_integ r ref.leftLost h)
  · exact lawSide_integ _ _ _ _

/-- R186: a drive is handed to an output that the law runs for, which is not one forced neutral. -/
theorem Leg.takeDrive_owner (st : CutState) (d : Int) (l : Leg) : (l.takeDrive st d).owner = l.owner := by
  unfold Leg.takeDrive
  split <;> rfl

theorem Leg.takeDrive_neutral {st : CutState} (d : Int) (l : Leg) (h : st.neutral = true) : l.takeDrive st d = l := by
  simp [Leg.takeDrive, h]

theorem Leg.takeDrive_none (st : CutState) (d : Int) {l : Leg} (h : NoneMeansZero l) :
    NoneMeansZero (l.takeDrive st d) := by
  unfold Leg.takeDrive
  split
  · rename_i hl
    intro hn
    exact absurd (hl.1.symm.trans hn) (by decide)
  · exact h

/-- What an operation on the leg outputs must keep where it leaves the cut state as it is. -/
structure Leg.Keeps (st : CutState) (l m : Leg) : Prop where
  jog : st ≠ .ready → l.owner ≠ .jog → m.owner ≠ .jog
  neutral : st.neutral = true → l.held = 0 → m.held = 0
  ownerless : NoneMeansZero l → NoneMeansZero m

theorem Leg.Keeps.rfl {st : CutState} {l : Leg} : l.Keeps st l := ⟨fun _ => id, fun _ => id, id⟩

theorem Leg.takeDrive_keeps (st : CutState) (d : Int) (l : Leg) : l.Keeps st (l.takeDrive st d) where
  jog _ h := by rwa [Leg.takeDrive_owner]
  neutral hs h := by rwa [Leg.takeDrive_neutral d l hs]
  ownerless := Leg.takeDrive_none st d

theorem Leg.endJog_keeps (st : CutState) (l : Leg) : l.Keeps st l.endJog := by
  unfold Leg.endJog
  split
  · exact ⟨fun _ _ => by simp, fun _ _ => Eq.refl _, fun _ _ => Eq.refl _⟩
  · exact .rfl

theorem Leg.runDown_keeps (st : CutState) (l : Leg) : l.Keeps st l.runDown := by
  unfold Leg.runDown
  split
  · exact Leg.endJog_keeps st l
  · split
    · exact ⟨fun _ => id, fun _ => id, id⟩
    · exact .rfl

theorem mapLegs_kept {f : Vos → Vos} {s : State}
    (h : ∀ i, (s.vos.legs.get i).Keeps s.csc.state ((f s.vos).legs.get i))
    (hb : (f s.vos).beltHeld = s.vos.beltHeld) : Kept s (s.mapVos f) where
  jog _ hj hs := ⟨(h .left).jog hs (hj hs).1, (h .right).jog hs (hj hs).2⟩
  neutral hn hs := by
    obtain ⟨hl, hr, hd⟩ := hn hs
    exact ⟨(h .left).neutral hs hl, (h .right).neutral hs hr, hb.trans hd⟩
  ownerless i := (h i).ownerless

theorem updateLoops_kept (s : State) : Kept s (updateLoops s) := by
  have hand : ∀ (l : Leg) (d : Int),
      l.Keeps s.csc.state (if lawRuns s.csc.state l then l.takeDrive s.csc.state d else l) := fun l d => by
    split
    · exact Leg.takeDrive_keeps _ _ _
    · exact .rfl
  unfold updateLoops
  dsimp only
  refine Kept.trans (mapDlu_kept (fun i h => ?_) fun i h => ?_) (mapLegs_kept (fun i => ?_) rfl)
  · cases i <;> exact loopSide_range _ _ _ _ _ _ _ h
  · cases i <;> exact loopSide_integ _ _ _ _ _ _ _ h
  · cases i <;> exact hand _ _

theorem endJogs_kept (s : State) : Kept s (endJogs s) :=
  mapLegs_kept (fun i => by simpa using Leg.endJog_keeps _ _) rfl

/-! ### Supply monitor -/

theorem settleLowSet_kept (s : State) : Kept s (settleLowSet s) :=
  .ite (fun _ => (mapVos_kept rfl rfl).trans (setCond_kept _ _ _)) fun _ => .rfl

theorem settleLowClear_kept (s : State) : Kept s (settleLowClear s) :=
  .ite (fun _ => (mapVos_kept rfl rfl).trans (setCond_kept _ _ _)) fun _ => .rfl

theorem countCutoff_kept (s : State) : Kept s (countCutoff s) :=
  .ite (fun _ => (mapVos_kept rfl rfl).trans (mapCsc_kept rfl rfl)) fun _ => mapVos_kept rfl rfl

theorem countSupply_kept (level : Nat) (s : State) : Kept s (s.mapVos (Vos.countSupply level)) := by
  refine mapVos_kept ?_ ?_ <;> (unfold Vos.countSupply; split <;> rfl)

end Sys2Proof.Machine

namespace Sys2Proof.Machine

/-! ### The change of the cut state -/

/-- The part within a change of the cut state, before the SFE, the PCU and the PT do theirs. -/
def turned (new : CutState) (s : State) : State :=
  btqChange new (vosChange s.csc.state new (dluChange s.csc.state new (pcuChange (cscChange new s))))

theorem changeState_eq (new : CutState) (s : State) :
    changeState new s = highChange s.csc.state new (sfeChange s.csc.state new (turned new s)) := rfl

@[simp] theorem turned_sfe (new : CutState) (s : State) : (turned new s).sfe = s.sfe := by
  simp [turned, vosChange, dluChange, pcuChange, cscChange]
@[simp] theorem turned_pt (new : CutState) (s : State) : (turned new s).pt = s.pt := by
  simp [turned, vosChange, dluChange, pcuChange, cscChange]
@[simp] theorem turned_tlu (new : CutState) (s : State) : (turned new s).tlu = s.tlu := by
  simp [turned, vosChange, dluChange, pcuChange, cscChange]
@[simp] theorem turned_cfg (new : CutState) (s : State) : (turned new s).cfg = s.cfg := by
  simp [turned, vosChange, dluChange, pcuChange, cscChange]
@[simp] theorem turned_li (new : CutState) (s : State) : (turned new s).li = s.li := by
  simp [turned, vosChange, dluChange, pcuChange, cscChange]
@[simp] theorem turned_pcu (new : CutState) (s : State) : (turned new s).pcu = { s.pcu with stall := 0 } := by
  simp [turned, vosChange, dluChange, pcuChange, cscChange]
@[simp] theorem turned_csc (new : CutState) (s : State) :
    (turned new s).csc =
      { s.csc with state := new,
                   stateTimer := if new.timed then some (1000 * s.cfg.plan.timeLimit) else none } := by
  simp [turned, vosChange, dluChange, pcuChange, cscChange]
@[simp] theorem turned_legs (new : CutState) (s : State) :
    (turned new s).vos.legs = s.vos.legs.map (Leg.changeState s.csc.state new) := by
  unfold turned btqChange
  split <;> rfl
theorem turned_beltHeld {new : CutState} (s : State) (h : new.neutral = true) : (turned new s).vos.beltHeld = 0 := by
  unfold turned btqChange
  rw [if_pos h]
  rfl
@[simp] theorem turned_dlu (new : CutState) (s : State) (i : Side) :
    (turned new s).dlu.get i
      = (s.dlu.get i).changeState s.csc.state new s.cfg.plan.maxDepth (s.sru.sides.get i).depth := by
  simp only [turned, btqChange_dlu, vosChange, State.mapVos_dlu]
  cases i <;> rfl

@[simp] theorem changeState_state (new : CutState) (s : State) : (changeState new s).csc.state = new := by
  simp [changeState_eq]

/-- A change that takes no JOG along: from READY only into the states that end it. From READY the state timer, which
does not run there (R168), starts no change. -/
def Allowed (new : CutState) (s : State) : Prop :=
  TimerFollowsState s → s.csc.state = .ready → new = .config ∨ new = .ready ∨ new = .engaging ∨ new = .holdHard

theorem Allowed.of_state {new : CutState} {s : State} (h : s.csc.state ≠ .ready) : Allowed new s :=
  fun _ hs => absurd hs h

theorem Allowed.of_holdHard {s : State} : Allowed .holdHard s := fun _ _ => by simp

theorem ownerAfter_ne_jog {old new : CutState} {o : Owner} (ho : old ≠ .ready → o ≠ .jog)
    (hn : old = .ready → new = .config ∨ new = .ready ∨ new = .engaging ∨ new = .holdHard) :
    ownerAfter old new o ≠ .jog := by
  by_cases h : old = .ready
  · rcases hn h with rfl | rfl | rfl | rfl <;> simp [ownerAfter, h]
  · have := ho h
    cases new <;> simp [ownerAfter, h, this]

theorem Leg.changeState_none (old new : CutState) {l : Leg} (h : NoneMeansZero l) :
    NoneMeansZero (l.changeState old new) := by
  intro hn
  dsimp only [Leg.changeState] at hn ⊢
  split
  · rfl
  · rename_i hs
    simp only [Bool.or_eq_true, beq_iff_eq, not_or] at hs
    refine h ?_
    cases new <;> simp_all [ownerAfter, CutState.neutral]

theorem Leg.changeState_neutral (old : CutState) {new : CutState} (l : Leg) (h : new.neutral = true) :
    (l.changeState old new).held = 0 := by simp [Leg.changeState, h]

theorem Loop.changeState_range (old new : CutState) (maxDepth : Nat) (depth : Int) {l : Loop}
    (h : SetpointInRange maxDepth l) : SetpointInRange maxDepth (l.changeState old new maxDepth depth) := by
  unfold Loop.changeState SetpointInRange
  dsimp only
  split
  · exact limitSetpoint_mem _ _
  · exact h

theorem Loop.changeState_integ (r : SideRec) (old new : CutState) (maxDepth : Nat) (depth : Int) {l : Loop}
    (h : IntegratorLimited r l) : IntegratorLimited r (l.changeState old new maxDepth depth) := by
  unfold Loop.changeState IntegratorLimited
  dsimp only
  split
  · simp
  · exact h

theorem sfeChange_kept (old new : CutState) (s : State) : Kept s (sfeChange old new s) := by
  have first : Kept s (if old = .ready then failCapture s else s) := .ite (fun _ => failCapture_kept s) fun _ => .rfl
  exact .ite (fun _ => first.trans (removeSubstitutes_kept _)) fun _ => first

/-- R30: the re-base at the entry into ENGAGING sets h to the station. -/
theorem highChange_kept (old new : CutState) (s : State) : Kept s (highChange old new s) :=
  .ite (fun _ => (mapPcu_kept fun h => ⟨Nat.le_refl _, h.1.trans h.2⟩).trans (highWaterChanged_kept _)) fun _ => .rfl

/-- R18, R21: at a change away from READY no capture is left, and in CONFIG no substitute. -/
theorem changeState_held (new : CutState) {s : State} (h : HeldOnlyWhereAllowed s) :
    HeldOnlyWhereAllowed (changeState new s) := by
  unfold HeldOnlyWhereAllowed
  rw [changeState_state, changeState_eq, highChange_sfe]
  unfold sfeChange
  dsimp only
  constructor
  · rintro rfl i
    simp [removeSubstitutes]
  · intro hn
    have first : (if s.csc.state = .ready then failCapture (turned new s) else turned new s).sfe.capture = none := by
      split
      · exact failCapture_capture _
      · rw [turned_sfe]
        exact h.2 ‹_›
    split
    · exact first
    · exact first

theorem changeState_kept {new : CutState} {s : State} (h : Allowed new s) : Kept s (changeState new s) := by
  have rest : Kept (turned new s) (changeState new s) := (sfeChange_kept _ _ _).trans (highChange_kept _ _ _)
  refine { levels := fun k => rest.levels ?_, station := fun k => rest.station ?_, timer := fun k => rest.timer ?_,
           jog := fun kt k => rest.jog ?_ ?_, neutral := fun k => rest.neutral ?_, held := changeState_held new,
           plan := fun k => rest.plan ?_, windows := fun k => rest.windows ?_, log := fun k => rest.log ?_,
           counters := fun k => rest.counters ?_, ownerless := fun i k => rest.ownerless i ?_,
           setpoint := fun i k => rest.setpoint i ?_, integ := fun i k => rest.integ i ?_,
           replies := rest.replies.trans ?_ }
  case refine_1 => simpa only [LevelsLatched, turned_li] using k
  case refine_2 => simpa only [StationInRange, turned_pcu] using k
  case refine_3 => cases new <;> simp [TimerFollowsState, CutState.timed]
  case refine_4 => cases new <;> simp [TimerFollowsState, CutState.timed]
  case refine_5 =>
    intro _
    rw [turned_legs]
    exact ⟨ownerAfter_ne_jog (fun hs => (k hs).1) (h kt), ownerAfter_ne_jog (fun hs => (k hs).2) (h kt)⟩
  case refine_6 =>
    intro hn
    rw [turned_csc] at hn
    rw [turned_legs, turned_beltHeld s hn]
    exact ⟨Leg.changeState_neutral _ _ hn, Leg.changeState_neutral _ _ hn, rfl⟩
  case refine_7 => rwa [turned_pt]
  case refine_8 => rwa [turned_pt]
  case refine_9 => rwa [LogFits, turned_tlu]
  case refine_10 => simpa only [turned_sfe] using k
  case refine_11 =>
    rw [turned_legs, Sides.get_map]
    exact Leg.changeState_none _ _ k
  case refine_12 =>
    rw [turned_dlu, turned_cfg]
    exact Loop.changeState_range _ _ _ _ k
  case refine_13 =>
    rw [turned_dlu, turned_cfg]
    exact Loop.changeState_integ _ _ _ _ _ k
  case refine_14 => rw [turned_li]

theorem recordHold_kept (cause : HoldCause) (s : State) : Kept s (recordHold cause s) :=
  (mapCsc_kept rfl rfl).trans (raise_kept _ _)

theorem enterHold_kept {new : CutState} {s : State} (cause : HoldCause) (h : Allowed new s) :
    Kept s (enterHold new cause s) := (changeState_kept h).trans (recordHold_kept _ _)

theorem settleEngage_kept (s : State) : Kept s (settleEngage s) :=
  .ite (fun h => (changeState_kept (.of_state (by simp [h.1]))).trans (raise_kept _ _)) fun _ => .rfl

theorem settleLift_kept (s : State) : Kept s (settleLift s) :=
  .ite (fun h => (changeState_kept (.of_state (by simp [h.1]))).trans (raise_kept _ _)) fun _ => .rfl

theorem applyLoss_kept (lost : Bool) (s : State) : Kept s (applyLoss lost s) := by
  refine .ite (fun _ => ?_) fun _ => .rfl
  split
  case h_1 hs => exact enterHold_kept _ (.of_state (by simp [hs]))
  case h_2 hs => exact enterHold_kept _ (.of_state (by simp [hs]))
  case h_3 hs => exact enterHold_kept _ (.of_state (by simp [hs]))
  all_goals exact .rfl

theorem applyStall_kept (s : State) : Kept s (applyStall s) := by
  refine .ite (fun _ => Kept.trans (t := s.mapCsc fun c => { c with stallHanded := false }) (mapCsc_kept rfl rfl) ?_)
    fun _ => .rfl
  dsimp only
  split
  case h_1 hs => exact enterHold_kept _ (.of_state (by rw [hs]; decide))
  case h_2 hs => exact enterHold_kept _ (.of_state (by rw [hs]; decide))
  all_goals exact .rfl

theorem applyCutoff_kept (s : State) : Kept s (applyCutoff s) := by
  refine .ite (fun _ => Kept.trans (t := s.mapCsc fun c => { c with cutoffHanded := false }) (mapCsc_kept rfl rfl) ?_)
    fun _ => .rfl
  dsimp only
  split
  case h_6 | h_7 => exact .rfl
  all_goals exact enterHold_kept _ .of_holdHard

/-- R168: the state timer that expires runs, so the state is one in which it does. -/
theorem expireStateTimer_kept (s : State) : Kept s (expireStateTimer s) := by
  unfold expireStateTimer
  split
  · exact .rfl
  · rename_i n hn
    refine .ite (fun _ => (enterHold_kept _ fun ht hs => ?_).trans (raise_kept _ _)) fun _ => .rfl
    simp [TimerFollowsState, hn, hs, CutState.timed] at ht

theorem expireSilence_kept (s : State) : Kept s (expireSilence s) := by
  refine .ite (fun _ => ?_) fun _ => .rfl
  refine Kept.trans (t := restartSilence (raise .linkSilence s)) ((raise_kept _ _).trans (mapCsc_kept rfl rfl)) ?_
  unfold escalateSilence
  dsimp only
  split
  case h_1 hs => exact enterHold_kept _ (.of_state (by rw [hs]; decide))
  case h_2 hs => exact enterHold_kept _ (.of_state (by rw [hs]; decide))
  case h_3 hs => exact enterHold_kept _ (.of_state (by rw [hs]; decide))
  case h_4 => exact enterHold_kept _ .of_holdHard
  case h_5 => exact endJogs_kept _
  all_goals exact .rfl

theorem assertStop_kept (s : State) : Kept s (assertStop s) := by
  refine Kept.trans (t := setCond .stopActive true (s.mapPins fun p => { p with stop := true }))
    ((mapPins_kept _ _).trans (setCond_kept _ _ _)) ?_
  unfold assertStop
  dsimp only
  split
  case h_6 => exact recordHold_kept _ _
  case h_7 => exact .rfl
  all_goals exact enterHold_kept _ .of_holdHard

theorem releaseStop_kept (s : State) : Kept s (releaseStop s) := (mapPins_kept _ _).trans (setCond_kept _ _ _)

/-! ### Pulses -/

theorem moveStation_le (station : Nat) (rem : Int) (ppm : Nat) :
    (moveStation station rem ppm).1 ≤ Config.maxStation := by
  unfold moveStation
  dsimp only
  split
  · exact Nat.zero_le _
  · split
    · exact Nat.le_refl _
    · dsimp only
      omega

/-- R28, R29: what follows the movement of the station keeps the promises where it brings the high-water station up to
it. -/
theorem pcuTravel_kept {g : Pcu → Pcu} (dirHigh : Bool) {s : State}
    (h : ∀ p : Pcu, p = (pcuTravel dirHigh s).pcu → p.station ≤ Config.maxStation → p.high ≤ Config.maxStation →
      (g p).station ≤ (g p).high ∧ (g p).high ≤ Config.maxStation) :
    Kept s ((pcuTravel dirHigh s).mapPcu g) :=
  (mapPins_kept (fun p => { p with travelDir := dirHigh }) s).trans
    (mapPcu_kept (f := fun _ => g (pcuTravel dirHigh s).pcu) fun k => h _ rfl (moveStation_le _ _ _) k.2)

theorem advance_kept (rampFirst : Bool) (delta : Nat) (s : State) : Kept s (advance rampFirst delta s) :=
  (highWaterChanged_kept s).trans (.ite (fun _ => (rampSides_kept _ _).trans (intake_kept _ _))
    fun _ => (intake_kept _ _).trans (rampSides_kept _ _))

theorem countedTravel_kept (dirHigh rampFirst : Bool) (s : State) : Kept s (countedTravel dirHigh rampFirst s) :=
  .ite (fun _ => (pcuTravel_kept dirHigh fun _ _ hs _ => ⟨Nat.le_refl _, hs⟩).trans (advance_kept _ _ _))
    fun hn => pcuTravel_kept (g := id) dirHigh fun _ hp _ hh => ⟨by subst hp; exact Nat.not_lt.1 hn, hh⟩

theorem countedBelt_kept (s : State) : Kept s (countedBelt s) :=
  .ite (fun _ => (mapPcu_still_kept rfl rfl).trans (beltTravel_kept _ _)) fun _ => mapPcu_still_kept rfl rfl

theorem countedDrum_kept (s : State) : Kept s (countedDrum s) := mapPcu_still_kept rfl rfl

theorem countedEvent_kept (i : PulseInput) (dirHigh rampFirst : Bool) (s : State) :
    Kept s (countedEvent i dirHigh rampFirst s) := by
  cases i
  · exact countedTravel_kept _ _ _
  · exact countedBelt_kept _
  · exact countedDrum_kept _

theorem pinEdge_kept (i : PulseInput) (rising dirHigh rampFirst : Bool) (s : State) :
    Kept s (pinEdge i rising dirHigh rampFirst s) :=
  .ite (fun _ => .ite (fun _ => (mapPins_kept _ _).trans (countedEvent_kept _ _ _ _))
    fun _ => (mapPins_kept _ _).trans (mapPcu_still_kept rfl rfl)) fun _ => mapPins_kept _ _

theorem testDrumStall_kept (s : State) : Kept s (testDrumStall s) :=
  .ite (fun _ => .ite (fun _ => ((mapPcu_still_kept rfl rfl).trans (mapCsc_kept rfl rfl)).trans (raise_kept _ _))
    fun _ => mapPcu_still_kept rfl rfl) fun _ => mapPcu_still_kept rfl rfl

theorem drumSpeedUpdate_kept (apart : Bool) (s : State) : Kept s (drumSpeedUpdate apart s) := by
  have closed : Kept (applyStall s) (closeDrumWindow (applyStall s)) := mapPcu_still_kept rfl rfl
  have first := ((applyStall_kept s).trans closed).trans (testDrumStall_kept _)
  exact .ite (fun _ => first) fun _ => first.trans (applyStall_kept _)

/-! ### The sample set -/

theorem settleDue_kept (s : State) : Kept s (settleDue s) :=
  ((((((completeCapture_kept s).trans (closeClassWindow_kept _)).trans (settleLowSet_kept _)).trans
    (settleLowClear_kept _)).trans (applyCutoff_kept _)).trans (settleEngage_kept _)).trans (settleLift_kept _)

theorem monitorShare_kept (apart : Bool) (s : State) : Kept s (monitorShare apart s) := by
  have first := (countSupply_kept s.cfg.lowLevel s).trans (countCutoff_kept _)
  exact .ite (fun _ => first) fun _ =>
    ((first.trans (settleLowSet_kept _)).trans (settleLowClear_kept _)).trans (applyCutoff_kept _)

theorem captureShare_kept (apart : Bool) (s : State) : Kept s (captureShare apart s) :=
  .ite (fun _ => countCapture_kept s) fun _ => (countCapture_kept s).trans (completeCapture_kept _)

theorem completionShare_kept (apart : Bool) (s : State) : Kept s (completionShare apart s) :=
  .ite (fun _ => .rfl) fun _ => (settleEngage_kept s).trans (settleLift_kept _)

/-- A step that is taken now or not at all. -/
theorem Kept.optional {s t : State} {f : State → State} (b : Bool) (h : Kept s t) (hf : ∀ u, Kept u (f u)) :
    Kept s (if b then f t else t) := .ite (fun _ => h.trans (hf t)) fun _ => h

theorem Kept.deferred {s t : State} {f : State → State} (b : Bool) (h : Kept s t) (hf : ∀ u, Kept u (f u)) :
    Kept s (if b then t else f t) := .ite (fun _ => h) fun _ => h.trans (hf t)

theorem sideShare_kept (o : SampleOrder) (s : State) : Kept s (sideShare o s) := by
  refine Kept.deferred _ (Kept.trans ?_ (completionShare_kept _ _)) (sampleLoad_kept _)
  have loaded := (readSides_kept s).optional o.loadFirst (sampleLoad_kept o.apart)
  exact .ite (fun _ => (loaded.trans (applyLoss_kept _ _)).trans (updateLoops_kept _))
    fun _ => (loaded.trans (updateLoops_kept _)).trans (applyLoss_kept _ _)

/-- R21: the capture of a sample set at which these channels become UNQUALIFIED. -/
def failLost (lost : List Chan) (s : State) : State := if captureInvolves s lost then failCapture s else s

/-- R21: the channels that become UNQUALIFIED at a sample set. -/
def lostAt (scan : Scan) (s : State) : List Chan :=
  newlyUnqualified (settleDue s).sfe.chans (scanChannels scan (settleDue s)).sfe.chans

/-- A sample set up to the side readings: what was due, the scan, and the shares that an operand puts first. -/
def scanned (scan : Scan) (o : SampleOrder) (s : State) : State :=
  let s1 := scanChannels scan (settleDue s)
  let s2 := if o.captureFirst then s1 else failLost (lostAt scan s) s1
  if o.monitorFirst then monitorShare o.apart s2 else s2

theorem sampleSet_eq (scan : Scan) (o : SampleOrder) (s : State) :
    sampleSet scan o s =
      let s4 := captureShare o.apart (sideShare o (scanned scan o s))
      let s5 := if o.captureFirst then failLost (lostAt scan s) s4 else s4
      if o.monitorFirst then s5 else monitorShare o.apart s5 := rfl

theorem failLost_kept (lost : List Chan) (s : State) : Kept s (failLost lost s) :=
  .ite (fun _ => failCapture_kept s) fun _ => .rfl

theorem scanned_kept (scan : Scan) (o : SampleOrder) (s : State) : Kept s (scanned scan o s) :=
  .optional _ (.deferred _ ((settleDue_kept s).trans (scanChannels_kept scan _)) (failLost_kept _))
    (monitorShare_kept _)

theorem sampleSet_kept (scan : Scan) (o : SampleOrder) (s : State) : Kept s (sampleSet scan o s) := by
  rw [sampleSet_eq]
  exact .deferred _ (.optional _ (((scanned_kept scan o s).trans (sideShare_kept _ _)).trans (captureShare_kept _ _))
    (failLost_kept _)) (monitorShare_kept _)

end Sys2Proof.Machine

namespace Sys2Proof.Machine

/-! ### The records -/

/-- What an owner's work must keep. -/
def Work.Keeps (f : State → State × Reply) : Prop := ∀ s, Kept s (f s).1

/-- The state of an owner's answer, whatever its reply. -/
theorem Kept.answered {s t : State} {r : Reply} (h : Kept s t) : Kept s (t, r).1 := h

theorem writeRecord_kept (checks : List Bool) (structural : Bool) {write : State → State} {s : State}
    (h : Kept s (write s)) : Kept s (writeRecord checks structural write s).1 := by
  unfold writeRecord
  split
  · exact .rfl
  · split
    · exact .rfl
    · exact h

/-- R4: a channel whose qualification restarts has both counters at 0. -/
theorem requalify_kept (i : Chan) (f : Channel → Channel) (h : ∀ c, (f c).subst = c.subst) (s : State) :
    Kept s (judgeChannelFault (s.mapChan i fun c => (f c).requalify)) := by
  have keeps (c : Channel) : c.Keeps (f c).requalify :=
    ⟨fun _ => ⟨fun _ => rfl, fun _ => rfl⟩, fun hc => (h c).trans hc⟩
  exact (mapChan_kept (f := fun c => (f c).requalify) (keeps _)).trans (judgeChannelFault_kept _)

theorem writeSensor_kept (i : Chan) (r : SensorRec) (s : State) : Kept s (writeSensor i r s) :=
  .ite (fun _ => requalify_kept i (fun c => { c with cfg := r }) (fun _ => rfl) s) fun _ => mapChan_kept .rfl

theorem setSensor_kept (rest : List Byte) : Work.Keeps (setSensor rest) := fun s => by
  unfold setSensor
  split
  · exact writeRecord_kept _ _ (writeSensor_kept _ _ s)
  · exact .rfl

/-- R98: the record of a side and its integrator limited to it are written together. -/
theorem limitRecord_kept (i : Side) (r : SideRec) (s : State) :
    Kept s ((s.mapCfg fun c => { c with side := c.side.set i r }).mapDlu fun d => d.set i ((d.get i).limitTo r)) where
  levels := id
  station := id
  setpoint j h := by
    by_cases hj : j = i
    · subst hj; simpa [Loop.limitTo] using h
    · simpa [Sides.get_set_of_ne _ _ hj] using h
  integ j h := by
    by_cases hj : j = i
    · subst hj; simpa [Loop.limitTo] using limitInteg_le _ _
    · simpa [Sides.get_set_of_ne _ _ hj] using h

theorem writeSide_kept (i : Side) (r : SideRec) (s : State) : Kept s (writeSide i r s) :=
  .ite (fun _ => ((limitRecord_kept i r s).trans (mapSru_kept _ _)).trans (emptyPlan_kept _))
    fun _ => limitRecord_kept i r s

theorem setSide_kept (rest : List Byte) : Work.Keeps (setSide rest) := fun s => by
  unfold setSide
  split
  · exact writeRecord_kept _ _ (writeSide_kept _ _ s)
  · exact .rfl

/-- R78: a max depth that is written limits both setpoints at once. -/
theorem writePlan_kept (r : PlanRec) (s : State) : Kept s (writePlan r s) := by
  refine Kept.trans (t := (s.mapCfg fun c => { c with plan := r }).mapDlu fun d => d.map (Loop.limitDepth r.maxDepth))
    { levels := id, station := id, setpoint := fun i h => ?_, integ := by simp [Loop.limitDepth] }
    (judgePlanLow_kept _)
  simp only [State.mapDlu_dlu, State.mapCfg_dlu, State.mapDlu_cfg, State.mapCfg_cfg, Sides.get_map, SetpointInRange,
    Loop.limitDepth] at h ⊢
  omega

theorem setPlan_kept (rest : List Byte) : Work.Keeps (setPlan rest) := fun s => by
  unfold setPlan
  split
  · exact writeRecord_kept _ _ (writePlan_kept _ s)
  · exact .rfl

theorem writeOption_plan (i : PulseInput) (x : Int) (c : Records) : (writeOption i x c).plan = c.plan := by
  cases i <;> rfl

theorem writeOption_side (i : PulseInput) (x : Int) (c : Records) : (writeOption i x c).side = c.side := by
  cases i <;> rfl

theorem writePulse_kept (i : PulseInput) (r : PulseRec) (opt : Int) (s : State) : Kept s (writePulse i r opt s) := by
  have written : Kept s (s.mapCfg fun c => writeOption i opt { c with pulse := c.pulse.set i r }) :=
    mapCfg_kept (by rw [writeOption_plan]) (writeOption_side _ _ _)
  have restarted := written.trans (.ite
    (p := (s.cfg.pulse.get i).edge ≠ r.edge ∨ (s.cfg.pulse.get i).prescale ≠ r.prescale ∨
      (s.cfg.pulse.get i).scale ≠ r.scale)
    (fun _ => mapPcu_still_kept (f := fun p => { p with count := p.count.set i 0 }) rfl rfl) fun _ => .rfl)
  refine .ite (fun _ => restarted.trans (mapPcu_still_kept ?_ ?_)) fun _ => restarted <;> cases i <;> rfl

theorem setPulse_kept (rest : List Byte) : Work.Keeps (setPulse rest) := fun s => by
  unfold setPulse
  split
  · exact writeRecord_kept _ _ (writePulse_kept _ _ _ s)
  · exact .rfl

theorem writeBelt_kept (r : BeltRec) (s : State) : Kept s (writeBelt r s) := by
  have written : Kept s (s.mapCfg fun c => { c with belt := r }) := mapCfg_kept rfl rfl
  have emptied := written.trans (.ite (p := s.cfg.belt.length ≠ r.length)
    (fun _ => mapBtq_kept (fun b => { b with acc := 0 }) _) fun _ => .rfl)
  exact .ite (fun _ => emptied.trans (applyCapacity_kept _)) fun _ => emptied

theorem setBelt_kept (rest : List Byte) : Work.Keeps (setBelt rest) := fun s => by
  unfold setBelt
  split
  · exact writeRecord_kept _ _ (writeBelt_kept _ s)
  · exact .rfl

theorem setLimits_kept (rest : List Byte) : Work.Keeps (setLimits rest) := fun s => by
  unfold setLimits
  split
  · exact writeRecord_kept _ _ (mapCfg_kept rfl rfl)
  · exact .rfl

theorem setOutput_kept (rest : List Byte) : Work.Keeps (setOutput rest) := fun s => by
  unfold setOutput
  split
  · exact writeRecord_kept _ _ (.ite (fun _ => mapCfg_kept rfl rfl) fun _ => mapCfg_kept rfl rfl)
  · exact .rfl

theorem setSupply_kept (rest : List Byte) : Work.Keeps (setSupply rest) := fun s => by
  unfold setSupply
  split
  · exact writeRecord_kept _ _ (mapCfg_kept rfl rfl)
  · exact .rfl

theorem setLink_kept (rest : List Byte) : Work.Keeps (setLink rest) := fun s => by
  unfold setLink
  split
  · exact writeRecord_kept _ _ ((mapCfg_kept rfl rfl).trans (mapLi_kept id (Nat.le_refl _)))
  · exact .rfl

/-! ### The requests to the blocks -/

/-- A request that only reads. -/
theorem Work.keeps_of_read {f : State → State × Reply} (h : ∀ s, (f s).1 = s) : Work.Keeps f :=
  fun s => by rw [h s]; exact .rfl

theorem lintabLoad_kept (payload : List Byte) : Work.Keeps (lintabLoad payload) := fun s => by
  unfold lintabLoad
  split
  · rename_i rest
    dsimp only
    split
    · exact .rfl
    · split
      · exact .rfl
      · exact requalify_kept _ (fun c => { c with table := readPoints rest }) (fun _ => rfl) s
  · exact .rfl

/-- R18: a substitute is stored outside CONFIG alone. -/
theorem substituteChan_kept (i : Chan) (v : Int) {s : State} (h : s.csc.state ≠ .config) :
    Kept s (s.mapChan i fun c => { c with subst := some v }) where
  held k := ⟨fun hs => absurd hs h, k.2⟩
  counters k j := by
    by_cases hj : j = i
    · subst hj; simpa using k j
    · simpa [State.mapChan_get_of_ne _ _ hj] using k j

theorem substitute_kept (payload : List Byte) : Work.Keeps (substitute payload) := fun s => by
  unfold substitute
  split
  · split
    · exact .rfl
    · rename_i i _
      split
      · exact .rfl
      · split
        · exact .rfl
        · rename_i hs
          split
          · exact .rfl
          · exact (substituteChan_kept i _ hs).trans (.ite (fun _ => failCapture_kept _) fun _ => .rfl)
  · exact .rfl

theorem release_kept (payload : List Byte) : Work.Keeps (release payload) := fun s => by
  unfold release
  split
  · split
    · exact .rfl
    · exact Kept.answered (mapChan_kept ⟨id, fun _ => rfl⟩)
  · exact .rfl

/-- R19: a capture starts in READY alone. -/
theorem startCapture_kept (k : Capture) {s : State} (h : s.csc.state = .ready) :
    Kept s (s.mapSfe fun f => { f with capture := some k }) where
  held hk := ⟨hk.1, fun hs => absurd h hs⟩

theorem zeroRequest_kept (payload : List Byte) : Work.Keeps (zeroRequest payload) := fun s => by
  unfold zeroRequest
  split
  · dsimp only
    split
    · exact .rfl
    · split
      · exact .rfl
      · rename_i hs
        split
        · exact .rfl
        · split
          · exact .rfl
          · split
            · exact .rfl
            · exact startCapture_kept _ (not_not.1 hs)
  · exact .rfl

theorem stationSet_kept (payload : List Byte) : Work.Keeps (stationSet payload) := fun s => by
  unfold stationSet
  split
  · rename_i a b c d
    dsimp only
    split
    · exact .rfl
    · rename_i hv
      split
      · exact .rfl
      · exact Kept.trans (mapPcu_kept (f := fun p =>
          { p with station := u32 a b c d, travelRem := 0, count := p.count.set .travel 0, high := u32 a b c d })
          fun _ => ⟨Nat.le_refl _, Nat.not_lt.1 hv⟩) (highWaterChanged_kept _)
  · exact .rfl

theorem lastStation_ge {l : List Waypoint} (h : l.Pairwise fun a b => a.station < b.station) {a : Waypoint}
    (ha : a ∈ l) : ∃ x, lastStation l = some x ∧ a.station ≤ x := by
  have hne : l ≠ [] := List.ne_nil_of_mem ha
  refine ⟨(l.getLast hne).station, by simp [lastStation, List.getLast?_eq_getLast_of_ne_nil hne], ?_⟩
  rw [← List.dropLast_append_getLast hne, List.mem_append, List.mem_singleton] at ha
  rw [← List.dropLast_append_getLast hne, List.pairwise_append] at h
  rcases ha with ha | ha
  · exact Nat.le_of_lt (h.2.2 a ha _ (List.mem_singleton_self _))
  · rw [← ha]

/-- R56: records that pass the checks come in strictly increasing order after the one before, and they fit. -/
theorem checkAppend_none {mode : SideMode} {h size : Nat} {ws : List RawWaypoint} {p : Nat} {last : Option Nat}
    (hc : checkAppend mode h size p last ws = none) :
    (∀ w ∈ ws, ∀ x, last = some x → x < w.station) ∧ (ws.Pairwise fun a b => a.station < b.station) ∧
      (size + p ≤ 128 → size + p + ws.length ≤ 128) := by
  induction ws generalizing p last with
  | nil => simp
  | cons w rest ih =>
    unfold checkAppend at hc
    split at hc
    · exact absurd hc (by simp)
    · split at hc
      · exact absurd hc (by simp)
      · rename_i ho
        split at hc
        · exact absurd hc (by simp)
        · rename_i hf
          obtain ⟨hafter, hpair, hlen⟩ := ih hc
          have hfirst : ∀ x, last = some x → x < w.station := by
            rintro x rfl
            simp at ho
            exact ho.2
          refine ⟨List.forall_mem_cons.2 ⟨hfirst, fun v hv x hx => ?_⟩, List.pairwise_cons.2 ⟨?_, hpair⟩, fun _ => ?_⟩
          · exact (hfirst x hx).trans (hafter v hv _ rfl)
          · exact fun v hv => hafter v hv _ rfl
          · have := hlen (by omega)
            simp only [List.length_cons]
            omega

theorem planAppend_kept (payload : List Byte) : Work.Keeps (planAppend payload) := fun s => by
  unfold planAppend
  dsimp only
  split
  · exact .rfl
  · rename_i hc
    obtain ⟨hafter, hpair, hlen⟩ := checkAppend_none hc
    refine (mapPt_kept (fun h => ⟨?_, ?_⟩) id).trans (judgePlanLow_kept _)
    · simpa using hlen h.1
    · refine List.pairwise_append.2 ⟨h.2, List.pairwise_map.2 hpair, fun a ha b hb => ?_⟩
      obtain ⟨w, hw, rfl⟩ := List.mem_map.1 hb
      obtain ⟨x, hx, hax⟩ := lastStation_ge h.2 ha
      exact Nat.lt_of_le_of_lt hax (hafter w hw x hx)

theorem planClear_kept : Work.Keeps planClear := fun s => by
  unfold planClear
  split
  · exact .rfl
  · exact (emptyPlan_kept s).trans (.ite (fun _ => raise_kept _ _) fun _ => .rfl)

theorem planRead_kept (payload : List Byte) : Work.Keeps (planRead payload) :=
  Work.keeps_of_read fun s => by unfold planRead; split <;> rfl

theorem Windows.get_set_same (w : Windows) {i : Nat} (x : Window) (h : i < 4) : (w.set i x).get i = x := by
  interval_cases i <;> rfl

theorem Windows.get_set_of_ne (w : Windows) {i j : Nat} (x : Window) (hi : i < 4) (hj : j < 4) (h : j ≠ i) :
    (w.set i x).get j = w.get j := by
  interval_cases i <;> interval_cases j <;> simp_all [Windows.get, Windows.set]

/-- R68: a window that overlaps no valid window of another slot may be set. -/
theorem WindowsApart.set {ws : Windows} (h : WindowsApart ws) {i : Nat} (hi : i < 4) {w : Window}
    (ho : overlapsOther ws i w = false) : WindowsApart (ws.set i w) := by
  have clear : ∀ j < 4, j ≠ i → ¬((ws.get j).valid = true ∧ (ws.get j).overlaps w = true) := by
    intro j hj hji hc
    unfold overlapsOther at ho
    rw [List.any_eq_false] at ho
    exact ho j (by interval_cases j <;> simp) (by simp [hji, hc.1, hc.2])
  rw [windowsApart_iff] at h ⊢
  intro j hj k hk
  by_cases hji : j = i
  · rw [hji, ws.get_set_same w hi, ws.get_set_of_ne w hi (by omega) (by omega)]
    exact fun hc => clear k (by omega) (by omega) ⟨hc.1, hc.2.2⟩
  · by_cases hki : k = i
    · rw [hki, ws.get_set_same w hi, ws.get_set_of_ne w hi hj hji, Window.overlaps_comm]
      exact fun hc => clear j hj hji hc.2
    · rw [ws.get_set_of_ne w hi hj hji, ws.get_set_of_ne w hi (by omega) hki]
      exact h j hj k hk

theorem windowSet_kept (payload : List Byte) : Work.Keeps (windowSet payload) := fun s => by
  unfold windowSet
  split
  · dsimp only
    split
    · exact .rfl
    · rename_i hc
      have hi := firstBad_none.1 hc _ (List.mem_cons_self ..)
      split
      · exact .rfl
      · split
        · exact .rfl
        · rename_i ho
          exact (mapPt_kept id fun h => h.set (of_decide_eq_true hi) (Bool.not_eq_true _ ▸ ho)).trans
            (.ite (fun _ => raise_kept _ _) fun _ => .rfl)
  · exact .rfl

theorem windowClear_kept (payload : List Byte) : Work.Keeps (windowClear payload) := fun s => by
  unfold windowClear
  split
  · rename_i i
    split
    · rename_i hi
      refine .ite (fun _ => mapPt_kept id fun h => h.narrow fun j hj => ?_) fun _ => .rfl
      by_cases hji : j = i.toNat
      · rw [hji, Windows.get_set_same _ _ hi]
        exact ⟨fun hv => absurd hv (by simp), Eq.refl _, Eq.refl _, Eq.refl _⟩
      · rw [Windows.get_set_of_ne _ _ hi hj hji]
        exact .rfl
    · exact .rfl
  · exact .rfl

theorem commission_kept : Work.Keeps commission := fun s => by
  unfold commission
  split
  · exact .rfl
  · split
    · exact .rfl
    · exact Kept.answered ((changeState_kept fun _ _ => by simp).trans (mapCsc_kept rfl rfl))

theorem decommission_kept : Work.Keeps decommission := fun s => by
  unfold decommission
  split
  · exact .rfl
  · exact Kept.answered ((changeState_kept fun _ _ => by simp).trans (mapCsc_kept rfl rfl))

theorem engage_kept : Work.Keeps engage := fun s => by
  unfold engage
  split
  · exact .rfl
  · split
    · exact .rfl
    · split
      · exact .rfl
      · exact changeState_kept fun _ _ => by simp

theorem lift_kept : Work.Keeps lift := fun s => by
  unfold lift
  split
  case h_1 hs => exact changeState_kept (.of_state (by simp [hs]))
  case h_2 hs => exact changeState_kept (.of_state (by simp [hs]))
  case h_3 hs => exact changeState_kept (.of_state (by simp [hs]))
  all_goals exact .rfl

theorem hold_kept (payload : List Byte) : Work.Keeps (hold payload) := fun s => by
  have soft : Kept s (holdSoft s).1 := by
    unfold holdSoft
    split
    case h_1 hs => exact enterHold_kept _ (.of_state (by simp [hs]))
    case h_2 hs => exact enterHold_kept _ (.of_state (by simp [hs]))
    case h_3 hs => exact enterHold_kept _ (.of_state (by simp [hs]))
    all_goals exact .rfl
  have hard : Kept s (holdHard s).1 := by
    unfold holdHard
    split
    case h_6 | h_7 => exact .rfl
    all_goals exact enterHold_kept _ .of_holdHard
  unfold hold
  split
  · split
    · exact soft
    · split
      · exact hard
      · exact .rfl
  · exact .rfl

theorem resume_kept : Work.Keeps resume := fun s => by
  unfold resume
  split
  · split
    · exact .rfl
    · exact changeState_kept fun _ _ => by simp
  · split
    · exact .rfl
    · exact changeState_kept fun _ _ => by simp
  all_goals exact .rfl

/-- R187: a JOG is taken in READY alone. -/
theorem takeLeg_kept (i : Side) (v : Int) (n : Nat) {s : State} (h : s.csc.state = .ready) :
    Kept s (s.mapVos fun b => { b with legs := b.legs.set i { owner := .jog, held := v, jogLeft := n } }) := by
  refine mapLegs_kept (fun j => ?_) rfl
  by_cases hj : j = i
  · subst hj
    rw [Sides.get_set_same, h]
    exact ⟨fun hs => absurd rfl hs, fun hs => absurd hs (by decide), fun _ hn => absurd hn (by simp)⟩
  · rw [Sides.get_set_of_ne _ _ hj]
    exact .rfl

theorem jog_kept (payload : List Byte) : Work.Keeps (jog payload) := fun s => by
  unfold jog
  split
  · split
    · exact .rfl
    · split
      · exact .rfl
      · split
        · exact .rfl
        · split
          · exact .rfl
          · rename_i hs
            exact Kept.trans (t := s.mapCsc Csc.takeJog) (mapCsc_kept rfl rfl) (takeLeg_kept _ _ _ (not_not.1 hs))
  · exact .rfl

theorem materialSet_kept (payload : List Byte) : Work.Keeps (materialSet payload) := fun s => by
  unfold materialSet
  split
  · split
    · exact .rfl
    · exact (mapDlm_kept _ _).trans (judgeMaterial_kept _)
  · exact .rfl

theorem beltMode_kept (payload : List Byte) : Work.Keeps (beltMode payload) := fun s => by
  unfold beltMode
  split
  · split
    · exact .rfl
    · split
      · exact .rfl
      · exact takeBeltMode_kept _ _
  · exact .rfl

theorem truckNext_kept (payload : List Byte) : Work.Keeps (truckNext payload) := fun s => by
  unfold truckNext
  split
  · dsimp only
    split
    · exact .rfl
    · split
      · exact .rfl
      · split
        · exact .rfl
        · exact Kept.answered (mapTlu_kept id)
  · exact .rfl

theorem truckIn_kept : Work.Keeps truckIn := fun s => by
  unfold truckIn
  split
  · exact .rfl
  · exact .rfl
  · exact ((mapTlu_kept id).trans (retagQueue_kept _ _ _)).trans (predictClosing_kept _)

theorem truckOut_kept : Work.Keeps truckOut := fun s => by
  unfold truckOut
  split
  · exact .rfl
  · exact (closeTruck_kept _ _).trans (retagQueue_kept _ _ _)

theorem tallyRead_kept (payload : List Byte) : Work.Keeps (tallyRead payload) :=
  Work.keeps_of_read fun s => by
    unfold tallyRead
    split
    · split <;> rfl
    · rfl

theorem restart_kept : Work.Keeps restart := fun _ => Kept.answered (mapLi_kept id (Nat.le_refl _))

theorem writeRoute_kept (i : Nat) (enable route : Bool) (s : State) : Kept s (writeRoute i enable route s) := by
  have frame : Kept s { writeRoute i enable route s with li := s.li } ∧
      (writeRoute i enable route s).li.replies = s.li.replies := by
    unfold writeRoute
    dsimp only
    split
    · exact ⟨{}, by simp⟩
    · exact ⟨{}, rfl⟩
  obtain ⟨same, replies⟩ := frame
  exact { same with
          levels := by simp only [levelsLatched_iff]; exact writeRoute_latched i enable route
          replies := by rw [replies] }

theorem eventRoute_kept (payload : List Byte) : Work.Keeps (eventRoute payload) := fun s => by
  unfold eventRoute
  split
  · split
    · exact .rfl
    · exact writeRoute_kept _ _ _ _
  · exact .rfl

theorem eventAck_kept (payload : List Byte) : Work.Keeps (eventAck payload) := fun s => by
  unfold eventAck
  split
  · exact Kept.answered (mapLi_kept (acknowledge_latched _) (Nat.le_refl _))
  · exact .rfl

/-! ### Every request -/

/-- What the owner of a request does keeps the promises. -/
def Request.Keeps (r : Request) : Prop := Work.Keeps r.carryOut

theorem setForm_keeps (p : Part) (rest : List Byte) : (setForm p rest).Keeps := by
  cases p
  case sensor => exact setSensor_kept rest
  case side => exact setSide_kept rest
  case plan => exact setPlan_kept rest
  case pulse => exact setPulse_kept rest
  case belt => exact setBelt_kept rest
  case limits => exact setLimits_kept rest
  case output => exact setOutput_kept rest
  case link => exact setLink_kept rest
  case supply => exact setSupply_kept rest

theorem getForm_keeps (p : Part) (rest : List Byte) : (getForm p rest).Keeps := fun _ => .rfl

theorem sectionForm_keeps {form : Part → List Byte → Request} (readOnly : Bool) (payload : List Byte)
    (h : ∀ p rest, (form p rest).Keeps) : (sectionForm readOnly form payload).Keeps := by
  unfold sectionForm
  split
  · exact fun _ => .rfl
  · split
    · exact fun _ => .rfl
    · exact h _ _

theorem kindForm_keeps (k : ReqKind) (payload : List Byte) : (kindForm k payload).Keeps := by
  cases k
  case identify => exact fun _ => .rfl
  case poll => exact fun _ => .rfl
  case restart => exact restart_kept
  case configSet => exact sectionForm_keeps _ _ setForm_keeps
  case configGet => exact sectionForm_keeps _ _ getForm_keeps
  case lintabLoad => exact lintabLoad_kept payload
  case commission => exact commission_kept
  case decommission => exact decommission_kept
  case planAppend => exact planAppend_kept payload
  case planClear => exact planClear_kept
  case planRead => exact planRead_kept payload
  case windowSet => exact windowSet_kept payload
  case windowClear => exact windowClear_kept payload
  case stationSet => exact stationSet_kept payload
  case engage => exact engage_kept
  case lift => exact lift_kept
  case hold => exact hold_kept payload
  case resume => exact resume_kept
  case jog => exact jog_kept payload
  case zero => exact zeroRequest_kept payload
  case substitute => exact substitute_kept payload
  case release => exact release_kept payload
  case materialSet => exact materialSet_kept payload
  case beltMode => exact beltMode_kept payload
  case truckNext => exact truckNext_kept payload
  case truckIn => exact truckIn_kept
  case truckOut => exact truckOut_kept
  case tallyRead => exact tallyRead_kept payload
  case eventRoute => exact eventRoute_kept payload
  case eventAck => exact eventAck_kept payload

theorem requestForm_keeps (kind : Byte) (payload : List Byte) : (requestForm kind payload).Keeps := by
  unfold requestForm
  split
  · exact fun _ => .rfl
  · exact kindForm_keeps _ _

theorem Request.answer_kept {r : Request} (h : r.Keeps) (s : State) : Kept s (r.answer s).1 := by
  unfold Request.answer
  split
  · exact .rfl
  · split
    · exact .rfl
    · split
      · exact .rfl
      · exact h s

end Sys2Proof.Machine

namespace Sys2Proof.Machine

/-! ### The line, the resets and time -/

theorem arbitrate_events (s : State) : (arbitrate s).li.events = s.li.events := by
  unfold arbitrate
  repeat' split
  all_goals rfl

theorem arbitrate_replies_le (s : State) : (arbitrate s).li.replies.length ≤ s.li.replies.length := by
  unfold arbitrate
  split
  · exact Nat.le_refl _
  · split
    · rename_i r rest h
      simp [h]
    · split
      · exact Nat.le_refl _
      · split <;> exact Nat.le_refl _

theorem arbitrate_kept (s : State) : Kept s (arbitrate s) where
  levels := by simp only [levelsLatched_iff, arbitrate_events]; exact id
  replies := arbitrate_replies_le s

/-- R201: after the arbiter's look the line is busy, or no slot holds anything. -/
theorem arbitrate_line (s : State) : LineBusyWhileWaiting (arbitrate s) := by
  unfold arbitrate
  cases hs : s.li.sending with
  | some x => simp [LineBusyWhileWaiting, hs]
  | none =>
    cases hr : s.li.replies with
    | cons r rest => simp [LineBusyWhileWaiting]
    | nil =>
      cases hn : s.li.notice with
      | true => simp [LineBusyWhileWaiting]
      | false => cases ht : s.li.status <;> simp [LineBusyWhileWaiting, hr, hn, ht]

theorem placeReply_carried (kind tag : Byte) (r : Reply) (s : State) : Carried s (placeReply kind tag r s) where
  levels := id

theorem dropRequest_kept (s : State) : Kept s (dropRequest s) where
  levels := id
  replies := by simp [dropRequest]

theorem formReport_kept (s : State) : Kept s (formReport s) := mapLi_kept id (Nat.le_refl _)

theorem hearTelegram_kept (s : State) : Kept s (hearTelegram s) := mapCsc_kept rfl rfl

theorem abandon_kept (s : State) : Kept s (abandon s) := mapLi_kept id (Nat.le_refl _)

theorem store_kept (b : Byte) (next : RxState) (s : State) : Kept s (store b next s) := mapLi_kept id (Nat.le_refl _)

/-- R183, R209: the part after a reset keeps every promise, whatever it was before. -/
theorem resetBlocks_kept (p : Straps) (s : State) : Kept s (resetBlocks p s) := by
  refine Kept.trans (t := { State.reset with
    pins := { s.pins with resetHeld := false }, cfg := strapRecords p,
    li := { State.reset.li with straps := p }, pending := s.pending }) ?_ (setCond_kept _ _ _)
  exact {
    levels := fun _ => show LevelsLatched State.reset by decide
    station := fun _ => show StationInRange State.reset by decide
    timer := fun _ => rfl
    jog := fun _ _ => show JogOnlyInReady State.reset by decide
    neutral := fun _ => show NeutralWhenHeld State.reset by decide
    held := fun _ => ⟨fun _ i => by cases i <;> rfl, fun _ => rfl⟩
    plan := fun _ => show PlanOrdered State.reset.pt.list by decide
    windows := fun _ => show WindowsApart State.reset.pt.windows by decide
    log := fun _ => Nat.zero_le _
    counters := fun _ i => by cases i <;> exact ⟨fun _ => rfl, fun _ => rfl⟩
    ownerless := fun i _ _ => by cases i <;> rfl
    setpoint := fun i _ => by cases i <;> exact show SetpointInRange 3500 Loop.reset by decide
    integ := fun i _ => by cases i <;> exact Nat.zero_le _
    replies := Nat.zero_le _ }

@[simp] theorem setCond_status (e : EventSrc) (b : Bool) (s : State) : (setCond e b s).li.status = s.li.status := by
  unfold setCond latch; dsimp only; repeat' split
  all_goals rfl

/-- R210: a source that is not routed NOTICE queues none. -/
theorem setCond_notice {e : EventSrc} (b : Bool) {s : State} (h : marked s.li.events.route e.id = false) :
    (setCond e b s).li.notice = s.li.notice := by
  unfold setCond latch
  dsimp only
  repeat' split
  all_goals simp [h]

/-- R201: no telegram stands on the line or in a slot after a reset. -/
theorem resetBlocks_line (p : Straps) (s : State) : LineBusyWhileWaiting (resetBlocks p s) := by
  intro _
  unfold resetBlocks
  dsimp only
  rw [setCond_replies, setCond_status, setCond_notice _ (show marked 0#25 17 = false by decide)]
  exact ⟨rfl, rfl, rfl⟩

theorem powerOn_kept (p : Straps) (s : State) : Kept s (powerOn p s) := (mapPins_kept _ _).trans (resetBlocks_kept _ _)

theorem endTransmission_kept (s : State) : Kept s (endTransmission s) := by
  unfold endTransmission
  split
  · exact .rfl
  · exact .ite (fun _ => resetBlocks_kept _ _) fun _ => mapLi_kept id (Nat.le_refl _)

theorem tick_kept (s : State) : Kept s (tick s) := by
  have counted : Kept s ((s.mapSfe fun f => { f with scanLeft := runDown f.scanLeft }).mapPcu fun p =>
      { p with speedLeft := runDown p.speedLeft, drumLeft := runDown p.drumLeft }) :=
    (mapSfe_kept (fun _ => .rfl) id).trans (mapPcu_still_kept rfl rfl)
  exact ((counted.trans (mapCsc_kept rfl (Option.isSome_map ..))).trans
    (mapLegs_kept (fun i => by simpa using Leg.runDown_keeps _ _) rfl)).trans (mapLi_kept id (Nat.le_refl _))

theorem idle_kept (s : State) : Kept s (idle s) := .ite (fun _ => .rfl) fun _ => tick_kept s

theorem endJog_kept (i : Side) (s : State) : Kept s (endJog i s) := by
  refine .ite (fun _ => mapLegs_kept (fun j => ?_) rfl) fun _ => .rfl
  by_cases hj : j = i
  · subst hj
    simpa using Leg.endJog_keeps _ _
  · simpa only [Sides.get_set_of_ne _ _ hj] using Leg.Keeps.rfl

/-! ### What a command answers -/

/-- What every step must keep: the promises on the blocks and the two on the line. -/
structure Promised (s t : State) : Prop where
  blocks : Carried s t
  replies : RepliesFit s → RepliesFit t
  line : LineBusyWhileWaiting s → LineBusyWhileWaiting t

theorem Promised.rfl {s : State} : Promised s s := ⟨Kept.rfl.toCarried, id, id⟩

/-- An operation between the arbiter's looks at the line, which adds no more replies than the slots hold. -/
structure Answers (s t : State) : Prop where
  blocks : Carried s t
  replies : RepliesFit s → RepliesFit t

theorem Kept.answers {s t : State} (h : Kept s t) : Answers s t := ⟨h.toCarried, h.replies.trans⟩

/-- A command acts and the arbiter looks at the line, or the part is held. -/
theorem act_promised {f : State → State} {s t : State} (hf : Answers s (f s)) (h : act f s = .next t) :
    Promised s t := by
  unfold act at h
  split at h
  · cases h; exact .rfl
  · cases h
    have looked := arbitrate_kept (f s)
    exact ⟨hf.blocks.trans looked.toCarried, fun k => looked.replies.trans (hf.replies k),
      fun _ => arbitrate_line (f s)⟩

/-- R200: a request gets a reply where a slot is free, and is dropped otherwise. -/
theorem takeTelegram_answers (kind tag : Byte) {r : Request} (hr : r.Keeps) (s : State) :
    Answers s (takeTelegram kind tag r s) := by
  have heardKept : Kept s (hearTelegram (s.mapLi fun l => { l with rx := .hunt })) :=
    (mapLi_kept id (Nat.le_refl _)).trans (hearTelegram_kept _)
  unfold takeTelegram
  dsimp only
  split
  · exact heardKept.answers
  · split
    · exact (heardKept.trans (dropRequest_kept _)).answers
    · rename_i hfree
      have worked := Request.answer_kept hr (hearTelegram (s.mapLi fun l => { l with rx := .hunt }))
      refine ⟨heardKept.toCarried.trans (worked.toCarried.trans (placeReply_carried _ _ _ _)), fun _ => ?_⟩
      have := worked.replies
      simp only [RepliesFit, placeReply, State.mapLi_li, List.length_append, List.length_cons, List.length_nil]
      omega

theorem takeByte_answers (b : Byte) (s : State) : Answers s (takeByte b s) := by
  unfold takeByte
  split
  · exact (Kept.ite (fun _ => mapLi_kept id (Nat.le_refl _)) fun _ => .rfl).answers
  · exact (Kept.ite (fun _ => store_kept _ _ _) fun _ => abandon_kept _).answers
  · exact (Kept.ite (fun _ => store_kept _ _ _) fun _ => store_kept _ _ _).answers
  · exact (store_kept _ _ _).answers
  · split
    · exact (store_kept _ _ _).answers
    · unfold judgeTelegram
      split
      · exact takeTelegram_answers _ _ (requestForm_keeps _ _) s
      · exact (abandon_kept _).answers

theorem request_promised {kind tag : Byte} {r : Request} {s t : State} (hr : r.Keeps)
    (h : act (takeTelegram kind tag r) s = .next t) : Promised s t := act_promised (takeTelegram_answers _ _ hr s) h

theorem takeRequest_promised {k : ReqKind} {tag : Byte} {payload : List Byte} {s t : State}
    (h : act (takeRequest k tag payload) s = .next t) : Promised s t := request_promised (kindForm_keeps _ _) h

theorem powerOn_promised (p : Straps) (s : State) : Promised s (powerOn p s) :=
  ⟨(powerOn_kept p s).toCarried, (powerOn_kept p s).replies.trans, fun _ => resetBlocks_line _ _⟩

theorem mapPins_promised (f : Pins → Pins) (s : State) : Promised s (s.mapPins f) :=
  ⟨(mapPins_kept f s).toCarried, id, id⟩

theorem arbitrate_promised {s t : State} (h : Kept s t) : Promised s (arbitrate t) :=
  ⟨h.toCarried.trans (arbitrate_kept t).toCarried, ((arbitrate_kept t).replies.trans h.replies).trans,
    fun _ => arbitrate_line t⟩

theorem driveStop_promised (s : State) : Promised s (driveStop s) := by
  unfold driveStop
  split
  · exact .rfl
  · split
    · exact mapPins_promised _ s
    · exact arbitrate_promised (assertStop_kept s)

theorem undriveStop_promised (s : State) : Promised s (undriveStop s) := by
  unfold undriveStop
  split
  · exact .rfl
  · split
    · exact mapPins_promised _ s
    · exact arbitrate_promised (releaseStop_kept s)

theorem idle_promised (s : State) : Promised s (idle s) := by
  refine ⟨(idle_kept s).toCarried, (idle_kept s).replies.trans, ?_⟩
  unfold idle
  split
  · exact id
  · exact id

theorem Kept.promised {f : State → State} {s t : State} (hf : Kept s (f s)) (h : act f s = .next t) : Promised s t :=
  act_promised hf.answers h

/-- Every command keeps the promises. -/
theorem exec_promised (c : Instr) {s t : State} (h : exec c s = .next t) : Promised s t := by
  cases c with
  | powerOnReset p => cases h; exact powerOn_promised p s
  | resetnAsserted => cases h; exact mapPins_promised _ s
  | stopAsserted => cases h; exact driveStop_promised s
  | stopReleased => cases h; exact undriveStop_promised s
  | restartReset => exact (Kept.ite (fun _ => resetBlocks_kept _ _) fun _ => .rfl).promised h
  | sampleSet scan o => exact (sampleSet_kept scan o s).promised h
  | channelUnlock ch raw => exact (unlockChannel_kept _ _ s).promised h
  | channelLock ch raw => exact (lockChannel_kept _ _ s).promised h
  | zeroCaptureComplete => exact (completeCapture_kept s).promised h
  | engageDone => exact (settleEngage_kept s).promised h
  | liftDone => exact (settleLift_kept s).promised h
  | classWindowClose => exact (closeClassWindow_kept s).promised h
  | supplyLowSet => exact (settleLowSet_kept s).promised h
  | supplyLowClear => exact (settleLowClear_kept s).promised h
  | supplyCutoff => exact (applyCutoff_kept s).promised h
  | qualifyingEdge i r d f => exact (pinEdge_kept i r d f s).promised h
  | countedTravelEvent d f => exact (countedTravel_kept d f s).promised h
  | countedBeltEvent => exact (countedBelt_kept s).promised h
  | countedDrumEvent => exact (countedDrum_kept s).promised h
  | speedWindowClose apart =>
    have closed : Kept (settleBeltStall s) (closeSpeedWindow (settleBeltStall s)) := mapPcu_still_kept rfl rfl
    exact Kept.promised (f := fun u => beltSpeedUpdate apart (closeSpeedWindow (settleBeltStall u)))
      (((settleBeltStall_kept s).trans closed).trans (beltSpeedUpdate_kept apart _)) h
  | beltStall => exact (settleBeltStall_kept s).promised h
  | drumSpeedUpdate apart => exact (drumSpeedUpdate_kept apart s).promised h
  | drumStall => exact (applyStall_kept s).promised h
  | stateTimerExpiry => exact (expireStateTimer_kept s).promised h
  | silenceTimerExpiry => exact (expireSilence_kept s).promised h
  | jogExpiry i => exact (endJog_kept i s).promised h
  | statusPeriodExpiry =>
    refine Kept.promised (f := expireStatusPeriod) ?_ h
    unfold expireStatusPeriod
    split
    · exact .rfl
    · exact .ite (fun _ => formReport_kept s) fun _ => .rfl
  | transmitComplete => exact (endTransmission_kept s).promised h
  | telegramBadCrc b => exact (Kept.ite (fun _ => abandon_kept s) fun _ => .rfl).promised h
  | telegramOverlength b => exact (Kept.ite (fun _ => abandon_kept s) fun _ => .rfl).promised h
  | framingError | receiveGapTimeout => exact (abandon_kept s).promised h
  | receiverByteTaken b => exact act_promised (takeByte_answers b s) h
  | unknownRequest kind tag payload => exact request_promised (requestForm_keeps _ _) h
  | configSetSensor tag rest | configSetSide tag rest | configSetPlan tag rest | configSetPulse tag rest
  | configSetBelt tag rest | configSetLimits tag rest | configSetOutput tag rest | configSetLink tag rest
  | configSetSupply tag rest => exact request_promised (setForm_keeps _ _) h
  | configGetSensor tag rest | configGetSide tag rest | configGetPlan tag rest | configGetPulse tag rest
  | configGetBelt tag rest | configGetLimits tag rest | configGetOutput tag rest | configGetLink tag rest
  | configGetSupply tag rest => exact request_promised (getForm_keeps _ _) h
  | identify tag rest | poll tag rest | restart tag rest | lintabLoad tag rest | commission tag rest
  | decommission tag rest | planAppend tag rest | planClear tag rest | planReadWaypoints tag rest
  | planReadWindows tag rest | windowSet tag rest | windowClear tag rest | stationSet tag rest | engage tag rest
  | lift tag rest | holdSoft tag rest | holdHard tag rest | resume tag rest | jog tag rest | zero tag rest
  | substitute tag rest | release tag rest | materialSetManual tag rest | materialSetAuto tag rest
  | beltMode tag rest | truckNext tag rest | truckIn tag rest | truckOut tag rest | tallyRead tag rest
  | eventRoute tag rest | eventAck tag rest => exact takeRequest_promised h

/-- Every step keeps the promises; none of them speaks of the commands that wait. -/
theorem step_promised {s t : State} (h : step s = .next t) : Promised s t := by
  unfold step at h
  split at h
  · cases h
    exact idle_promised s
  · rename_i c rest _
    obtain ⟨blocks, replies, line⟩ := exec_promised c h
    have waiting : Kept s { s with pending := rest } := {}
    exact ⟨waiting.toCarried.trans blocks, replies, line⟩

/-- Settles O60: every operation of a block carries the promises over, and every command is made of such operations and
one look of the arbiter. -/
theorem promisesKept : Obligations.PromisesKept := by
  intro s t h
  obtain ⟨blocks, replies, line⟩ := step_promised h
  exact ⟨blocks.levels, replies, line, blocks.station, blocks.timer, blocks.jog, blocks.neutral, blocks.held,
    blocks.plan, blocks.windows, blocks.log, blocks.counters,
    fun i => ⟨blocks.ownerless i, blocks.setpoint i, blocks.integ i⟩⟩

end Sys2Proof.Machine

namespace Sys2Proof.Machine

/-! ### What a sample set leaves as it is -/

/-- Events that the owners raise and judge: the enables stand, and no pending mark goes. -/
structure Events.Grows (e f : Events) : Prop where
  enable : f.enable = e.enable
  pending : ∀ j < 25, marked e.pending j = true → marked f.pending j = true

theorem Events.Grows.rfl {e : Events} : e.Grows e := ⟨Eq.refl _, fun _ _ => id⟩

theorem Events.Grows.trans {e f g : Events} (h : e.Grows f) (k : f.Grows g) : e.Grows g :=
  ⟨k.enable.trans h.enable, fun j hj hm => k.pending j hj (h.pending j hj hm)⟩

theorem latch_grows (i : Nat) (s : State) : s.li.events.Grows (latch i s).li.events :=
  ⟨latch_enable i s, fun j hj hm => by rw [latch_pending_marked _ _ _ hj, hm, Bool.true_or]⟩

theorem raise_grows (e : EventSrc) (s : State) : s.li.events.Grows (raise e s).li.events := by
  unfold raise
  split
  · exact latch_grows _ _
  · exact .rfl

theorem setCond_grows (e : EventSrc) (b : Bool) (s : State) : s.li.events.Grows (setCond e b s).li.events := by
  unfold setCond
  dsimp only
  split
  · refine Events.Grows.trans ?_ (latch_grows _ _)
    exact ⟨rfl, fun _ _ => id⟩
  · exact ⟨rfl, fun _ _ => id⟩

/-- An edge source that is enabled is pending once it has occurred (R209). -/
theorem raise_pending_self {e : EventSrc} {s : State} (h : marked s.li.events.enable e.id = true) :
    isPending e (raise e s) = true := by
  have he : e.id < 25 := by cases e <;> decide
  unfold isPending raise
  rw [if_pos h, latch_pending_marked _ _ _ he, decide_eq_true rfl, Bool.or_true]

/-- What every share of a sample set leaves as it is; of the PCU it can change the stall counter, and of the BTQ the
drive. -/
structure SampleFrame (s t : State) : Prop where
  pins : t.pins = s.pins := by simp
  cfg : t.cfg = s.cfg := by simp
  pt : t.pt = s.pt := by simp
  tlu : t.tlu = s.tlu := by simp
  waiting : t.pending = s.pending := by simp
  pcu : t.pcu = { s.pcu with stall := t.pcu.stall } := by simp
  btq : t.btq = { s.btq with drive := t.btq.drive } := by simp
  events : s.li.events.Grows t.li.events := by exact Events.Grows.rfl

/-- A share after the scan leaves the scan's timer and the supply value too. -/
structure ShareFrame (s t : State) : Prop extends SampleFrame s t where
  scanLeft : t.sfe.scanLeft = s.sfe.scanLeft := by simp
  supply : t.vos.supply = s.vos.supply := by simp

theorem SampleFrame.trans {s t u : State} (h : SampleFrame s t) (k : SampleFrame t u) : SampleFrame s u where
  pins := k.pins.trans h.pins
  cfg := k.cfg.trans h.cfg
  pt := k.pt.trans h.pt
  tlu := k.tlu.trans h.tlu
  waiting := k.waiting.trans h.waiting
  pcu := by rw [k.pcu, h.pcu]
  btq := by rw [k.btq, h.btq]
  events := h.events.trans k.events

theorem ShareFrame.rfl {s : State} : ShareFrame s s := {}

theorem ShareFrame.trans {s t u : State} (h : ShareFrame s t) (k : ShareFrame t u) : ShareFrame s u where
  toSampleFrame := h.toSampleFrame.trans k.toSampleFrame
  scanLeft := k.scanLeft.trans h.scanLeft
  supply := k.supply.trans h.supply

theorem ShareFrame.ite {s a b : State} {p : Prop} [Decidable p] (ha : p → ShareFrame s a) (hb : ¬p → ShareFrame s b) :
    ShareFrame s (if p then a else b) := by
  split
  · exact ha ‹_›
  · exact hb ‹_›

/-- The frame as one equation between the states. -/
theorem SampleFrame.eq {s t : State} (h : SampleFrame s t) :
    t = { s with sfe := t.sfe, sru := t.sru, dlu := t.dlu, dlm := t.dlm, csc := t.csc, vos := t.vos, li := t.li,
                 pcu := { s.pcu with stall := t.pcu.stall }, btq := { s.btq with drive := t.btq.drive } } := by
  obtain ⟨hpins, hcfg, hpt, htlu, hwait, hpcu, hbtq, -⟩ := h
  cases t
  simp only [State.mk.injEq, true_and]
  exact ⟨hpins, hcfg, hpcu, hpt, hbtq, htlu, hwait⟩

theorem raise_frame (e : EventSrc) (s : State) : ShareFrame s (raise e s) where
  events := raise_grows e s

theorem setCond_frame (e : EventSrc) (b : Bool) (s : State) : ShareFrame s (setCond e b s) where
  events := setCond_grows e b s

theorem mapSru_frame (f : Sru → Sru) (s : State) : ShareFrame s (s.mapSru f) := {}
theorem mapDlu_frame (f : Sides Loop → Sides Loop) (s : State) : ShareFrame s (s.mapDlu f) := {}
theorem mapDlm_frame (f : Dlm → Dlm) (s : State) : ShareFrame s (s.mapDlm f) := {}
theorem mapCsc_frame (f : Csc → Csc) (s : State) : ShareFrame s (s.mapCsc f) := {}
theorem mapSfe_frame {f : Sfe → Sfe} {s : State} (h : (f s.sfe).scanLeft = s.sfe.scanLeft) :
    ShareFrame s (s.mapSfe f) where
  scanLeft := h
theorem mapVos_frame {f : Vos → Vos} {s : State} (h : (f s.vos).supply = s.vos.supply) :
    ShareFrame s (s.mapVos f) where
  supply := h

theorem completeCapture_frame (s : State) : ShareFrame s (completeCapture s) := by
  unfold completeCapture
  split
  · exact .rfl
  · exact .ite (fun _ => (mapSfe_frame rfl).trans (raise_frame _ _)) fun _ => .rfl

theorem failCapture_frame (s : State) : ShareFrame s (failCapture s) := by
  unfold failCapture
  split
  · exact .rfl
  · exact .ite (fun _ => completeCapture_frame s) fun _ => (mapSfe_frame rfl).trans (raise_frame _ _)

theorem failLost_frame (lost : List Chan) (s : State) : ShareFrame s (failLost lost s) :=
  .ite (fun _ => failCapture_frame s) fun _ => .rfl

theorem judgeMaterial_frame (s : State) : ShareFrame s (judgeMaterial s) := setCond_frame _ _ _

theorem closeClassWindow_frame (s : State) : ShareFrame s (closeClassWindow s) :=
  .ite (fun _ => (mapDlm_frame _ _).trans (judgeMaterial_frame _)) fun _ => .rfl

theorem sampleLoad_frame (apart : Bool) (s : State) : ShareFrame s (sampleLoad apart s) :=
  .ite (fun _ => mapDlm_frame _ _) fun _ => (mapDlm_frame _ _).trans (closeClassWindow_frame _)

theorem readSides_frame (s : State) : ShareFrame s (readSides s) :=
  (mapSru_frame _ _).trans ((((setCond_frame _ _ _).trans (setCond_frame _ _ _)).trans (setCond_frame _ _ _)).trans
    (setCond_frame _ _ _))

theorem settleLowSet_frame (s : State) : ShareFrame s (settleLowSet s) :=
  .ite (fun _ => (mapVos_frame rfl).trans (setCond_frame _ _ _)) fun _ => .rfl

theorem settleLowClear_frame (s : State) : ShareFrame s (settleLowClear s) :=
  .ite (fun _ => (mapVos_frame rfl).trans (setCond_frame _ _ _)) fun _ => .rfl

theorem countSupply_frame (level : Nat) (s : State) : ShareFrame s (s.mapVos (Vos.countSupply level)) :=
  mapVos_frame (by unfold Vos.countSupply; split <;> rfl)

theorem countCutoff_frame (s : State) : ShareFrame s (countCutoff s) :=
  .ite (fun _ => (mapVos_frame rfl).trans (mapCsc_frame _ _)) fun _ => mapVos_frame rfl

theorem updateLoops_frame (s : State) : ShareFrame s (updateLoops s) := by
  unfold updateLoops
  exact (mapDlu_frame _ s).trans (mapVos_frame rfl)

theorem turned_frame (new : CutState) (s : State) : ShareFrame s (turned new s) where
  pins := by simp [turned, vosChange, dluChange, pcuChange, cscChange]
  waiting := by simp [turned, vosChange, dluChange, pcuChange, cscChange]
  btq := by unfold turned btqChange; split <;> rfl
  events := by rw [turned_li]; exact .rfl
  supply := by unfold turned btqChange; split <;> rfl

/-- A change of the cut state but into ENGAGING, at which the PCU re-bases h, and into CONFIG. -/
theorem changeState_frame {new : CutState} (he : new ≠ .engaging) (hc : new ≠ .config) (s : State) :
    ShareFrame s (changeState new s) := by
  rw [changeState_eq]
  unfold highChange sfeChange
  rw [if_neg fun h => he h.2]
  dsimp only
  rw [if_neg hc]
  exact (turned_frame new s).trans (.ite (fun _ => failCapture_frame _) fun _ => .rfl)

theorem enterHold_frame {new : CutState} (he : new ≠ .engaging) (hc : new ≠ .config) (cause : HoldCause) (s : State) :
    ShareFrame s (enterHold new cause s) :=
  ((changeState_frame he hc s).trans (mapCsc_frame _ _)).trans (raise_frame _ _)

theorem settleEngage_frame (s : State) : ShareFrame s (settleEngage s) :=
  .ite (fun _ => (changeState_frame (by decide) (by decide) s).trans (raise_frame _ _)) fun _ => .rfl

theorem settleLift_frame (s : State) : ShareFrame s (settleLift s) :=
  .ite (fun _ => (changeState_frame (by decide) (by decide) s).trans (raise_frame _ _)) fun _ => .rfl

theorem applyLoss_frame (lost : Bool) (s : State) : ShareFrame s (applyLoss lost s) := by
  refine .ite (fun _ => ?_) fun _ => .rfl
  split
  case h_1 | h_2 | h_3 => exact enterHold_frame (by decide) (by decide) _ s
  all_goals exact .rfl

theorem applyCutoff_frame (s : State) : ShareFrame s (applyCutoff s) := by
  refine .ite (fun _ => ShareFrame.trans (mapCsc_frame (fun c => { c with cutoffHanded := false }) s) ?_) fun _ => .rfl
  dsimp only
  split
  case h_6 | h_7 => exact .rfl
  all_goals exact enterHold_frame (by decide) (by decide) _ _

theorem settleDue_frame (s : State) : ShareFrame s (settleDue s) :=
  ((((((completeCapture_frame s).trans (closeClassWindow_frame _)).trans (settleLowSet_frame _)).trans
    (settleLowClear_frame _)).trans (applyCutoff_frame _)).trans (settleEngage_frame _)).trans (settleLift_frame _)

theorem monitorShare_frame (apart : Bool) (s : State) : ShareFrame s (monitorShare apart s) := by
  have counted := (countSupply_frame s.cfg.lowLevel s).trans (countCutoff_frame _)
  exact .ite (fun _ => counted) fun _ =>
    ((counted.trans (settleLowSet_frame _)).trans (settleLowClear_frame _)).trans (applyCutoff_frame _)

theorem captureShare_frame (apart : Bool) (s : State) : ShareFrame s (captureShare apart s) := by
  have counted : ShareFrame s (countCapture s) := mapSfe_frame rfl
  exact .ite (fun _ => counted) fun _ => counted.trans (completeCapture_frame _)

theorem completionShare_frame (apart : Bool) (s : State) : ShareFrame s (completionShare apart s) :=
  .ite (fun _ => .rfl) fun _ => (settleEngage_frame s).trans (settleLift_frame _)

theorem ShareFrame.optional {s t : State} {f : State → State} (b : Bool) (h : ShareFrame s t)
    (hf : ∀ u, ShareFrame u (f u)) : ShareFrame s (if b then f t else t) := .ite (fun _ => h.trans (hf t)) fun _ => h

theorem ShareFrame.deferred {s t : State} {f : State → State} (b : Bool) (h : ShareFrame s t)
    (hf : ∀ u, ShareFrame u (f u)) : ShareFrame s (if b then t else f t) := .ite (fun _ => h) fun _ => h.trans (hf t)

theorem sideShare_frame (o : SampleOrder) (s : State) : ShareFrame s (sideShare o s) := by
  refine ShareFrame.deferred _ (ShareFrame.trans ?_ (completionShare_frame _ _)) (sampleLoad_frame _)
  have loaded := (readSides_frame s).optional o.loadFirst (sampleLoad_frame o.apart)
  exact .ite (fun _ => (loaded.trans (applyLoss_frame _ _)).trans (updateLoops_frame _))
    fun _ => (loaded.trans (updateLoops_frame _)).trans (applyLoss_frame _ _)

theorem scanChannels_frame (scan : Scan) (s : State) : SampleFrame s (scanChannels scan s) where
  events := by
    refine Events.Grows.trans ?_ (setCond_grows _ _ _)
    exact .rfl

@[simp] theorem scanChannels_sfe (scan : Scan) (s : State) :
    (scanChannels scan s).sfe
      = { s.sfe with chans := Chans.of fun i => (s.sfe.chans.get i).sample (scan.chans.get i).toNat,
                     scanLeft := 10 } := by
  simp [scanChannels]

@[simp] theorem scanChannels_vos (scan : Scan) (s : State) :
    (scanChannels scan s).vos = { s.vos with supply := supplyValue scan.supply.toNat } := by
  simp [scanChannels]

/-- The shares of a sample set after the scan. -/
theorem sampleSet_frame_scan (scan : Scan) (o : SampleOrder) (s : State) :
    ShareFrame (scanChannels scan (settleDue s)) (sampleSet scan o s) := by
  have early : ShareFrame (scanChannels scan (settleDue s)) (scanned scan o s) :=
    .optional _ (.deferred _ .rfl (failLost_frame _)) (monitorShare_frame _)
  rw [sampleSet_eq]
  exact .deferred _ (.optional _ ((early.trans (sideShare_frame _ _)).trans (captureShare_frame _ _))
    (failLost_frame _)) (monitorShare_frame _)

theorem sampleSet_frame (scan : Scan) (o : SampleOrder) (s : State) : SampleFrame s (sampleSet scan o s) :=
  ((settleDue_frame s).toSampleFrame.trans (scanChannels_frame scan _)).trans
    (sampleSet_frame_scan scan o s).toSampleFrame

/-- The arbiter's look touches the line alone. -/
theorem arbitrate_frame (s : State) : ShareFrame s (arbitrate s) where
  events := by rw [arbitrate_events]; exact .rfl

end Sys2Proof.Machine

namespace Sys2Proof.Machine

/-! ### The readings of a sample (R5 to R7) -/

/-- A judgement changes the qualification context alone: everything else is as the reading left it. -/
theorem Channel.sample_eq_read (r : Nat) (c : Channel) :
    c.sample r = { c.read r with qual := (c.sample r).qual, lock := (c.sample r).lock, unlock := (c.sample r).unlock,
                                 cmp := (c.sample r).cmp, accepted := (c.sample r).accepted } := by
  unfold Channel.sample Channel.judgeQualified Channel.judgeUnqualified
  dsimp only
  repeat' split
  all_goals rfl

theorem Channel.sample_of_qualified {c : Channel} (r : Nat) (h : c.qual = .qualified) :
    c.sample r = (c.read r).judgeQualified := by
  have hr : (c.read r).qual = .qualified := h
  simp only [Channel.sample, hr]

theorem Channel.sample_of_unqualified {c : Channel} (r : Nat) (h : c.qual = .unqualified) :
    c.sample r = (c.read r).judgeUnqualified := by
  have hr : (c.read r).qual = .unqualified := h
  simp only [Channel.sample, hr]

/-- R7: a number of 512ths of a rise lies between 0 and the rise. -/
theorem segment_between {y z f : Int} (h0 : 0 ≤ f) (h1 : f < 512) :
    min y z ≤ y + (z - y) * f / 512 ∧ y + (z - y) * f / 512 ≤ max y z := by
  rcases le_total y z with hyz | hyz
  · have hlo : 0 ≤ (z - y) * f := mul_nonneg (by omega) h0
    have hhi : (z - y) * f ≤ (z - y) * 512 := mul_le_mul_of_nonneg_left (by omega) (by omega)
    omega
  · have hlo : (z - y) * 512 ≤ (z - y) * f := mul_le_mul_of_nonpos_left (by omega) (by omega)
    have hhi : (z - y) * f ≤ 0 := mul_nonpos_of_nonpos_of_nonneg (by omega) h0
    omega

theorem trimmedValue_eq (k : Int) (r : Nat) : (trimmedValue k r : Int) = max 0 (min 4095 ((r : Int) + 2 * k)) := by
  unfold trimmedValue
  rw [clamp_eq (by decide)]
  omega

theorem trimmedValue_le (k : Int) (r : Nat) : trimmedValue k r ≤ 4095 := by
  have := trimmedValue_eq k r
  omega

/-- A point of a table whose points are in range, or 0 past its end. -/
theorem tablePoint_range {t : List Int} (h : ∀ p ∈ t, -20000 ≤ p ∧ p ≤ 20000) (i : Nat) :
    -20000 ≤ t.getD i 0 ∧ t.getD i 0 ≤ 20000 := by
  rw [List.getD_eq_getElem?_getD]
  cases ht : t[i]? with
  | none => simp
  | some p => exact h p (List.mem_of_getElem? ht)

theorem linearise_between (t : List Int) (c : Nat) :
    min (t.getD (c / 512) 0) (t.getD (c / 512 + 1) 0) ≤ linearise t c ∧
      linearise t c ≤ max (t.getD (c / 512) 0) (t.getD (c / 512 + 1) 0) :=
  segment_between (by omega) (by omega)

theorem linearise_range {t : List Int} (h : ∀ p ∈ t, -20000 ≤ p ∧ p ≤ 20000) (c : Nat) :
    -20000 ≤ linearise t c ∧ linearise t c ≤ 20000 := by
  obtain ⟨hlo, hhi⟩ := linearise_between t c
  have hy := tablePoint_range h (c / 512)
  have hz := tablePoint_range h (c / 512 + 1)
  omega

/-- R8: under the default table the linearised value is the trimmed value less 2048. -/
theorem linearise_default {c : Nat} (h : c ≤ 4095) : linearise defaultTable c = (c : Int) - 2048 := by
  have point : ∀ i ≤ 8, tablePoint defaultTable i = 512 * (i : Int) - 2048 := by decide
  unfold linearise
  dsimp only
  rw [point (c / 512) (by omega), point (c / 512 + 1) (by omega)]
  push_cast
  rw [show (512 * ((c : Int) / 512 + 1) - 2048 - (512 * ((c : Int) / 512) - 2048)) = 512 by ring]
  omega

/-- A sample set on a part that is out of reset, with each channel after it. -/
theorem exec_sampleSet (scan : Scan) (o : SampleOrder) {s : State} (h : s.pins.resetHeld = false) :
    exec (.sampleSet scan o) s = .next (arbitrate (sampleSet scan o s)) := act_free _ h

/-- Settles O7: the shares of a sample set after the scan leave each channel as the scan read it, but for its zero. -/
theorem sampleSetReadsChannels : Obligations.SampleSetReadsChannels := by
  intro scan o s hs
  have rest := (sampleSet_frame_scan scan o s).trans (arbitrate_frame _)
  have frame := (sampleSet_frame scan o s).trans (arbitrate_frame _).toSampleFrame
  refine ⟨_, exec_sampleSet scan o hs, ?_, ?_, frame.eq, fun i => ?_⟩
  · rw [rest.supply, scanChannels_vos]
    rfl
  · rw [rest.scanLeft, scanChannels_sfe]
  · have worked := sampleSet_chans scan o s i
    rw [← arbitrate_sfe] at worked
    generalize (arbitrate (sampleSet scan o s)).sfe.chans.get i = new at worked ⊢
    generalize s.sfe.chans.get i = old at worked ⊢
    generalize (scan.chans.get i).toNat = r at worked ⊢
    rw [Channel.SameButZero, Channel.sample_eq_read] at worked
    have hraw : new.raw = r := by rw [worked]; rfl
    have hfault : new.fault = rawFault r := by rw [worked]; rfl
    have htrimmed : new.trimmed = trimmedValue old.cfg.trim r := by rw [worked]; rfl
    have hlin : new.lin = linearise old.table new.trimmed := by rw [worked]; rfl
    have hle := trimmedValue_le old.cfg.trim r
    refine ⟨hraw, hfault, ?_, ?_, hlin, ?_, ?_, ?_, ?_, ?_, ?_, ?_⟩
    · rw [htrimmed]; exact trimmedValue_eq _ _
    · rw [htrimmed]; omega
    · rw [hlin]; exact (linearise_between _ _).1
    · rw [hlin]; exact (linearise_between _ _).2
    · rw [hlin]; exact fun h => linearise_range h _
    · rw [hlin]; rintro h; rw [h]; exact linearise_default (by omega)
    all_goals rw [worked]; rfl

end Sys2Proof.Machine

namespace Sys2Proof.Machine

/-! ### The judgement of a sample (R11, R12) -/

/-- R11, R12: a reading without a fault that lies within the jump tolerance of w. -/
def Channel.Consistent (d : Channel) (w : Int) : Prop := d.fault = false ∧ (d.lin - w).natAbs ≤ d.cfg.tol

theorem Channel.consistent_iff (d : Channel) (w : Int) : (!d.fault && d.near d.lin w) = true ↔ d.Consistent w := by
  simp [Channel.Consistent, Channel.near]

theorem Channel.not_consistent_iff (d : Channel) (w : Int) :
    ¬d.Consistent w ↔ d.fault = true ∨ d.cfg.tol < (d.lin - w).natAbs := by
  unfold Channel.Consistent
  rw [not_and_or, Bool.not_eq_false, Nat.not_le]

theorem Channel.judgeQualified_consistent {d : Channel} (h : d.Consistent d.accepted) :
    d.judgeQualified = { d with accepted := d.lin, unlock := 0 } := by
  unfold Channel.judgeQualified
  rw [if_pos ((d.consistent_iff _).2 h)]

theorem Channel.judgeQualified_unlocks {d : Channel} (h : ¬d.Consistent d.accepted)
    (hu : d.cfg.unlockN ≤ d.unlock + 1) :
    d.judgeQualified = { d with qual := .unqualified, lock := 0, unlock := 0, cmp := some d.lin } := by
  unfold Channel.judgeQualified
  rw [if_neg (mt (d.consistent_iff _).1 h), if_pos hu]

theorem Channel.judgeQualified_counts {d : Channel} (h : ¬d.Consistent d.accepted)
    (hu : d.unlock + 1 < d.cfg.unlockN) : d.judgeQualified = { d with unlock := d.unlock + 1 } := by
  unfold Channel.judgeQualified
  rw [if_neg (mt (d.consistent_iff _).1 h), if_neg (Nat.not_le.2 hu)]

theorem Channel.judgeUnqualified_first {d : Channel} (h : d.cmp = none) :
    d.judgeUnqualified = { d with cmp := some d.lin } := by
  simp only [Channel.judgeUnqualified, h]

theorem Channel.judgeUnqualified_locks {d : Channel} {w : Int} (hw : d.cmp = some w) (h : d.Consistent w)
    (hl : d.cfg.lockN ≤ d.lock + 1) :
    d.judgeUnqualified
      = { d with qual := .qualified, accepted := d.lin, lock := 0, unlock := 0, cmp := some d.lin } := by
  simp only [Channel.judgeUnqualified, hw]
  rw [if_pos ((d.consistent_iff _).2 h), if_pos hl]

theorem Channel.judgeUnqualified_counts {d : Channel} {w : Int} (hw : d.cmp = some w) (h : d.Consistent w)
    (hl : d.lock + 1 < d.cfg.lockN) :
    d.judgeUnqualified = { d with lock := d.lock + 1, cmp := some d.lin } := by
  simp only [Channel.judgeUnqualified, hw]
  rw [if_pos ((d.consistent_iff _).2 h), if_neg (Nat.not_le.2 hl)]

theorem Channel.judgeUnqualified_resets {d : Channel} {w : Int} (hw : d.cmp = some w) (h : ¬d.Consistent w) :
    d.judgeUnqualified = { d with lock := 0, cmp := some d.lin } := by
  simp only [Channel.judgeUnqualified, hw]
  rw [if_neg (mt (d.consistent_iff _).1 h)]

/-- Settles O8: each channel after a sample set is the channel judged by R11 or R12, but for its zero. -/
theorem sampleSetJudgesQualification : Obligations.SampleSetJudgesQualification := by
  intro scan o s hs
  refine ⟨_, exec_sampleSet scan o hs, fun i => ?_⟩
  have worked := sampleSet_chans scan o s i
  rw [← arbitrate_sfe] at worked
  generalize (arbitrate (sampleSet scan o s)).sfe.chans.get i = new at worked ⊢
  generalize s.sfe.chans.get i = old at worked ⊢
  generalize (scan.chans.get i).toNat = r at worked ⊢
  have read : new.fault = (old.read r).fault ∧ new.lin = (old.read r).lin := by
    rw [worked, Channel.sample_eq_read]
    exact ⟨rfl, rfl⟩
  have near_iff : ∀ w, new.fault = false ∧ (new.lin - w).natAbs ≤ old.cfg.tol ↔ (old.read r).Consistent w := by
    intro w
    rw [read.1, read.2]
    exact Iff.rfl
  unfold Channel.SameButZero at worked
  dsimp only
  simp only [near_iff]
  refine ⟨fun hq hn => ?_, fun hq hn hu => ?_, fun hq hn hu => ?_, fun hq hc => ?_, fun w hq hc hn hl => ?_,
    fun w hq hc hn hl => ?_, fun w hq hc hn => ?_⟩
  · rw [Channel.sample_of_qualified r hq, Channel.judgeQualified_consistent hn] at worked
    rw [worked]
    exact ⟨hq, rfl, rfl, rfl, rfl⟩
  · rw [Channel.sample_of_qualified r hq, Channel.judgeQualified_counts hn hu] at worked
    rw [worked]
    exact ⟨hq, rfl, rfl, rfl, rfl⟩
  · rw [Channel.sample_of_qualified r hq, Channel.judgeQualified_unlocks hn hu] at worked
    rw [worked]
    exact ⟨rfl, rfl, rfl, rfl, rfl⟩
  · rw [Channel.sample_of_unqualified r hq, Channel.judgeUnqualified_first (d := old.read r) hc] at worked
    rw [worked]
    exact ⟨hq, rfl, rfl, rfl, rfl⟩
  · rw [Channel.sample_of_unqualified r hq, Channel.judgeUnqualified_counts (d := old.read r) hc hn hl] at worked
    rw [worked]
    exact ⟨hq, rfl, rfl, rfl, rfl⟩
  · rw [Channel.sample_of_unqualified r hq, Channel.judgeUnqualified_locks (d := old.read r) hc hn hl] at worked
    rw [worked]
    exact ⟨rfl, rfl, rfl, rfl⟩
  · rw [Channel.sample_of_unqualified r hq, Channel.judgeUnqualified_resets (d := old.read r) hc hn] at worked
    rw [worked]
    exact ⟨hq, rfl, rfl, rfl, rfl⟩

/-! ### Captures that end (R20, R21) -/

/-- R20: each channel of a capture takes its zero from its sum. -/
theorem writeZeros_get (depthNow : Int) {l : List (Chan × Int)} (h : (l.map Prod.fst).Nodup) (cs : Chans Channel)
    (i : Chan) : (writeZeros depthNow cs l).get i =
      (l.find? fun p => p.1 == i).elim (cs.get i) fun p => (cs.get i).withZero (capturedZero p.2 depthNow) := by
  induction l generalizing cs with
  | nil => rfl
  | cons p rest ih =>
    obtain ⟨j, sum⟩ := p
    obtain ⟨hj, hrest⟩ := List.nodup_cons.1 h
    unfold writeZeros
    dsimp only
    rw [ih hrest]
    by_cases hji : j = i
    · subst hji
      have none : (rest.find? fun p => p.1 == j) = none := by
        refine List.find?_eq_none.2 fun p hp hpj => hj ?_
        exact List.mem_map.2 ⟨p, hp, beq_iff_eq.1 hpj⟩
      rw [none, List.find?_cons_of_pos (by simp)]
      exact Chans.get_set_same _ _ _
    · rw [List.find?_cons_of_neg (by simpa using hji), Chans.get_set_of_ne _ _ (Ne.symm hji)]

theorem completeCapture_due {k : Capture} {s : State} (hk : s.sfe.capture = some k) (hc : 32 ≤ k.count)
    (hn : (k.sums.map Prod.fst).Nodup) : completeCapture s = captured k s := by
  simp only [completeCapture, hk, if_pos hc]
  unfold captured
  dsimp only
  congr 1
  unfold State.mapSfe
  congr 1
  dsimp only
  congr 1
  refine Chans.ext_get fun i => ?_
  rw [writeZeros_get _ hn, Chans.get_of]
  cases k.sums.find? fun p => p.1 == i with
  | none => rfl
  | some p =>
    simp only [Option.elim_some, Channel.withZero, capturedZero]
    rw [clamp_eq (by decide)]

theorem completeCapture_young {k : Capture} {s : State} (hk : s.sfe.capture = some k) (hc : k.count < 32) :
    completeCapture s = s := by
  simp only [completeCapture, hk, if_neg (Nat.not_le.2 hc)]

theorem failCapture_young {k : Capture} {s : State} (hk : s.sfe.capture = some k) (hc : k.count < 32) :
    failCapture s = raise .zeroFailed (s.mapSfe fun b => { b with capture := none }) := by
  simp only [failCapture, hk, if_neg (Nat.not_le.2 hc)]

theorem failCapture_due {k : Capture} {s : State} (hk : s.sfe.capture = some k) (hc : 32 ≤ k.count) :
    failCapture s = completeCapture s := by
  simp only [failCapture, hk, if_pos hc]

theorem captureInvolves_some {k : Capture} {s : State} (hk : s.sfe.capture = some k) (is : List Chan) :
    captureInvolves s is = true ↔ ∃ p ∈ k.sums, p.1 ∈ is := by
  simp only [captureInvolves, hk, List.any_eq_true, Capture.involves, beq_iff_eq]
  constructor
  · rintro ⟨i, hi, p, hp, rfl⟩
    exact ⟨p, hp, hi⟩
  · rintro ⟨p, hp, hi⟩
    exact ⟨_, hi, p, hp, rfl⟩

/-- A channel that no capture in flight involves. -/
theorem captureInvolves_one_false {i : Chan} {s : State}
    (h : ∀ k, s.sfe.capture = some k → ∀ p ∈ k.sums, p.1 ≠ i) : captureInvolves s [i] = false := by
  cases hk : s.sfe.capture with
  | none => simp [captureInvolves, hk]
  | some k =>
    rw [← Bool.not_eq_true, captureInvolves_some hk]
    rintro ⟨p, hp, hi⟩
    exact h k hk p hp (List.mem_singleton.1 hi)

/-! ### The sample that unlocks or locks one channel (R11, R12) -/

/-- R14: the CHANNEL_FAULT condition in words. -/
theorem channelFault_eq (cs : Chans Channel) : channelFault cs =
    Chan.all.any fun i => decide ((cs.get i).cfg.role ≠ .unused ∧ (cs.get i).qual = .unqualified) := by
  unfold channelFault
  congr 1
  funext i
  rw [Bool.decide_and, decide_not, bne]
  rfl

/-- One channel replaced, and CHANNEL_FAULT judged. -/
def fitChannel (i : Chan) (x : Channel) (s : State) : State := judgeChannelFault (s.mapChan i fun _ => x)

theorem fitChannel_eq (i : Chan) (x : Channel) (s : State) : fitChannel i x s =
    setCond .channelFault (Chan.all.any fun j => decide
        (((s.sfe.chans.set i x).get j).cfg.role ≠ .unused ∧ ((s.sfe.chans.set i x).get j).qual = .unqualified))
      { s with sfe := { s.sfe with chans := s.sfe.chans.set i x } } := by
  unfold fitChannel judgeChannelFault
  rw [channelFault_eq]
  rfl

@[simp] theorem fitChannel_capture (i : Chan) (x : Channel) (s : State) :
    (fitChannel i x s).sfe.capture = s.sfe.capture := by
  simp [fitChannel]

theorem unlockChannel_unlocks {i : Chan} {raw : Nat} {s : State} (hq : (s.sfe.chans.get i).qual = .qualified)
    {x : Channel} (hx : (s.sfe.chans.get i).sample raw = x) (hu : x.qual = .unqualified) :
    unlockChannel i raw s =
      if captureInvolves (fitChannel i x s) [i] then failCapture (fitChannel i x s) else fitChannel i x s := by
  unfold unlockChannel
  dsimp only
  rw [hx, if_pos ⟨hq, hu⟩]
  rfl

theorem unlockChannel_stays {i : Chan} {raw : Nat} {s : State}
    (h : ¬((s.sfe.chans.get i).qual = .qualified ∧ ((s.sfe.chans.get i).sample raw).qual = .unqualified)) :
    unlockChannel i raw s = s := if_neg h

theorem lockChannel_locks {i : Chan} {raw : Nat} {s : State} (hq : (s.sfe.chans.get i).qual = .unqualified)
    {x : Channel} (hx : (s.sfe.chans.get i).sample raw = x) (hl : x.qual = .qualified) :
    lockChannel i raw s = fitChannel i x s := by
  unfold lockChannel
  dsimp only
  rw [hx, if_pos ⟨hq, hl⟩]
  rfl

theorem lockChannel_stays {i : Chan} {raw : Nat} {s : State}
    (h : ¬((s.sfe.chans.get i).qual = .unqualified ∧ ((s.sfe.chans.get i).sample raw).qual = .qualified)) :
    lockChannel i raw s = s := if_neg h

/-- Settles O9: the sample judged by R11 or R12 says whether the channel unlocks or locks. -/
theorem channelUnlockAndLock : Obligations.ChannelUnlockAndLock := by
  intro ch raw s hs
  have unlock : exec (.channelUnlock ch raw) s = .next (arbitrate (unlockChannel ch raw.toNat s)) := act_free _ hs
  have lock : exec (.channelLock ch raw) s = .next (arbitrate (lockChannel ch raw.toNat s)) := act_free _ hs
  dsimp only
  simp only [unlock, lock, ← fitChannel_eq, Host.Outcome.next.injEq]
  have far_iff := fun w => ((s.sfe.chans.get ch).read raw.toNat).not_consistent_iff w
  refine ⟨fun hq hf hu => ?_, fun h => ?_, fun w hq hc hf hl => ?_, fun w hq hc h => ?_, fun h => ?_⟩
  · have hx := (Channel.sample_of_qualified raw.toNat hq).trans (Channel.judgeQualified_unlocks ((far_iff _).2 hf) hu)
    have involved : ∀ k, s.sfe.capture = some k → (∃ p ∈ k.sums, p.1 = ch) → unlockChannel ch raw.toNat s =
        failCapture (fitChannel ch _ s) := fun k hk hp => by
      rw [unlockChannel_unlocks hq hx rfl, if_pos ((captureInvolves_some (by simpa using hk) _).2 (by simpa using hp))]
    refine ⟨fun k hk hp hc => ?_, fun k hk hp hc hn => ?_, fun h => ?_⟩
    · rw [involved k hk hp, failCapture_young (by simpa using hk) hc]
    · rw [involved k hk hp, failCapture_due (by simpa using hk) hc, completeCapture_due (by simpa using hk) hc hn]
    · rw [unlockChannel_unlocks hq hx rfl, captureInvolves_one_false (by simpa using h)]
      rfl
  · rw [unlockChannel_stays]
    rintro ⟨hq, hu⟩
    rw [Channel.sample_of_qualified _ hq] at hu
    rcases h with h | h | h
    · exact absurd (h.symm.trans hq) (by decide)
    · rw [Channel.judgeQualified_consistent (not_not.1 (mt (far_iff _).1 h))] at hu
      exact absurd (hu.symm.trans hq) (by decide)
    · by_cases hcons : ((s.sfe.chans.get ch).read raw.toNat).Consistent (s.sfe.chans.get ch).accepted
      · rw [Channel.judgeQualified_consistent hcons] at hu
        exact absurd (hu.symm.trans hq) (by decide)
      · rw [Channel.judgeQualified_counts hcons h] at hu
        exact absurd (hu.symm.trans hq) (by decide)
  · rw [lockChannel_locks hq ((Channel.sample_of_unqualified raw.toNat hq).trans
      (Channel.judgeUnqualified_locks hc (not_not.1 (mt (far_iff _).1 hf)) hl)) rfl]
  · rw [lockChannel_stays]
    rintro ⟨-, hl⟩
    rw [Channel.sample_of_unqualified _ hq] at hl
    by_cases hcons : ((s.sfe.chans.get ch).read raw.toNat).Consistent w
    · have hcount := h.resolve_left (mt (far_iff _).2 (not_not.2 hcons))
      rw [Channel.judgeUnqualified_counts (d := (s.sfe.chans.get ch).read raw.toNat) hc hcons hcount] at hl
      exact absurd (hl.symm.trans hq) (by decide)
    · rw [Channel.judgeUnqualified_resets (d := (s.sfe.chans.get ch).read raw.toNat) hc hcons] at hl
      exact absurd (hl.symm.trans hq) (by decide)
  · rw [lockChannel_stays]
    rintro ⟨hq, hl⟩
    rcases h with h | h
    · exact absurd (h.symm.trans hq) (by decide)
    · rw [Channel.sample_of_unqualified _ hq,
        Channel.judgeUnqualified_first (d := (s.sfe.chans.get ch).read raw.toNat) h] at hl
      exact absurd (hl.symm.trans hq) (by decide)

end Sys2Proof.Machine

namespace Sys2Proof

/-! ### Channel numbers -/

theorem Chan.ofNat?_num (i : Chan) : Chan.ofNat? i.num = some i := by cases i <;> rfl

theorem Chan.num_le (i : Chan) : i.num ≤ 7 := by cases i <;> decide

theorem Chan.exists_num {n : Nat} (h : n ≤ 7) : ∃ i : Chan, i.num = n := by
  interval_cases n
  exacts [⟨.a0, rfl⟩, ⟨.a1, rfl⟩, ⟨.a2, rfl⟩, ⟨.a3, rfl⟩, ⟨.a4, rfl⟩, ⟨.a5, rfl⟩, ⟨.a6, rfl⟩, ⟨.a7, rfl⟩]

theorem Chan.ofNat?_none {n : Nat} (h : 7 < n) : Chan.ofNat? n = none := by
  unfold Chan.ofNat?
  split
  case h_9 => rfl
  all_goals omega

end Sys2Proof

namespace Sys2Proof.Machine

/-! ### The SENSOR record (R23, R203) -/

theorem Chan.ofField_num (i : Chan) : Chan.ofField (i.num : Int) = i := by cases i <;> rfl

/-- An unsigned field of two bytes, in its range. -/
theorem readFields_le_of_lt {v : Nat} (h : v < 65536) (sgs : List Bool) (rest : List Byte) :
    readFields (false :: sgs) (le 2 v ++ rest) = (v : Int) :: readFields sgs rest := by
  rw [readFields_le, Nat.mod_eq_of_lt h]

theorem readFields_leInt_last {x : Int} (h1 : -32768 ≤ x) (h2 : x ≤ 32767) : readFields [true] (leInt 2 x) = [x] := by
  simpa using readFields_leInt [] h1 h2 []

/-- R203: a record whose fields are all in range. -/
theorem writeRecord_good {checks : List Bool} (h : ∀ b ∈ checks, b = true) (structural : Bool) (write : State → State)
    (s : State) : writeRecord checks structural write s =
      if s.csc.state ≠ .config ∧ structural = true then (s, replyMode) else (write s, replyOk []) := by
  unfold writeRecord
  rw [firstBad_none.2 h]

/-- R23: the bytes of a SENSOR record in range, with the codes of its role and side. -/
theorem setSensor_good (i : Chan) (r : SensorRec) {role side : Nat} (hrole : role ≤ 3)
    (hr : Role.ofField (role : Int) = r.role) (hside : side ≤ 1) (hd : Side.ofField (side : Int) = r.side)
    (htrim : -7 ≤ r.trim ∧ r.trim ≤ 7) (hlock : 1 ≤ r.lockN ∧ r.lockN ≤ 31) (hunlock : 1 ≤ r.unlockN ∧ r.unlockN ≤ 7)
    (htol : 1 ≤ r.tol ∧ r.tol ≤ 500) (hzero : -20000 ≤ r.zero ∧ r.zero ≤ 20000) (s : State) :
    setSensor (le 2 i.num ++ le 2 role ++ le 2 side ++ leInt 2 r.trim ++ le 2 r.lockN ++ le 2 r.unlockN ++ le 2 r.tol
      ++ leInt 2 r.zero) s =
    if s.csc.state ≠ .config ∧ ((s.sfe.chans.get i).cfg.role ≠ r.role ∨ (s.sfe.chans.get i).cfg.side ≠ r.side) then
      (s, replyMode)
    else (writeSensor i r s, replyOk []) := by
  have hi := i.num_le
  have fields : readFields [false, false, false, true, false, false, false, true]
      (le 2 i.num ++ le 2 role ++ le 2 side ++ leInt 2 r.trim ++ le 2 r.lockN ++ le 2 r.unlockN ++ le 2 r.tol
        ++ leInt 2 r.zero) = [(i.num : Int), role, side, r.trim, r.lockN, r.unlockN, r.tol, r.zero] := by
    simp only [List.append_assoc]
    rw [readFields_le_of_lt (by omega), readFields_le_of_lt (by omega), readFields_le_of_lt (by omega),
      readFields_leInt _ (by omega) (by omega), readFields_le_of_lt (by omega), readFields_le_of_lt (by omega),
      readFields_le_of_lt (by omega), readFields_leInt_last (by omega) (by omega)]
  unfold setSensor
  rw [fields]
  dsimp only
  rw [hr, hd, Chan.ofField_num, writeRecord_good]
  · simp only [Int.toNat_natCast, Bool.or_eq_true, bne_iff_ne]
  · simp only [List.forall_mem_cons, within_eq_true, List.not_mem_nil, false_implies, implies_true, and_true]
    omega

/-- A changed role restarts the channel's qualification (R4). -/
theorem writeSensor_role_changed {i : Chan} {r : SensorRec} {s : State} (h : (s.sfe.chans.get i).cfg.role ≠ r.role) :
    writeSensor i r s = fitChannel i
      { s.sfe.chans.get i with cfg := r, qual := .unqualified, lock := 0, unlock := 0, cmp := none, accepted := 0 }
      s := if_pos h

theorem writeSensor_role_same {i : Chan} {r : SensorRec} {s : State} (h : (s.sfe.chans.get i).cfg.role = r.role) :
    writeSensor i r s = s.mapChan i fun c => { c with cfg := r } := if_neg (not_not.2 h)

/-- Settles O43: the bytes of the record read back as its fields, and the write goes by its structural fields and its
role. -/
theorem sensorRecordIsWritten : Obligations.SensorRecordIsWritten := by
  intro tag i r s hfree htrim1 htrim2 hlock1 hlock2 hunlock1 hunlock2 htol1 htol2 hzero1 hzero2 role
  have hrole : role ≤ 3 ∧ Role.ofField (role : Int) = r.role := by
    simp only [role]
    cases r.role <;> decide
  clear_value role
  have hside : (if r.side = .left then 0 else 1) ≤ 1 ∧
      Side.ofField ((if r.side = .left then 0 else 1 : Nat) : Int) = r.side := by
    cases r.side <;> decide
  have written := setSensor_good i r hrole.1 hrole.2 hside.1 hside.2 ⟨htrim1, htrim2⟩ ⟨hlock1, hlock2⟩
    ⟨hunlock1, hunlock2⟩ ⟨htol1, htol2⟩ ⟨hzero1, hzero2⟩ (heard s)
  have run := setForm_good (p := .sensor) (tag := tag)
    (rest := le 2 i.num ++ le 2 role ++ le 2 (if r.side = .left then 0 else 1) ++ leInt 2 r.trim ++ le 2 r.lockN
      ++ le 2 r.unlockN ++ le 2 r.tol ++ leInt 2 r.zero) rfl (by simp) hfree
  rw [written] at run
  dsimp only
  refine ⟨fun hs hc => ?_, fun hs hc => ?_, fun hs hc => ?_⟩
  · have refused : (heard s).csc.state ≠ .config ∧
        (((heard s).sfe.chans.get i).cfg.role ≠ r.role ∨ ((heard s).sfe.chans.get i).cfg.side ≠ r.side) := ⟨hs, hc⟩
    rw [if_pos refused] at run
    exact run
  · have taken : ¬((heard s).csc.state ≠ .config ∧
        (((heard s).sfe.chans.get i).cfg.role ≠ r.role ∨ ((heard s).sfe.chans.get i).cfg.side ≠ r.side)) :=
      fun k => hs.elim k.1 fun hd => k.2.elim (absurd hc) (absurd hd)
    rw [if_neg taken, writeSensor_role_same (s := heard s) hc] at run
    exact run
  · have taken : ¬((heard s).csc.state ≠ .config ∧
        (((heard s).sfe.chans.get i).cfg.role ≠ r.role ∨ ((heard s).sfe.chans.get i).cfg.side ≠ r.side)) :=
      fun k => k.1 hs
    rw [if_neg taken, writeSensor_role_changed (s := heard s) hc, fitChannel_eq] at run
    exact run

/-! ### LINTAB_LOAD, SUBSTITUTE and RELEASE (R9, R16, R17) -/

theorem readFields_points {points : List Int} (h : ∀ p ∈ points, -32768 ≤ p ∧ p ≤ 32767) :
    readFields (List.replicate points.length true) (points.flatMap (leInt 2)) = points := by
  induction points with
  | nil => rfl
  | cons p rest ih =>
    obtain ⟨hp, hrest⟩ := List.forall_mem_cons.1 h
    rw [List.flatMap_cons, List.length_cons, List.replicate_succ, readFields_leInt _ hp.1 hp.2, ih hrest]

/-- R9: the checks of LINTAB_LOAD: the channel number and the nine points. -/
def tableChecks (number : Nat) (points : List Int) : List Bool :=
  decide (number < 8) :: points.map (within (-20000) 20000)

section
variable {number : Nat} {points : List Int} (hn : number < 65536) (hl : points.length = 9)
  (hp : ∀ p ∈ points, -32768 ≤ p ∧ p ≤ 32767)
include hn hl hp

/-- R9: LINTAB_LOAD of a channel number and nine points, of which a check fails. -/
theorem lintabLoad_bad {i : Nat} (hb : firstBad 0 (tableChecks number points) = some i) (s : State) :
    lintabLoad (le 2 number ++ points.flatMap (leInt 2)) s = (s, replyField i) := by
  have hread : readPoints (points.flatMap (leInt 2)) = points := by
    rw [readPoints, ← hl, readFields_points hp]
  unfold tableChecks at hb
  rw [le_two]
  simp only [List.cons_append, List.nil_append, lintabLoad, u16_le, Nat.mod_eq_of_lt hn, hread, hb]

/-- R9: LINTAB_LOAD of a channel number and nine points in range. -/
theorem lintabLoad_good {i : Chan} (hi : i.num = number) (hin : ∀ p ∈ points, -20000 ≤ p ∧ p ≤ 20000) (s : State) :
    lintabLoad (le 2 number ++ points.flatMap (leInt 2)) s =
      if s.csc.state ≠ .config then (s, replyMode)
      else (fitChannel i { s.sfe.chans.get i with
        table := points, qual := .unqualified, lock := 0, unlock := 0, cmp := none, accepted := 0 } s, replyOk []) := by
  have hread : readPoints (points.flatMap (leInt 2)) = points := by
    rw [readPoints, ← hl, readFields_points hp]
  have hb : firstBad 0 (tableChecks number points) = none := by
    have := i.num_le
    exact firstBad_none.2 (by simpa [tableChecks] using ⟨by omega, hin⟩)
  have hchan : Chan.ofField (number : Int) = i := by rw [← hi, Chan.ofField_num]
  unfold tableChecks at hb
  rw [le_two]
  simp only [List.cons_append, List.nil_append, lintabLoad, u16_le, Nat.mod_eq_of_lt hn, hread, hb, hchan]
  congr 1

end

/-- R16: SUBSTITUTE of a byte that no channel has. -/
theorem substitute_noChan {n : Byte} (v : Int) (hn : 7 < n.toNat) (s : State) :
    substitute (n :: leInt 2 v) s = (s, replyField 0) := by
  rw [leInt_two]
  simp only [substitute, Chan.ofNat?_none hn]

/-- R16: SUBSTITUTE of a channel and a value, with its checks in order. -/
theorem substitute_chan {n : Byte} {v : Int} (h1 : -32768 ≤ v) (h2 : v ≤ 32767) {i : Chan} (hi : i.num = n.toNat)
    (s : State) :
    substitute (n :: leInt 2 v) s =
      if within (-20000) 20000 v = false then (s, replyField 1)
      else if s.csc.state = .config then (s, replyMode)
      else if (s.sfe.chans.get i).cfg.role = .unused then (s, replyPrerequisite)
      else
        let s1 := s.mapChan i fun c => { c with subst := some v }
        (if captureInvolves s1 [i] then failCapture s1 else s1, replyOk []) := by
  rw [leInt_two]
  simp only [substitute, ← hi, Chan.ofNat?_num, s16_leInt h1 h2]

/-- A channel with a role takes the value, and a capture that involves it ends (R16, R21). -/
theorem substitute_taken {n : Byte} {i : Chan} {v : Int} {s : State} (hi : i.num = n.toNat) (h1 : -20000 ≤ v)
    (h2 : v ≤ 20000) (hs : s.csc.state ≠ .config) (hr : (s.sfe.chans.get i).cfg.role ≠ .unused) :
    substitute (n :: leInt 2 v) s =
      let w := s.mapChan i fun c => { c with subst := some v }
      (if captureInvolves w [i] then failCapture w else w, replyOk []) := by
  rw [substitute_chan (by omega) (by omega) hi]
  rw [if_neg (by simp; omega), if_neg hs, if_neg hr]

/-- Settles O50: each request is its bytes read back, its checks in order, and one channel's update. -/
theorem channelRequestsActOnOneChannel : Obligations.ChannelRequestsActOnOneChannel := by
  intro tag s hfree
  refine ⟨fun number points hn hl hp => ?_, fun n v h1 h2 => ?_, fun n => ?_⟩
  · have run := takeRequest_good (k := .lintabLoad) (tag := tag)
      (payload := le 2 number ++ points.flatMap (leInt 2)) rfl (by simp [hl]) hfree.1 (.inl hfree.2)
    dsimp only
    refine ⟨fun hbig => ?_, fun hsmall k p hk hout hin => ?_, fun hsmall hin hs => ?_, fun i hi hin hs => ?_⟩
    · have hbad : firstBad 0 (tableChecks number points) = some 0 :=
        firstBad_some (k := 0) (by simp [tableChecks]; omega) (by simp)
      rw [lintabLoad_bad hn hl hp hbad] at run
      exact run
    · have hbad : firstBad 0 (tableChecks number points) = some (k + 1) := by
        unfold tableChecks
        rw [firstBad_some (k := k + 1), Nat.zero_add]
        · simp only [List.getElem?_cons_succ, List.getElem?_map, hk, Option.map_some, Option.some.injEq,
            within_eq_false]
          omega
        · intro j hj
          cases j with
          | zero => simp; omega
          | succ j =>
            have hjk : j < k := by omega
            have hjl : j < points.length := hjk.trans (List.getElem?_eq_some_iff.1 hk).1
            have := hin points[j] (List.mem_take_iff_getElem.2 ⟨j, by omega, rfl⟩)
            simpa [hjl] using this
      rw [lintabLoad_bad hn hl hp hbad] at run
      exact run
    · obtain ⟨i, hi⟩ := Chan.exists_num hsmall
      rw [lintabLoad_good hn hl hp hi hin, if_pos (show (heard s).csc.state ≠ .config from hs)] at run
      exact run
    · rw [lintabLoad_good hn hl hp hi hin, if_neg (show ¬(heard s).csc.state ≠ .config from not_not.2 hs),
        fitChannel_eq] at run
      exact run
  · have run := takeRequest_good (k := .substitute) (tag := tag) (payload := n :: leInt 2 v) rfl (by simp) hfree.1
      (.inl hfree.2)
    dsimp only
    refine ⟨fun hbig => ?_, fun hsmall hout => ?_, fun hsmall hlo hhi hs => ?_, fun i hi hlo hhi hs => ⟨fun hr => ?_,
      fun hr hc => ?_, fun k p hr hk hp hpi => ⟨fun hcount => ?_, fun hcount hnodup => ?_⟩⟩⟩
    · rw [substitute_noChan v hbig] at run
      exact run
    · obtain ⟨i, hi⟩ := Chan.exists_num hsmall
      rw [substitute_chan h1 h2 hi, if_pos (by simpa using hout)] at run
      exact run
    · obtain ⟨i, hi⟩ := Chan.exists_num hsmall
      rw [substitute_chan h1 h2 hi, if_neg (by simp; omega), if_pos (show (heard s).csc.state = .config from hs)] at run
      exact run
    · rw [substitute_chan h1 h2 hi, if_neg (by simp; omega), if_neg (show (heard s).csc.state ≠ .config from hs),
        if_pos (show ((heard s).sfe.chans.get i).cfg.role = .unused from hr)] at run
      exact run
    · rw [substitute_taken (s := heard s) hi hlo hhi hs hr] at run
      dsimp only at run
      rw [captureInvolves_one_false (by simpa using hc)] at run
      exact run
    · rw [substitute_taken (s := heard s) hi hlo hhi hs hr] at run
      dsimp only at run
      rw [if_pos ((captureInvolves_some (k := k) (by simpa using hk) _).2 ⟨p, hp, by simp [hpi]⟩),
        failCapture_young (k := k) (by simpa using hk) hcount] at run
      exact run
    · rw [substitute_taken (s := heard s) hi hlo hhi hs hr] at run
      dsimp only at run
      rw [if_pos ((captureInvolves_some (k := k) (by simpa using hk) _).2 ⟨p, hp, by simp [hpi]⟩),
        failCapture_due (k := k) (by simpa using hk) hcount, completeCapture_due (k := k) (by simpa using hk) hcount
          hnodup] at run
      exact run
  · have run := takeRequest_good (k := .release) (tag := tag) (payload := [n]) rfl rfl hfree.1 (.inl hfree.2)
    refine ⟨fun hbig => ?_, fun i hi => ?_⟩
    · simp only [release, Chan.ofNat?_none hbig] at run
      exact run
    · simp only [release, ← hi, Chan.ofNat?_num] at run
      exact run

end Sys2Proof.Machine

namespace Sys2Proof.Machine

/-! ### A sample set in READY (R20, R21) -/

/-- The CSC's state and what the cutoff counter of the supply monitor holds. -/
structure CutoffStands (s t : State) : Prop where
  csc : t.csc = s.csc := by simp
  count : t.vos.cutoffCount = s.vos.cutoffCount := by simp

theorem CutoffStands.rfl {s : State} : CutoffStands s s := {}

theorem CutoffStands.trans {s t u : State} (h : CutoffStands s t) (k : CutoffStands t u) : CutoffStands s u :=
  ⟨k.csc.trans h.csc, k.count.trans h.count⟩

theorem settleLowSet_cutoff (s : State) : CutoffStands s (settleLowSet s) where
  count := by unfold settleLowSet; split <;> simp

theorem settleLowClear_cutoff (s : State) : CutoffStands s (settleLowClear s) where
  count := by unfold settleLowClear; split <;> simp

theorem updateLoops_cutoff (s : State) : CutoffStands s (updateLoops s) where
  count := rfl

theorem failLost_cutoff (lost : List Chan) (s : State) : CutoffStands s (failLost lost s) := by
  unfold failLost
  split
  · exact {}
  · exact .rfl

theorem captureShare_cutoff (apart : Bool) (s : State) : CutoffStands s (captureShare apart s) := by
  unfold captureShare
  cases apart
  · exact CutoffStands.trans (t := countCapture s) ⟨rfl, rfl⟩ {}
  · exact ⟨rfl, rfl⟩

theorem applyCutoff_unhanded {s : State} (h : s.csc.cutoffHanded = false) : applyCutoff s = s := by
  unfold applyCutoff
  rw [if_neg (by simp [h])]

theorem settleEngage_ready {s : State} (h : s.csc.state = .ready) : settleEngage s = s :=
  if_neg fun k => absurd (h.symm.trans k.1) (by decide)

theorem settleLift_ready {s : State} (h : s.csc.state = .ready) : settleLift s = s :=
  if_neg fun k => absurd (h.symm.trans k.1) (by decide)

theorem applyLoss_ready (lost : Bool) {s : State} (h : s.csc.state = .ready) : applyLoss lost s = s := by
  unfold applyLoss
  split
  · simp only [h]
  · rfl

theorem completionShare_ready (apart : Bool) {s : State} (h : s.csc.state = .ready) : completionShare apart s = s := by
  unfold completionShare
  rw [settleEngage_ready h, settleLift_ready h, ite_self]

/-- In READY, with no cutoff handed over and the capture still counting, nothing that touches the SFE is due. -/
theorem settleDue_ready {k : Capture} {s : State} (hs : s.csc.state = .ready) (hh : s.csc.cutoffHanded = false)
    (hk : s.sfe.capture = some k) (hc : k.count < 32) :
    (settleDue s).sfe = s.sfe ∧ CutoffStands s (settleDue s) := by
  have monitored : CutoffStands s (settleLowClear (settleLowSet (closeClassWindow s))) :=
    (CutoffStands.trans (t := closeClassWindow s) {} (settleLowSet_cutoff _)).trans (settleLowClear_cutoff _)
  have state : (settleLowClear (settleLowSet (closeClassWindow s))).csc.state = .ready := by rw [monitored.csc, hs]
  have handed : (settleLowClear (settleLowSet (closeClassWindow s))).csc.cutoffHanded = false := by
    rw [monitored.csc, hh]
  unfold settleDue
  rw [completeCapture_young hk hc, applyCutoff_unhanded handed, settleEngage_ready state, settleLift_ready state]
  exact ⟨by simp, monitored⟩

theorem sideShare_ready (o : SampleOrder) {s : State} (h : s.csc.state = .ready) :
    (sideShare o s).sfe = s.sfe ∧ CutoffStands s (sideShare o s) := by
  have loaded : ∀ u : State, CutoffStands u (sampleLoad o.apart u) := fun _ => {}
  have readings : CutoffStands s (readSides s) := {}
  unfold sideShare
  dsimp only
  generalize entersLost s.sru.sides (readSides s).sru.sides = lost
  have first : CutoffStands s (if o.loadFirst = true then sampleLoad o.apart (readSides s) else readSides s) ∧
      (if o.loadFirst = true then sampleLoad o.apart (readSides s) else readSides s).sfe = s.sfe := by
    split
    · exact ⟨readings.trans (loaded _), by simp⟩
    · exact ⟨readings, by simp⟩
  generalize (if o.loadFirst = true then sampleLoad o.apart (readSides s) else readSides s) = u at first
  obtain ⟨cutoff, sfe⟩ := first
  have updated := cutoff.trans (updateLoops_cutoff u)
  rw [applyLoss_ready lost (by rw [cutoff.csc, h]), applyLoss_ready lost (by rw [updated.csc, h]), ite_self,
    completionShare_ready _ (by rw [updated.csc, h])]
  split
  · exact ⟨by simp [sfe], updated⟩
  · exact ⟨by simp [sfe], updated.trans (loaded _)⟩

/-- R193: the supply value brings the cutoff counter to 5 only where the hand-over is left due. -/
structure NoHandover (apart : Bool) (s : State) : Prop where
  state : s.csc.state = .ready
  handed : s.csc.cutoffHanded = false
  count : s.vos.supply < Config.cutoffLevel → 5 ≤ s.vos.cutoffCount + 1 → apart = true

theorem NoHandover.of_stands {apart : Bool} {s t : State} (h : NoHandover apart s) (k : CutoffStands s t)
    (f : ShareFrame s t) : NoHandover apart t :=
  ⟨by rw [k.csc, h.state], by rw [k.csc, h.handed], by rw [k.count, f.supply]; exact h.count⟩

theorem countCutoff_state (s : State) : (countCutoff s).csc.state = s.csc.state := by
  unfold countCutoff
  dsimp only
  generalize (if s.vos.supply < Config.cutoffLevel then s.vos.cutoffCount + 1 else 0) = n
  split <;> rfl

theorem countCutoff_below {s : State} (h : ¬(s.vos.supply < Config.cutoffLevel ∧ 5 ≤ s.vos.cutoffCount + 1)) :
    (countCutoff s).csc = s.csc := by
  unfold countCutoff
  dsimp only
  rw [if_neg]
  · rfl
  · split
    · exact fun hc => h ⟨‹_›, hc⟩
    · omega

theorem monitorShare_ready {apart : Bool} {s : State} (h : NoHandover apart s) :
    (monitorShare apart s).sfe = s.sfe ∧ (monitorShare apart s).csc.state = .ready := by
  have counted : CutoffStands s (s.mapVos (Vos.countSupply s.cfg.lowLevel)) :=
    ⟨rfl, by simp only [State.mapVos_vos, Vos.countSupply]; split <;> rfl⟩
  have supply : (s.mapVos (Vos.countSupply s.cfg.lowLevel)).vos.supply = s.vos.supply :=
    (countSupply_frame _ s).supply
  have sfe : (s.mapVos (Vos.countSupply s.cfg.lowLevel)).sfe = s.sfe := rfl
  unfold monitorShare
  dsimp only
  generalize s.mapVos (Vos.countSupply s.cfg.lowLevel) = u at counted supply sfe
  cases apart
  · have below : ¬(u.vos.supply < Config.cutoffLevel ∧ 5 ≤ u.vos.cutoffCount + 1) := by
      rw [supply, counted.count]
      exact fun hc => absurd (h.count hc.1 hc.2) (by decide)
    have same : (settleLowClear (settleLowSet (countCutoff u))).csc = s.csc := by
      rw [settleLowClear_csc, settleLowSet_csc, countCutoff_below below, counted.csc]
    rw [if_neg (by decide), applyCutoff_unhanded (by rw [same, h.handed]), same]
    exact ⟨by simp [sfe], h.state⟩
  · rw [if_pos rfl, countCutoff_state, counted.csc]
    exact ⟨by simp [sfe], h.state⟩

/-- The part right after the scan, with the capture failed already where its order says so (log 4). -/
def captureStart (scan : Scan) (o : SampleOrder) (s : State) : State :=
  if o.captureFirst then scanChannels scan (settleDue s)
  else failLost (lostAt scan s) (scanChannels scan (settleDue s))

/-- The part after the capture's share, with the capture failed where its order says so (log 4). -/
def captureEnd (scan : Scan) (o : SampleOrder) (s : State) : State :=
  let w := captureShare o.apart (sideShare o (scanned scan o s))
  if o.captureFirst then failLost (lostAt scan s) w else w

section
variable {scan : Scan} {o : SampleOrder} {s : State} {k : Capture} (hs : s.csc.state = .ready)
  (hn : NoCutoff scan o s) (hk : s.sfe.capture = some k) (hc : k.count < 32)
include hs hn hk hc

theorem scan_ready : (scanChannels scan (settleDue s)).sfe =
      { chans := Chans.of fun i => (s.sfe.chans.get i).sample (scan.chans.get i).toNat, capture := some k,
        scanLeft := 10 } ∧
    NoHandover o.apart (scanChannels scan (settleDue s)) := by
  obtain ⟨sfe, stands⟩ := settleDue_ready hs hn.1 hk hc
  refine ⟨by rw [scanChannels_sfe, sfe, ← hk], by simp [stands.csc, hs], by simp [stands.csc, hn.1], ?_⟩
  rw [scanChannels_vos]
  dsimp only
  rw [stands.count]
  intro low five
  have := hn.2 (by simp only [cutsOff, Bool.and_eq_true, decide_eq_true_eq]; exact ⟨low, five⟩)
  simpa [hs] using this

/-- In READY the shares of a sample set but for the capture's leave the SFE as it is. -/
theorem sampleSet_ready :
    (sideShare o (scanned scan o s)).sfe = (captureStart scan o s).sfe ∧
    ShareFrame (captureStart scan o s) (sideShare o (scanned scan o s)) ∧
    (sampleSet scan o s).sfe = (captureEnd scan o s).sfe ∧
    ShareFrame (captureEnd scan o s) (sampleSet scan o s) := by
  have start : NoHandover o.apart (captureStart scan o s) := by
    have scanned := (scan_ready hs hn hk hc).2
    unfold captureStart
    split
    · exact scanned
    · exact scanned.of_stands (failLost_cutoff _ _) (failLost_frame _ _)
  have hscanned : scanned scan o s =
      if o.monitorFirst then monitorShare o.apart (captureStart scan o s) else captureStart scan o s := rfl
  have hset : sampleSet scan o s =
      if o.monitorFirst then captureEnd scan o s else monitorShare o.apart (captureEnd scan o s) := rfl
  cases hm : o.monitorFirst
  · rw [hm, if_neg (by decide)] at hscanned hset
    obtain ⟨sfe, stands⟩ := sideShare_ready o start.state
    have frame := sideShare_frame o (captureStart scan o s)
    have last : NoHandover o.apart (captureEnd scan o s) := by
      have shared := (start.of_stands stands frame).of_stands (captureShare_cutoff o.apart _)
        (captureShare_frame o.apart _)
      unfold captureEnd
      rw [hscanned]
      dsimp only
      split
      · exact shared.of_stands (failLost_cutoff _ _) (failLost_frame _ _)
      · exact shared
    rw [hset, hscanned]
    exact ⟨sfe, frame, (monitorShare_ready last).1, monitorShare_frame _ _⟩
  · rw [hm, if_pos rfl] at hscanned hset
    obtain ⟨monitored, state⟩ := monitorShare_ready start
    rw [hset, hscanned]
    exact ⟨(sideShare_ready o state).1.trans monitored, (monitorShare_frame _ _).trans (sideShare_frame _ _), rfl, .rfl⟩

end

/-! ### A capture counts, completes or fails at a sample set (R20, R21) -/

/-- R20: a capture that has counted a sample set with these channels. -/
def Capture.counted (cs : Chans Channel) (k : Capture) : Capture :=
  { k with sums := k.sums.map fun p => (p.1, p.2 + (cs.get p.1).pubValue), count := k.count + 1 }

theorem Capture.counted_keys (cs : Chans Channel) (k : Capture) :
    (k.counted cs).sums.map Prod.fst = k.sums.map Prod.fst := by
  simp [Capture.counted, Function.comp_def]

theorem countCapture_capture {k : Capture} {s : State} (hk : s.sfe.capture = some k) :
    (countCapture s).sfe.capture = some (k.counted s.sfe.chans) := by
  simp [countCapture, hk, Capture.counted]

theorem captureShare_none (apart : Bool) {s : State} (hk : s.sfe.capture = none) :
    (captureShare apart s).sfe = s.sfe := by
  have counted : (countCapture s).sfe = s.sfe := by
    rcases hsfe : s.sfe with ⟨chans, capture, left⟩
    rw [hsfe] at hk
    subst hk
    simp [countCapture, hsfe]
  unfold captureShare completeCapture
  cases apart
  · simp [counted, hk]
  · simp [counted]

theorem captureShare_counts {apart : Bool} {k : Capture} {s : State} (hk : s.sfe.capture = some k)
    (h : k.count + 1 < 32 ∨ apart = true) : captureShare apart s = countCapture s := by
  unfold captureShare
  cases apart
  · exact completeCapture_young (countCapture_capture hk) (h.resolve_right (by decide))
  · rfl

theorem captureShare_completes {k : Capture} {s : State} (hk : s.sfe.capture = some k) (h : 32 ≤ k.count + 1)
    (hn : (k.sums.map Prod.fst).Nodup) :
    captureShare false s = captured (k.counted s.sfe.chans) (countCapture s) :=
  completeCapture_due (countCapture_capture hk) h (by rwa [Capture.counted_keys])

theorem failLost_none (lost : List Chan) {s : State} (hk : s.sfe.capture = none) : failLost lost s = s := by
  simp [failLost, captureInvolves, hk]

theorem failLost_uninvolved {lost : List Chan} {k : Capture} {s : State} (hk : s.sfe.capture = some k)
    (h : ¬∃ p ∈ k.sums, p.1 ∈ lost) : failLost lost s = s := by
  unfold failLost
  rw [if_neg (mt (captureInvolves_some hk _).1 h)]

theorem failLost_involved {lost : List Chan} {k : Capture} {s : State} (hk : s.sfe.capture = some k)
    (h : ∃ p ∈ k.sums, p.1 ∈ lost) : failLost lost s = failCapture s := by
  unfold failLost
  rw [if_pos ((captureInvolves_some hk _).2 h)]

@[simp] theorem captured_capture (k : Capture) (s : State) : (captured k s).sfe.capture = none := by simp [captured]

theorem find?_key {l : List (Chan × Int)} (h : (l.map Prod.fst).Nodup) {p : Chan × Int} (hp : p ∈ l) :
    (l.find? fun q => q.1 == p.1) = some p := by
  induction l with
  | nil => cases hp
  | cons q rest ih =>
    obtain ⟨hq, hrest⟩ := List.nodup_cons.1 h
    rcases List.mem_cons.1 hp with rfl | hmem
    · simp
    · rw [List.find?_cons_of_neg, ih hrest hmem]
      intro hqp
      exact hq (List.mem_map.2 ⟨p, hmem, (beq_iff_eq.1 hqp).symm⟩)

/-- R20: the zero of a channel of the capture. -/
theorem captured_zero {k : Capture} (hn : (k.sums.map Prod.fst).Nodup) {p : Chan × Int} (hp : p ∈ k.sums) (s : State) :
    ((captured k s).sfe.chans.get p.1).cfg.zero = max (-20000) (min 20000 (p.2 / 32 - k.depthNow)) := by
  simp [captured, find?_key hn hp]

theorem captured_zero_other {k : Capture} {i : Chan} (h : ∀ p ∈ k.sums, p.1 ≠ i) (s : State) :
    ((captured k s).sfe.chans.get i).cfg.zero = (s.sfe.chans.get i).cfg.zero := by
  have none : (k.sums.find? fun p => p.1 == i) = none := List.find?_eq_none.2 fun p hp => by simpa using h p hp
  simp [captured, none]

/-- The capture fails now: its context is empty, the channels stand and ZERO_FAILED is raised (R21). -/
def CaptureFails (s t : State) : Prop :=
  t.sfe.capture = none ∧ t.sfe.chans = s.sfe.chans ∧
    (marked s.li.events.enable 6 = true → isPending .zeroFailed t = true)

theorem failCapture_fails {k : Capture} {s : State} (hk : s.sfe.capture = some k) (hc : k.count < 32) :
    CaptureFails s (failCapture s) := by
  rw [failCapture_young hk hc]
  exact ⟨by simp, by simp, fun he => raise_pending_self he⟩

end Sys2Proof.Machine

namespace Sys2Proof.Machine

/-! ### The outcomes of a sample set for a capture in flight -/

/-- The channels worked through a sample set. -/
def worked (scan : Scan) (s : State) : Chans Channel :=
  Chans.of fun i => (s.sfe.chans.get i).sample (scan.chans.get i).toNat

@[simp] theorem worked_zero (scan : Scan) (s : State) (i : Chan) :
    ((worked scan s).get i).cfg.zero = (s.sfe.chans.get i).cfg.zero := by
  rw [worked, Chans.get_of, Channel.sample_eq_read]
  rfl

/-- R21: a channel of the capture becomes UNQUALIFIED at the sample set. -/
def LosesChannel (scan : Scan) (k : Capture) (s : State) : Prop := ∃ p ∈ k.sums, p.1 ∈ lostAt scan s

/-- The capture has completed at the sample set: it counted the channels as they were worked through it. -/
def CompletesWith (scan : Scan) (k : Capture) (s t : State) : Prop :=
  ∃ v, v.sfe.chans = worked scan s ∧ v.li.events.enable = s.li.events.enable ∧
    t = captured (k.counted (worked scan s)) v

/-- The capture has counted the sample set and is still in flight. -/
def CountsWith (scan : Scan) (k : Capture) (s t : State) : Prop :=
  t.sfe.chans = worked scan s ∧ t.sfe.capture = some (k.counted (worked scan s))

/-- The capture has failed at the sample set. -/
def FailsWith (scan : Scan) (s t : State) : Prop :=
  t.sfe.capture = none ∧ t.sfe.chans = worked scan s ∧
    (marked s.li.events.enable 6 = true → isPending .zeroFailed t = true)

section
variable {scan : Scan} {o : SampleOrder} {s : State} {k : Capture} (hs : s.csc.state = .ready)
  (hn : NoCutoff scan o s) (hk : s.sfe.capture = some k) (hc : k.count < 32)
include hs hn hk hc

/-- Where the order lets no failure come first, the capture's share finds the capture as it was. -/
theorem captureShare_start (h : o.captureFirst = true ∨ ¬LosesChannel scan k s) :
    (sideShare o (scanned scan o s)).sfe.capture = some k ∧
    (sideShare o (scanned scan o s)).sfe.chans = worked scan s ∧
    (sideShare o (scanned scan o s)).li.events.enable = s.li.events.enable := by
  obtain ⟨sfe, frame, -, -⟩ := sampleSet_ready hs hn hk hc
  have scan_sfe := (scan_ready hs hn hk hc).1
  have scan_events := (settleDue_frame s).events.trans (scanChannels_frame scan (settleDue s)).events
  have start : captureStart scan o s = scanChannels scan (settleDue s) := by
    unfold captureStart
    split
    · rfl
    · exact failLost_uninvolved (k := k) (by rw [scan_sfe]) (h.resolve_left ‹_›)
  rw [start] at sfe frame
  rw [sfe, scan_sfe]
  exact ⟨rfl, rfl, frame.events.enable.trans scan_events.enable⟩

/-- R20: with its share left to it, a full capture completes, with the sample set or at the loss that follows. -/
theorem captureEnd_completes (hnodup : (k.sums.map Prod.fst).Nodup) (hf : k.count + 1 = 32)
    (h : LosesChannel scan k s ∧ o.captureFirst = true ∨ ¬LosesChannel scan k s ∧ o.apart = false) :
    CompletesWith scan k s (captureEnd scan o s) := by
  obtain ⟨hv, chans, enable⟩ := captureShare_start hs hn hk hc (h.imp And.right And.left)
  refine ⟨countCapture (sideShare o (scanned scan o s)), chans, enable, ?_⟩
  rw [← chans]
  unfold captureEnd
  dsimp only
  cases ha : o.apart
  · rw [captureShare_completes hv hf.ge hnodup, failLost_none _ (captured_capture _ _), ite_self]
  · obtain ⟨lost, first⟩ := h.resolve_right fun k => absurd (ha.symm.trans k.2) (by decide)
    obtain ⟨p, hp, hmem⟩ := lost
    have counted := countCapture_capture hv
    have key : ∃ q ∈ (k.counted (sideShare o (scanned scan o s)).sfe.chans).sums, q.1 ∈ lostAt scan s :=
      ⟨_, List.mem_map_of_mem hp, hmem⟩
    rw [first, if_pos rfl, captureShare_counts hv (.inr rfl), failLost_involved counted key,
      failCapture_due counted hf.ge, completeCapture_due counted hf.ge (by rwa [Capture.counted_keys])]

theorem captureEnd_counts (h : ¬LosesChannel scan k s) (hf : k.count + 1 ≠ 32 ∨ o.apart = true) :
    CountsWith scan k s (captureEnd scan o s) := by
  obtain ⟨hv, chans, -⟩ := captureShare_start hs hn hk hc (.inr h)
  have counted := countCapture_capture hv
  have key : ¬∃ q ∈ (k.counted (sideShare o (scanned scan o s)).sfe.chans).sums, q.1 ∈ lostAt scan s := by
    rintro ⟨q, hq, hmem⟩
    obtain ⟨p, hp, rfl⟩ := List.mem_map.1 hq
    exact h ⟨p, hp, hmem⟩
  unfold captureEnd
  dsimp only
  rw [captureShare_counts hv (hf.imp_left (by omega)), failLost_uninvolved counted key, ite_self]
  exact ⟨chans, by rw [counted, chans]⟩

theorem captureEnd_fails (h : LosesChannel scan k s) (hf : o.captureFirst = false ∨ k.count + 1 ≠ 32) :
    FailsWith scan s (captureEnd scan o s) := by
  obtain ⟨p, hp, hmem⟩ := h
  cases hfirst : o.captureFirst
  · obtain ⟨sfe, frame, -, -⟩ := sampleSet_ready hs hn hk hc
    have scan_sfe := (scan_ready hs hn hk hc).1
    have scan_events := (settleDue_frame s).events.trans (scanChannels_frame scan (settleDue s)).events
    have scan_capture : (scanChannels scan (settleDue s)).sfe.capture = some k := by rw [scan_sfe]
    have start : captureStart scan o s = failCapture (scanChannels scan (settleDue s)) := by
      unfold captureStart
      rw [hfirst, if_neg (by decide), failLost_involved scan_capture ⟨p, hp, hmem⟩]
    obtain ⟨capture, chans, raised⟩ := failCapture_fails scan_capture hc
    rw [start] at sfe frame
    have share := captureShare_none o.apart (s := sideShare o (scanned scan o s)) (by rw [sfe, capture])
    have pending := (frame.events.trans (captureShare_frame o.apart _).events).pending 6 (by decide)
    unfold captureEnd
    rw [hfirst, if_neg (by decide)]
    refine ⟨by rw [share, sfe, capture], by rw [share, sfe, chans, scan_sfe]; rfl, fun he => pending (raised ?_)⟩
    rw [scan_events.enable, he]
  · obtain ⟨hv, chans, enable⟩ := captureShare_start hs hn hk hc (.inl hfirst)
    have counted := countCapture_capture hv
    have key : ∃ q ∈ (k.counted (sideShare o (scanned scan o s)).sfe.chans).sums, q.1 ∈ lostAt scan s :=
      ⟨_, List.mem_map_of_mem hp, hmem⟩
    have young : k.count + 1 < 32 := by
      have := hf.resolve_left (by simp [hfirst])
      omega
    obtain ⟨capture, stands, raised⟩ := failCapture_fails counted young
    unfold captureEnd
    dsimp only
    rw [hfirst, if_pos rfl, captureShare_counts hv (.inl young), failLost_involved counted key]
    exact ⟨capture, stands.trans chans, fun he => raised (enable.symm ▸ he)⟩

end

/-- R19: the channels that a ZERO involves, as one filter. -/
def zeroInvolved (kind number : Nat) (s : State) : List Chan :=
  Chan.all.filter fun i =>
    if kind = 0 then i.num == number
    else (s.sfe.chans.get i).cfg.role == .height &&
      (s.sfe.chans.get i).cfg.side == (if number = 0 then .left else .right)

theorem zeroChannels_eq {kind number : Nat} (h : number ≤ if kind = 0 then 7 else 1) (s : State) :
    zeroChannels kind number s = zeroInvolved kind number s := by
  unfold zeroChannels heightSet channelsWith zeroInvolved
  by_cases hk : kind = 0
  · simp only [if_pos hk] at h ⊢
    interval_cases number <;> rfl
  · simp only [if_neg hk]

/-- R19: what the channels of a ZERO must be. -/
def Zeroable (involved : List Chan) (s : State) : Prop :=
  involved ≠ [] ∧ ∀ i ∈ involved, (s.sfe.chans.get i).cfg.role = .height ∧ (s.sfe.chans.get i).pubState = .qualified

/-- The two tests of ZERO on its channels. -/
theorem zeroable_iff (involved : List Chan) (s : State) : Zeroable involved s ↔
    (involved.isEmpty || !(involved.all fun i => (s.sfe.chans.get i).cfg.role == .height)) = false ∧
      (!(involved.all fun i => (s.sfe.chans.get i).pubState == .qualified)) = false := by
  simp only [Zeroable, Bool.or_eq_false_iff, List.isEmpty_eq_false_iff, Bool.not_eq_false', List.all_eq_true,
    beq_iff_eq]
  exact ⟨fun h => ⟨⟨h.1, fun i hi => (h.2 i hi).1⟩, fun i hi => (h.2 i hi).2⟩,
    fun h => ⟨h.1.1, fun i hi => ⟨h.1.2 i hi, h.2 i hi⟩⟩⟩

/-- R19: the checks of ZERO on its fields. -/
def zeroChecks (kind number : Nat) (depth : Int) : List Bool :=
  [decide (kind ≤ 1), decide (number ≤ if kind = 0 then 7 else 1), within (-5000) 5000 depth]

section
variable {kind number : Byte} {depth : Int} (h1 : -32768 ≤ depth) (h2 : depth ≤ 32767)
include h1 h2

theorem zeroRequest_bad {i : Nat} (hb : firstBad 0 (zeroChecks kind.toNat number.toNat depth) = some i) (s : State) :
    zeroRequest (kind :: number :: i2 depth) s = (s, replyField i) := by
  unfold zeroChecks at hb
  rw [i2, leInt_two]
  simp only [zeroRequest, s16_leInt h1 h2, hb]

variable (hr : ∀ b ∈ zeroChecks kind.toNat number.toNat depth, b = true) {s : State}
include hr

theorem zeroRequest_mode (hs : s.csc.state ≠ .ready) :
    zeroRequest (kind :: number :: i2 depth) s = (s, replyMode) := by
  have hb := firstBad_none (i := 0).2 hr
  unfold zeroChecks at hb
  rw [i2, leInt_two]
  simp only [zeroRequest, s16_leInt h1 h2, hb]
  rw [if_pos hs]

variable (hs : s.csc.state = .ready)
include hs

theorem zeroRequest_busy (hk : s.sfe.capture ≠ none) :
    zeroRequest (kind :: number :: i2 depth) s = (s, replyBusy) := by
  have hb := firstBad_none (i := 0).2 hr
  unfold zeroChecks at hb
  rw [i2, leInt_two]
  simp only [zeroRequest, s16_leInt h1 h2, hb]
  rw [if_neg (not_not.2 hs), if_pos (Option.isSome_iff_ne_none.2 hk)]

variable (hk : s.sfe.capture = none)
include hk

/-- R19: in READY with no capture in flight the channels decide. -/
theorem zeroRequest_prerequisite (hz : ¬Zeroable (zeroInvolved kind.toNat number.toNat s) s) :
    zeroRequest (kind :: number :: i2 depth) s = (s, replyPrerequisite) := by
  have hb := firstBad_none (i := 0).2 hr
  have hnumber : number.toNat ≤ if kind.toNat = 0 then 7 else 1 :=
    of_decide_eq_true (hr _ (List.mem_cons_of_mem _ (List.mem_cons_self ..)))
  unfold zeroChecks at hb
  rw [i2, leInt_two]
  simp only [zeroRequest, s16_leInt h1 h2, hb, zeroChannels_eq hnumber]
  rw [if_neg (not_not.2 hs), if_neg (by simp [hk])]
  split
  · rfl
  · rw [if_pos]
    exact Bool.eq_true_of_not_eq_false fun hpub => hz ((zeroable_iff _ _).2 ⟨Bool.eq_false_of_not_eq_true ‹_›, hpub⟩)

theorem zeroRequest_accepted (hz : Zeroable (zeroInvolved kind.toNat number.toNat s) s) :
    zeroRequest (kind :: number :: i2 depth) s =
      (s.mapSfe fun f =>
        { f with capture := some { sums := (zeroInvolved kind.toNat number.toNat s).map fun i => (i, 0),
                                   depthNow := depth, count := 0 } }, replyAccepted) := by
  have hb := firstBad_none (i := 0).2 hr
  have hnumber : number.toNat ≤ if kind.toNat = 0 then 7 else 1 :=
    of_decide_eq_true (hr _ (List.mem_cons_of_mem _ (List.mem_cons_self ..)))
  obtain ⟨hrole, hpub⟩ := (zeroable_iff _ _).1 hz
  unfold zeroChecks at hb
  rw [i2, leInt_two]
  simp only [zeroRequest, s16_leInt h1 h2, hb, zeroChannels_eq hnumber]
  rw [if_neg (not_not.2 hs), if_neg (by simp [hk]), if_neg (by rw [hrole]; decide), if_neg (by rw [hpub]; decide)]

end

end Sys2Proof.Machine

namespace Sys2Proof.Machine

/-! ### ZERO and the sample sets of its capture -/

/-- Two channels that differ in the zero alone judge and publish alike. -/
theorem Channel.SameButZero.pubValue {c d : Channel} (h : c.SameButZero d) : c.pubValue = d.pubValue := by
  rw [h]; rfl

theorem Channel.SameButZero.qual {c d : Channel} (h : c.SameButZero d) : c.qual = d.qual := by
  rw [h]; rfl

theorem mem_newlyUnqualified {before after : Chans Channel} {i : Chan} :
    i ∈ newlyUnqualified before after ↔ (before.get i).qual = .qualified ∧ (after.get i).qual = .unqualified := by
  simp [newlyUnqualified, Chan.mem_all]

/-- R21: the channels of the capture that become UNQUALIFIED, by the states before and after the sample set. -/
theorem losesChannel_iff {scan : Scan} {o : SampleOrder} {s : State} {k : Capture} (hs : s.csc.state = .ready)
    (hn : NoCutoff scan o s) (hk : s.sfe.capture = some k) (hc : k.count < 32) :
    LosesChannel scan k s ↔ ∃ p ∈ k.sums, (s.sfe.chans.get p.1).qual = .qualified ∧
      ((sampleSet scan o s).sfe.chans.get p.1).qual = .unqualified := by
  unfold LosesChannel lostAt
  simp only [mem_newlyUnqualified, (settleDue_ready hs hn.1 hk hc).1, scanChannels_sfe, Chans.get_of,
    (sampleSet_chans scan o s _).qual]

/-- What a completion writes, in the words of the sample set's own state. -/
theorem CompletesWith.done {scan : Scan} {s t u : State} {k : Capture} (h : CompletesWith scan k s u)
    (hnodup : (k.sums.map Prod.fst).Nodup) (sfe : t.sfe = u.sfe) (events : u.li.events.Grows t.li.events)
    (same : SameButZeros t.sfe.chans (worked scan s)) :
    t.sfe.capture = none ∧
    (marked s.li.events.enable 5 = true → isPending .zeroDone t = true) ∧
    (∀ p ∈ k.sums, (t.sfe.chans.get p.1).cfg.zero
      = max (-20000) (min 20000 ((p.2 + (t.sfe.chans.get p.1).pubValue) / 32 - k.depthNow))) ∧
    ∀ i, (∀ p ∈ k.sums, p.1 ≠ i) → (t.sfe.chans.get i).cfg.zero = (s.sfe.chans.get i).cfg.zero := by
  obtain ⟨v, chans, enable, rfl⟩ := h
  refine ⟨by rw [sfe, captured_capture], fun he => ?_, fun p hp => ?_, fun i hi => ?_⟩
  · exact events.pending 5 (by decide) (raise_pending_self (e := .zeroDone) (by rw [← he, ← enable]; rfl))
  · have keys : ((k.counted (worked scan s)).sums.map Prod.fst).Nodup := by rwa [Capture.counted_keys]
    rw [(same p.1).pubValue, sfe]
    exact captured_zero keys (List.mem_map_of_mem hp) v
  · rw [sfe, captured_zero_other, chans, worked_zero]
    intro q hq
    obtain ⟨p, hp, rfl⟩ := List.mem_map.1 hq
    exact hi p hp

/-- Settles O15: ZERO by its checks in order, and a sample set by whether a channel of the capture is lost at it, the
order of its shares and the count. -/
theorem zeroCaptureRuns : Obligations.ZeroCaptureRuns := by
  refine ⟨fun tag kind number depth s hfree h1 h2 => ?_, fun scan o s k hr hs hn hk hc hnodup => ?_,
    fun s k hr hk => ⟨fun hc => ?_, fun hc hnodup => ?_⟩⟩
  · have run := takeRequest_good (k := .zero) (tag := tag) (payload := kind :: number :: i2 depth) rfl (by simp [i2])
      hfree.1 (.inl hfree.2)
    have inRange : kind.toNat ≤ 1 → (number.toNat ≤ if kind.toNat = 0 then 7 else 1) → -5000 ≤ depth → depth ≤ 5000 →
        ∀ b ∈ zeroChecks kind.toNat number.toNat depth, b = true := by
      intro hkind hnumber hlo hhi
      simp [zeroChecks, hkind, hnumber, hlo, hhi]
    dsimp only
    refine ⟨fun hkind => ?_, fun hkind hnumber => ?_, fun hkind hnumber hdepth => ?_, fun hin hs => ?_,
      fun hin hs hbusy => ?_, fun hin hs hfreeCapture hgood => ?_, fun hin hs hfreeCapture hgood => ?_⟩
    · rw [zeroRequest_bad h1 h2 (i := 0) (firstBad_some (k := 0) (by simpa [zeroChecks] using hkind) (by simp))] at run
      exact run
    · have hb : firstBad 0 (zeroChecks kind.toNat number.toNat depth) = some 1 := by
        simp [zeroChecks, firstBad, hkind, Nat.not_le.2 hnumber]
      rw [zeroRequest_bad h1 h2 hb] at run
      exact run
    · have hb : firstBad 0 (zeroChecks kind.toNat number.toNat depth) = some 2 := by
        have := (within_eq_false (-5000) 5000 depth).2 hdepth
        simp [zeroChecks, firstBad, hkind, hnumber, this]
      rw [zeroRequest_bad h1 h2 hb] at run
      exact run
    all_goals
      obtain ⟨hkind, hnumber, hlo, hhi⟩ := hin
      have hr := inRange hkind hnumber hlo hhi
    · rw [zeroRequest_mode h1 h2 hr (s := heard s) hs] at run
      exact run
    · rw [zeroRequest_busy h1 h2 hr (s := heard s) hs hbusy] at run
      exact run
    · rw [zeroRequest_prerequisite h1 h2 hr (s := heard s) hs hfreeCapture hgood] at run
      exact run
    · rw [zeroRequest_accepted h1 h2 hr (s := heard s) hs hfreeCapture hgood] at run
      exact run
  · refine ⟨_, exec_sampleSet scan o hr, ?_⟩
    obtain ⟨-, -, sfe, frame⟩ := sampleSet_ready hs hn hk hc
    have same : SameButZeros (sampleSet scan o s).sfe.chans (worked scan s) := fun i => by
      rw [worked, Chans.get_of]
      exact sampleSet_chans scan o s i
    have events := frame.events.trans (arbitrate_frame (sampleSet scan o s)).events
    have lost := losesChannel_iff hs hn hk hc
    rw [← arbitrate_sfe (sampleSet scan o s)] at sfe same lost
    generalize arbitrate (sampleSet scan o s) = t at sfe same events lost ⊢
    dsimp only
    rw [← lost]
    refine ⟨fun hl hf => ?_, fun hl hfirst hf => ?_, fun hl hf => ?_, fun hl hf ha => ?_⟩
    · obtain ⟨capture, chans, raised⟩ := captureEnd_fails hs hn hk hc hl hf
      exact ⟨by rw [sfe, capture], fun i => by rw [sfe, chans, worked_zero],
        fun he => events.pending 6 (by decide) (raised he)⟩
    · exact (captureEnd_completes hs hn hk hc hnodup hf (.inl ⟨hl, hfirst⟩)).done hnodup sfe events same
    · obtain ⟨chans, capture⟩ := captureEnd_counts hs hn hk hc hl hf
      refine ⟨fun i => by rw [sfe, chans, worked_zero], ?_⟩
      rw [sfe, capture, chans]
      rfl
    · exact (captureEnd_completes hs hn hk hc hnodup hf (.inr ⟨hl, ha⟩)).done hnodup sfe events same
  · have run : exec .zeroCaptureComplete s = .next (arbitrate (completeCapture s)) := act_free _ hr
    rw [run, completeCapture_young hk hc]
  · have run : exec .zeroCaptureComplete s = .next (arbitrate (completeCapture s)) := act_free _ hr
    rw [run, completeCapture_due hk hc hnodup]

end Sys2Proof.Machine

namespace Sys2Proof.Machine

/-! ### Counted events of the pulse inputs (R25 to R34) -/

theorem exec_countedTravelEvent (dirHigh rampFirst : Bool) {s : State} (h : s.pins.resetHeld = false) :
    exec (.countedTravelEvent dirHigh rampFirst) s = .next (arbitrate (countedTravel dirHigh rampFirst s)) :=
  act_free _ h

theorem exec_countedBeltEvent {s : State} (h : s.pins.resetHeld = false) :
    exec .countedBeltEvent s = .next (arbitrate (countedBelt s)) := act_free _ h

theorem exec_countedDrumEvent {s : State} (h : s.pins.resetHeld = false) :
    exec .countedDrumEvent s = .next (arbitrate (countedDrum s)) := act_free _ h

theorem exec_qualifyingEdge (i : PulseInput) (rising dirHigh rampFirst : Bool) {s : State}
    (h : s.pins.resetHeld = false) :
    exec (.qualifyingEdge i rising dirHigh rampFirst) s = .next (arbitrate (pinEdge i rising dirHigh rampFirst s)) :=
  act_free _ h

/-- R25: the transitions that an edge select counts. -/
theorem qualifies_iff (e : EdgeSelect) (rising : Bool) :
    qualifies e rising = true ↔ e = .both ∨ (e = .rising ∧ rising = true) ∨ (e = .falling ∧ rising = false) := by
  cases e <;> simp [qualifies]

/-- The pin of a pulse input at a level. -/
def atLevel (i : PulseInput) (rising : Bool) (s : State) : State :=
  s.mapPins fun p => { p with pulse := p.pulse.set i rising }

section
variable {i : PulseInput} {rising dirHigh rampFirst : Bool} {s : State}

theorem pinEdge_uncounted (h : qualifies (s.cfg.pulse.get i).edge rising = false) :
    pinEdge i rising dirHigh rampFirst s = atLevel i rising s :=
  if_neg (by simp [h])

theorem pinEdge_inside_group (h : qualifies (s.cfg.pulse.get i).edge rising = true)
    (hn : s.pcu.count.get i + 1 < (s.cfg.pulse.get i).prescale) :
    pinEdge i rising dirHigh rampFirst s
      = (atLevel i rising s).mapPcu fun p => { p with count := p.count.set i (p.count.get i + 1) } :=
  (if_pos h).trans (if_neg (Nat.not_le.2 hn))

theorem pinEdge_completes_group (h : qualifies (s.cfg.pulse.get i).edge rising = true)
    (hn : (s.cfg.pulse.get i).prescale ≤ s.pcu.count.get i + 1) :
    pinEdge i rising dirHigh rampFirst s
      = countedEvent i dirHigh rampFirst (atLevel i rising s) :=
  (if_pos h).trans (if_pos hn)

end

/-- Settles O18: a transition by whether the edge select counts it and whether it completes the group. -/
theorem qualifyingEdgeCounts : Obligations.QualifyingEdgeCounts := by
  intro i rising dirHigh rampFirst s hs
  dsimp only
  rw [exec_qualifyingEdge i rising dirHigh rampFirst hs, ← qualifies_iff]
  refine ⟨fun hq => ?_, fun hq hn => ?_, fun hq hn hi => ?_, fun hq hn hi => ?_, fun hq hn hi => ?_⟩
  · rw [pinEdge_uncounted (Bool.eq_false_iff.2 hq)]
    rfl
  · rw [pinEdge_inside_group hq hn]
    rfl
  all_goals
    rw [pinEdge_completes_group hq hn]
    subst hi
    rw [countedEvent]
    symm
  · exact exec_countedTravelEvent dirHigh rampFirst (s := atLevel _ rising s) hs
  · exact exec_countedBeltEvent (s := atLevel _ rising s) hs
  · exact exec_countedDrumEvent (s := atLevel _ rising s) hs

/-! ### The movement of the station (R27 to R29) -/

theorem isForward_eq (p : DirPolarity) (high : Bool) : isForward p high = (high == decide (p = .highForward)) := by
  cases p <;> cases high <;> rfl

/-- R28: the station is limited to its range, and a movement that meets a limit leaves no remainder. -/
theorem moveStation_eq (station : Nat) (rem : Int) (ppm : Nat) :
    let d := rem / (ppm : Int)
    let x := (station : Int) + d
    moveStation station rem ppm = ((max 0 (min 50000000 x)).toNat,
      if 0 ≤ x ∧ x ≤ 50000000 then (rem - d * (ppm : Int)).toNat else 0) := by
  intro d x
  change (if x < 0 then (0, 0) else if (50000000 : Int) < x then (50000000, 0)
    else (x.toNat, (rem - d * (ppm : Int)).toNat)) = _
  split
  · rw [if_neg (by omega)]
    congr 1
    omega
  · split
    · rw [if_neg (by omega)]
      congr 1
      omega
    · rw [if_pos (by omega)]
      congr 1
      omega

/-- R28: a movement that meets no limit. -/
theorem moveStation_inside {station ppm : Nat} {rem : Int} (h0 : 0 ≤ (station : Int) + rem / (ppm : Int))
    (h1 : (station : Int) + rem / (ppm : Int) ≤ 50000000) :
    moveStation station rem ppm = (((station : Int) + rem / (ppm : Int)).toNat, (rem % (ppm : Int)).toNat) := by
  rw [moveStation_eq, if_pos ⟨h0, h1⟩, min_eq_right h1, max_eq_right h0, Int.emod_def, mul_comm]

/-- Of the VOS, at most the held belt drive differs. -/
def Vos.BeltOnly (v w : Vos) : Prop := w = { v with beltHeld := w.beltHeld }

theorem Vos.BeltOnly.rfl {v : Vos} : v.BeltOnly v := by cases v; exact Eq.refl _

theorem Vos.BeltOnly.trans {u v w : Vos} (h : u.BeltOnly v) (k : v.BeltOnly w) : u.BeltOnly w := by
  unfold Vos.BeltOnly at *
  rw [k, h]

theorem workOutPause_beltOnly (s : State) : s.vos.BeltOnly (workOutPause s).vos := by
  unfold workOutPause
  dsimp only
  split
  · simp [setBeltDrive, Vos.BeltOnly]
  · simp [Vos.BeltOnly]

theorem predictClosing_beltOnly (s : State) : s.vos.BeltOnly (predictClosing s).vos := by
  unfold predictClosing
  split
  · exact .rfl
  · split
    · refine Vos.BeltOnly.trans ?_ (workOutPause_beltOnly _)
      simp [Vos.BeltOnly]
    · exact .rfl

theorem intake_beltOnly (delta : Nat) (s : State) : s.vos.BeltOnly (intake delta s).vos := by
  unfold intake
  split
  · refine Vos.BeltOnly.trans ?_ (predictClosing_beltOnly _)
    simp [Vos.BeltOnly]
  · exact .rfl

/-- R29: the blocks that an advance does not reach. -/
structure AdvanceFrame (s t : State) : Prop where
  pins : t.pins = s.pins := by simp
  cfg : t.cfg = s.cfg := by simp
  sfe : t.sfe = s.sfe := by simp
  pcu : t.pcu = s.pcu := by simp
  sru : t.sru = s.sru := by simp
  dlm : t.dlm = s.dlm := by simp
  csc : t.csc = s.csc := by simp
  waiting : t.pending = s.pending := by simp
  vos : s.vos.BeltOnly t.vos

/-- The frame as one equation between the states. -/
theorem AdvanceFrame.eq {s t : State} (h : AdvanceFrame s t) :
    t = { s with pt := t.pt, dlu := t.dlu, btq := t.btq, tlu := t.tlu, li := t.li,
                 vos := { s.vos with beltHeld := t.vos.beltHeld } } := by
  obtain ⟨hpins, hcfg, hsfe, hpcu, hsru, hdlm, hcsc, hwait, hvos⟩ := h
  cases t
  simp only [State.mk.injEq, true_and]
  exact ⟨hpins, hcfg, hsfe, hpcu, hsru, hdlm, hcsc, hvos, hwait⟩

theorem advance_frame (rampFirst : Bool) (delta : Nat) (s : State) : AdvanceFrame s (advance rampFirst delta s) := by
  unfold advance
  dsimp only
  split
  · have h := intake_beltOnly delta (rampSides delta (highWaterChanged s))
    rw [rampSides_vos, highWaterChanged_vos] at h
    exact { vos := h }
  · have h := intake_beltOnly delta (highWaterChanged s)
    rw [highWaterChanged_vos] at h
    exact { vos := by rwa [rampSides_vos] }

theorem AdvanceFrame.arbitrate {s t : State} (h : AdvanceFrame s t) : AdvanceFrame s (arbitrate t) := by
  obtain ⟨hpins, hcfg, hsfe, hpcu, hsru, hdlm, hcsc, hwait, hvos⟩ := h
  constructor <;> simpa

/-! ### The counted TRAVEL event (R27 to R29, R33) -/

theorem travelGain_eq (forward : Bool) (n : Nat) :
    travelGain forward n = if forward then (n : Int) * 1000 else -((n : Int) * 1000) := rfl

/-- R33: the window sum takes the edges with their sign. -/
theorem travelSum_eq (forward : Bool) (sum n : Int) :
    (if forward = true then sum + n else sum - n) = sum + if forward then n else -n := by
  cases forward <;> rfl

section
variable (dirHigh rampFirst : Bool) (s : State)

/-- The PCU's part with the station and the remainder of the movement and the sum written out. -/
theorem pcuTravel_eq :
    let fwd := isForward s.cfg.dirPolarity dirHigh
    let n := s.cfg.pulse.travel.prescale
    let m := moveStation s.pcu.station (s.pcu.travelRem + travelGain fwd n) s.cfg.pulse.travel.scale
    pcuTravel dirHigh s = { s with
      pins := { s.pins with travelDir := dirHigh },
      pcu := { s.pcu with count := { s.pcu.count with travel := 0 }, station := m.1, travelRem := m.2, forward := fwd,
                          travelSum := s.pcu.travelSum + if fwd then (n : Int) else -(n : Int) } } := by
  dsimp only
  rw [← travelSum_eq]
  rfl

variable {dirHigh rampFirst s}

/-- R29: no advance while the station stays at or behind h. -/
theorem countedTravel_behind (h : (pcuTravel dirHigh s).pcu.station ≤ s.pcu.high) :
    countedTravel dirHigh rampFirst s = pcuTravel dirHigh s := if_neg (Nat.not_lt.2 h)

/-- R29: where the station passes h, h follows and an advance is handed on. -/
theorem countedTravel_ahead (h : s.pcu.high < (pcuTravel dirHigh s).pcu.station) :
    AdvanceFrame ((pcuTravel dirHigh s).mapPcu fun p => { p with high := p.station })
      (countedTravel dirHigh rampFirst s) := by
  have run : countedTravel dirHigh rampFirst s = advance rampFirst _ _ := if_pos h
  rw [run]
  exact advance_frame _ _ _

end

/-- Settles O19: the PCU's own part, and the frame of the advance that may follow it. -/
theorem countedTravelMovesStation : Obligations.CountedTravelMovesStation := by
  intro dirHigh rampFirst s hs
  have moved := pcuTravel_eq dirHigh s
  dsimp only at moved ⊢
  rw [moveStation_eq, travelGain_eq, isForward_eq] at moved
  rw [exec_countedTravelEvent dirHigh rampFirst hs]
  refine ⟨fun hle => ?_, fun hlt => ⟨_, rfl, ?_⟩⟩
  · rw [countedTravel_behind (by rw [moved]; exact hle), moved]
  · have frame := (countedTravel_ahead (rampFirst := rampFirst) (by rw [moved]; exact hlt)).arbitrate.eq
    rw [moved] at frame
    exact frame

/-! ### Forward and back (R28) -/

/-- R29: after a counted TRAVEL event h is the greater of what it was and the new station. -/
theorem countedTravel_pcu (dirHigh rampFirst : Bool) (s : State) :
    (countedTravel dirHigh rampFirst s).pcu
      = { (pcuTravel dirHigh s).pcu with high := max s.pcu.high (pcuTravel dirHigh s).pcu.station } := by
  rcases Nat.lt_or_ge s.pcu.high (pcuTravel dirHigh s).pcu.station with h | h
  · rw [(countedTravel_ahead h).pcu, Nat.max_eq_right h.le]
    rfl
  · rw [countedTravel_behind h, Nat.max_eq_left h]
    rfl

theorem countedTravel_cfg (dirHigh rampFirst : Bool) (s : State) : (countedTravel dirHigh rampFirst s).cfg = s.cfg := by
  rcases Nat.lt_or_ge s.pcu.high (pcuTravel dirHigh s).pcu.station with h | h
  · exact (countedTravel_ahead h).cfg
  · rw [countedTravel_behind h]
    rfl

theorem countedTravel_pins (dirHigh rampFirst : Bool) (s : State) :
    (countedTravel dirHigh rampFirst s).pins = { s.pins with travelDir := dirHigh } := by
  rcases Nat.lt_or_ge s.pcu.high (pcuTravel dirHigh s).pcu.station with h | h
  · exact (countedTravel_ahead h).pins
  · rw [countedTravel_behind h]
    rfl

/-- R28: a movement forward from a remainder below the scale, inside the range. -/
theorem moveStation_forward {station rem gain ppm : Nat} (h : station + (rem + gain) / ppm ≤ 50000000) :
    moveStation station ((rem : Int) + (gain : Int)) ppm = (station + (rem + gain) / ppm, (rem + gain) % ppm) := by
  have hd : ((rem : Int) + (gain : Int)) / (ppm : Int) = ((rem + gain) / ppm : Nat) := by push_cast; rfl
  have hm : ((rem : Int) + (gain : Int)) % (ppm : Int) = ((rem + gain) % ppm : Nat) := by push_cast; rfl
  rw [moveStation_inside (by rw [hd]; positivity) (by rw [hd]; exact_mod_cast h), hd, hm]
  rfl

/-- R28: the movement back from where a movement forward has come to. -/
theorem moveStation_back {station rem gain ppm : Nat} (hr : rem < ppm) (hs : station ≤ 50000000) :
    moveStation (station + (rem + gain) / ppm) ((((rem + gain) % ppm : Nat) : Int) + -(gain : Int)) ppm
      = (station, rem) := by
  have hsplit : (((rem + gain) % ppm : Nat) : Int) + -(gain : Int)
      = (rem : Int) + (ppm : Int) * -(((rem + gain) / ppm : Nat) : Int) := by
    have := Nat.mod_add_div (rem + gain) ppm
    rw [mul_neg]
    omega
  have hp : (ppm : Int) ≠ 0 := by omega
  have hd : ((rem : Int) + (ppm : Int) * -(((rem + gain) / ppm : Nat) : Int)) / (ppm : Int)
      = -(((rem + gain) / ppm : Nat) : Int) := by
    rw [Int.add_mul_ediv_left _ _ hp, Int.ediv_eq_zero_of_lt (by omega) (by omega), Int.zero_add]
  have hm : ((rem : Int) + (ppm : Int) * -(((rem + gain) / ppm : Nat) : Int)) % (ppm : Int) = rem := by
    rw [Int.add_mul_emod_self_left, Int.emod_eq_of_lt (by omega) (by omega)]
  rw [hsplit, moveStation_inside (by omega) (by omega), hd, hm]
  simp only [Prod.mk.injEq]
  omega

section
variable {dirHigh rampFirst : Bool} {s : State}

/-- R28, R29, R33: a forward event that the limit does not stop. -/
theorem countedTravel_forward (hf : isForward s.cfg.dirPolarity dirHigh = true)
    (hlim : s.pcu.station + (s.pcu.travelRem + s.cfg.pulse.travel.prescale * 1000) / s.cfg.pulse.travel.scale
      ≤ 50000000) :
    let q := s.pcu.travelRem + s.cfg.pulse.travel.prescale * 1000
    let ppm := s.cfg.pulse.travel.scale
    (countedTravel dirHigh rampFirst s).pcu
      = { s.pcu with count := { s.pcu.count with travel := 0 }, station := s.pcu.station + q / ppm,
                     high := max s.pcu.high (s.pcu.station + q / ppm), travelRem := q % ppm, forward := true,
                     travelSum := s.pcu.travelSum + s.cfg.pulse.travel.prescale } := by
  have gain : travelGain true s.cfg.pulse.travel.prescale = ((s.cfg.pulse.travel.prescale * 1000 : Nat) : Int) := by
    push_cast
    rfl
  dsimp only
  rw [countedTravel_pcu, pcuTravel_eq]
  dsimp only
  rw [hf, gain, moveStation_forward hlim]
  rfl

/-- R28, R29, R33: a reverse event at the place that a forward one has reached from a station and a remainder. -/
theorem countedTravel_back {station rem : Nat} (hf : isForward s.cfg.dirPolarity dirHigh = false)
    (hr : rem < s.cfg.pulse.travel.scale) (hs : station ≤ 50000000)
    (at_station : s.pcu.station = station + (rem + s.cfg.pulse.travel.prescale * 1000) / s.cfg.pulse.travel.scale)
    (at_rem : s.pcu.travelRem = (rem + s.cfg.pulse.travel.prescale * 1000) % s.cfg.pulse.travel.scale) :
    (countedTravel dirHigh rampFirst s).pcu
      = { s.pcu with count := { s.pcu.count with travel := 0 }, station := station, high := max s.pcu.high station,
                     travelRem := rem, forward := false,
                     travelSum := s.pcu.travelSum - s.cfg.pulse.travel.prescale } := by
  have gain : travelGain false s.cfg.pulse.travel.prescale = -((s.cfg.pulse.travel.prescale * 1000 : Nat) : Int) := by
    push_cast
    rfl
  rw [countedTravel_pcu, pcuTravel_eq]
  dsimp only
  rw [hf, gain, at_station, at_rem, moveStation_back hr hs]
  rfl

end

/-- Settles O20: the reverse movement starts where the forward one has come to. -/
theorem forwardThenReverseReturns : Obligations.ForwardThenReverseReturns := by
  intro rampFirst again s t u hs
  dsimp only
  intro _ hrem hlim ht hu
  rw [exec_countedTravelEvent _ rampFirst hs, Host.Outcome.next.injEq] at ht
  have pins : t.pins.resetHeld = false := by rw [← ht, arbitrate_pins, countedTravel_pins]; exact hs
  have cfg : t.cfg = s.cfg := by rw [← ht, arbitrate_cfg, countedTravel_cfg]
  have pcu := countedTravel_forward (rampFirst := rampFirst)
    (dirHigh := decide (s.cfg.dirPolarity = .highForward)) (by rw [isForward_eq, beq_self_eq_true]) hlim
  rw [← arbitrate_pcu (countedTravel _ _ _), ht] at pcu
  rw [exec_countedTravelEvent _ again pins, Host.Outcome.next.injEq] at hu
  have back := countedTravel_back (s := t) (station := s.pcu.station) (rem := s.pcu.travelRem) (rampFirst := again)
    (dirHigh := !decide (s.cfg.dirPolarity = .highForward))
    (by rw [cfg, isForward_eq]; simp) (by rw [cfg]; exact hrem) (le_of_add_le_left hlim)
    (by rw [cfg, pcu]) (by rw [cfg, pcu])
  rw [← arbitrate_pcu (countedTravel _ _ _), hu] at back
  rw [back, pcu, cfg]
  exact ⟨rfl, rfl, Int.add_sub_cancel _ _, max_eq_left (le_max_of_le_right (Nat.le_add_right _ _))⟩

end Sys2Proof.Machine

namespace Sys2Proof.Machine

/-! ### The counted BELT event (R32, R33, R124) -/

/-- R124: n shifts are one shift after n - 1. -/
theorem shifts_eq_repeat (n : Nat) (s : State) : shifts n s = Nat.repeat shift n s := by
  induction n generalizing s with
  | zero => rfl
  | succ n ih =>
    have outer : ∀ (m : Nat) (u : State), Nat.repeat shift m (shift u) = shift (Nat.repeat shift m u) := by
      intro m
      induction m with
      | zero => exact fun _ => rfl
      | succ m ihm => exact fun u => congrArg shift (ihm u)
    rw [shifts, ih, outer]
    rfl

/-- Settles O24: belt travel of a segment length is one shift, and the shifts follow one another. -/
theorem countedBeltShifts : Obligations.CountedBeltShifts := by
  intro s hs
  dsimp only
  rw [exec_countedBeltEvent hs]
  refine ⟨fun hd => ?_, fun hd => ?_⟩
  · have still : countedBelt s = s.mapPcu _ := if_neg (by rw [hd]; exact Nat.lt_irrefl 0)
    rw [still]
    rfl
  · have moves : countedBelt s = beltTravel _ (s.mapPcu _) := if_pos hd
    rw [moves, beltTravel, shifts_eq_repeat]
    rfl

/-! ### The drum speed update and the drum stall (R34, R35, R172) -/

theorem exec_drumSpeedUpdate (apart : Bool) {s : State} (h : s.pins.resetHeld = false) :
    exec (.drumSpeedUpdate apart) s = .next (arbitrate (drumSpeedUpdate apart s)) := act_free _ h

theorem exec_drumStall {s : State} (h : s.pins.resetHeld = false) :
    exec .drumStall s = .next (arbitrate (applyStall s)) := act_free _ h

/-- The mark of a stall handed to the CSC (R35). -/
def handStall (b : Bool) (s : State) : State := s.mapCsc fun c => { c with stallHanded := b }

/-- An event leaves the CSC as it is, and its owner's hand-over leaves the events as they are. -/
theorem handStall_raise (b : Bool) (e : EventSrc) (s : State) :
    handStall b (raise e s) = raise e (handStall b s) := by
  unfold raise latch
  rw [apply_ite (handStall b), apply_ite (handStall b)]
  rfl

theorem handStall_handStall (a b : Bool) (s : State) : handStall a (handStall b s) = handStall a s := rfl

theorem handStall_same {b : Bool} {s : State} (h : s.csc.stallHanded = b) : handStall b s = s := by
  subst h
  rfl

theorem applyStall_unhanded {s : State} (h : s.csc.stallHanded = false) : applyStall s = s := if_neg (by simp [h])

/-- R172: a handed stall holds a part that engages or cuts. -/
theorem applyStall_cuts {s : State} (h : s.csc.stallHanded = true)
    (hc : s.csc.state = .engaging ∨ s.csc.state = .cutting) :
    applyStall s = enterHold .holdSoft .drumStall (handStall false s) := by
  unfold applyStall
  rw [if_pos h]
  rcases hc with hc | hc <;> simp only [State.mapCsc_csc, hc, handStall]

theorem applyStall_other {s : State} (h : s.csc.stallHanded = true)
    (hc : ¬(s.csc.state = .engaging ∨ s.csc.state = .cutting)) : applyStall s = handStall false s := by
  unfold applyStall
  rw [if_pos h]
  dsimp only [State.mapCsc_csc]
  split
  · exact absurd (.inl ‹_›) hc
  · exact absurd (.inr ‹_›) hc
  all_goals rfl

/-- R34, R35: the 500 ms window closed, with the stall counter at n. -/
def drumClosed (n : Nat) (s : State) : State := (closeDrumWindow s).mapPcu fun p => { p with stall := n }

/-- R35: the drum turns too slowly in a state that cuts. -/
def DrumSlow (s : State) : Prop :=
  (s.csc.state = .engaging ∨ s.csc.state = .cutting) ∧ drumSpeedOf s.pcu.drumSum s.cfg.pulse.drum.scale < s.cfg.drumMin

section
variable {s : State}

theorem testDrumStall_clear (h : ¬DrumSlow s) : testDrumStall (closeDrumWindow s) = drumClosed 0 s := if_neg h

theorem testDrumStall_counts (h : DrumSlow s) (hn : s.pcu.stall + 1 < 5) :
    testDrumStall (closeDrumWindow s) = drumClosed (s.pcu.stall + 1) s :=
  (if_pos h).trans (if_neg (Nat.not_le.2 hn))

theorem testDrumStall_hands (h : DrumSlow s) (hn : 5 ≤ s.pcu.stall + 1) :
    testDrumStall (closeDrumWindow s) = raise .drumStall (handStall true (drumClosed 0 s)) :=
  (if_pos h).trans (if_pos hn)

theorem drumSpeedUpdate_unhanded (apart : Bool) (h : s.csc.stallHanded = false) :
    drumSpeedUpdate apart s = if apart then testDrumStall (closeDrumWindow s)
      else applyStall (testDrumStall (closeDrumWindow s)) := by
  rw [drumSpeedUpdate, applyStall_unhanded h]

end

/-- Settles O26: the update by its stall test, and a handed stall by the cut state. -/
theorem drumSpeedAndStall : Obligations.DrumSpeedAndStall := by
  intro s hs
  dsimp only
  refine ⟨exec_countedDrumEvent hs, fun hh apart => ?_, fun hh hc => ?_, fun hh hc => ?_, fun hh => ?_⟩
  · rw [exec_drumSpeedUpdate apart hs, drumSpeedUpdate_unhanded apart hh]
    have quiet (n : Nat) : applyStall (drumClosed n s) = drumClosed n s := applyStall_unhanded hh
    refine ⟨fun hslow => ?_, fun hslow hn => ?_, fun hslow hn ha => ?_, fun hslow hn ha => ?_⟩
    · rw [testDrumStall_clear hslow, quiet, ite_self]
      rfl
    · rw [testDrumStall_counts hslow hn, quiet, ite_self]
      rfl
    · rw [testDrumStall_hands hslow hn, if_pos ha]
      rfl
    · have handed : (handStall true (drumClosed 0 s)).csc.stallHanded = true := rfl
      rw [testDrumStall_hands hslow hn, ha, if_neg Bool.false_ne_true,
        applyStall_cuts (by rw [raise_csc, handed]) (by rw [raise_csc]; exact hslow.1), handStall_raise,
        handStall_handStall, handStall_same (show (drumClosed 0 s).csc.stallHanded = false from hh)]
      rfl
  · rw [exec_drumStall hs, applyStall_cuts hh hc]
    rfl
  · rw [exec_drumStall hs, applyStall_other hh hc]
    rfl
  · rw [exec_drumStall hs, applyStall_unhanded hh]

end Sys2Proof.Machine

namespace Sys2Proof.Machine

/-! ### The 100 ms window and the belt speed update (R33, R129 to R132) -/

theorem exec_speedWindowClose (apart : Bool) {s : State} (h : s.pins.resetHeld = false) :
    exec (.speedWindowClose apart) s
      = .next (arbitrate (beltSpeedUpdate apart (closeSpeedWindow (settleBeltStall s)))) :=
  act_free (fun t => beltSpeedUpdate apart (closeSpeedWindow (settleBeltStall t))) h

theorem exec_beltStall {s : State} (h : s.pins.resetHeld = false) :
    exec .beltStall s = .next (arbitrate (settleBeltStall s)) := act_free _ h

theorem settleBeltStall_below {s : State} (h : s.btq.stall < 20) : settleBeltStall s = s := if_neg (Nat.not_le.2 h)

theorem settleBeltStall_due {s : State} (h : 20 ≤ s.btq.stall) : settleBeltStall s = callBeltStall s := if_pos h

/-- R132: the stall counter after the test at a belt speed. -/
def stallCount (b : Btq) (v : Nat) : Nat := if 300 ≤ b.drive ∧ v < b.spB / 10 then b.stall + 1 else 0

/-- The stall counter moved by the test, before a stall is called. -/
def countStall (s : State) : State := s.mapBtq fun b => { b with stall := stallCount b s.pcu.beltSpeed }

theorem testBeltStall_eq (apart : Bool) (s : State) :
    testBeltStall apart s = if apart then countStall s else settleBeltStall (countStall s) := by
  simp only [testBeltStall, countStall, stallCount, stallCondition, Bool.and_eq_true, decide_eq_true_eq]

theorem testBeltStall_uncalled {apart : Bool} {s : State}
    (h : apart = true ∨ stallCount s.btq s.pcu.beltSpeed < 20) : testBeltStall apart s = countStall s := by
  rw [testBeltStall_eq]
  rcases h with rfl | h
  · rfl
  · rw [settleBeltStall_below (s := countStall s) h, ite_self]

theorem testBeltStall_called {s : State} (h : 20 ≤ stallCount s.btq s.pcu.beltSpeed) :
    testBeltStall false s = callBeltStall (countStall s) :=
  (testBeltStall_eq false s).trans (settleBeltStall_due (s := countStall s) h)

theorem callBeltStall_btq (s : State) :
    (callBeltStall s).btq = { s.btq with stalled := true, mode := .stop, stall := 0, spB := 0, drive := 0 } := by
  rw [callBeltStall, setCond_btq]
  rfl

theorem callBeltStall_vos (s : State) : (callBeltStall s).vos = { s.vos with beltHeld := 0 } := by
  rw [callBeltStall, setCond_vos]
  rfl

theorem neutral_iff (c : CutState) : c.neutral = true ↔ c = .config ∨ c = .holdHard := by cases c <;> decide

/-- R131: what holds the belt drive at 0. -/
theorem formBeltDrive_held {s : State} (h : s.btq.paused = true ∨ s.btq.stalled = true ∨ 20 ≤ s.btq.stall ∨
    s.csc.state = .config ∨ s.csc.state = .holdHard) : (formBeltDrive s).btq.drive = 0 := by
  refine if_pos ?_
  simp only [stallDue, Bool.or_eq_true, decide_eq_true_eq, neutral_iff]
  tauto

/-- R131: the drive law, where nothing holds the drive at 0. -/
theorem formBeltDrive_law {s : State} (hp : s.btq.paused = false) (hs : s.btq.stalled = false) (hn : s.btq.stall < 20)
    (hc : s.csc.state ≠ .config) (hh : s.csc.state ≠ .holdHard) :
    (formBeltDrive s).btq.drive = beltLaw s.cfg.belt (formBeltDrive s).btq.spB s.pcu.beltSpeed := by
  refine if_neg ?_
  simp only [stallDue, Bool.or_eq_true, decide_eq_true_eq, neutral_iff, hp, hs]
  simp [hc, hh, hn]

theorem formBeltDrive_setpoint {s : State} (h : s.btq.stall < 20) :
    (formBeltDrive s).btq.spB = beltSetpoint s.cfg.belt s.btq.mode (rate s.btq) := by
  have due : stallDue s.btq = false := decide_eq_false (Nat.not_le.2 h)
  change beltSetpoint s.cfg.belt (if stallDue s.btq then .stop else s.btq.mode) _ = _
  rw [due, if_neg Bool.false_ne_true]

/-- R132: at the update that counts a stall the setpoint is formed as under STOP. -/
theorem formBeltDrive_stopped {s : State} (h : 20 ≤ s.btq.stall ∨ s.btq.mode = .stop) :
    (formBeltDrive s).btq.spB = 0 := by
  have stop : (if stallDue s.btq then .stop else s.btq.mode) = BeltMode.stop := by
    rcases h with h | h
    · exact if_pos (decide_eq_true h)
    · rw [h, ite_self]
  change beltSetpoint s.cfg.belt (if stallDue s.btq then .stop else s.btq.mode) _ = 0
  rw [stop]
  rfl

theorem formBeltDrive_btq (s : State) :
    (formBeltDrive s).btq
      = { s.btq with spB := (formBeltDrive s).btq.spB, drive := (formBeltDrive s).btq.drive } := rfl

theorem formBeltDrive_vos (s : State) :
    (formBeltDrive s).vos = { s.vos with beltHeld := (formBeltDrive s).btq.drive } := rfl

/-- R131: the drive law as a greatest and a least. -/
theorem beltLaw_eq (b : BeltRec) (sp v : Nat) :
    (beltLaw b sp v : Int) = max 0 (min 1000 ((sp : Int) * 1000 / (b.vfull : Int)
      + (b.kb : Int) * ((sp : Int) - (v : Int)) / 16)) := by
  rw [beltLaw, clamp_eq (by decide), Int.toNat_of_nonneg (le_max_left _ _)]

theorem travelSpeedOf_eq (sum : Int) (ppm : Nat) :
    travelSpeedOf sum ppm = max (-9999) (min 9999 (sum * 10000 / (ppm : Int))) := clamp_eq (by decide) _

/-- What the arbiter begins depends on the LI, the pins and the CSC alone. -/
theorem arbitrate_li_congr {s t : State} (hli : t.li = s.li) (hpins : t.pins = s.pins) (hcsc : t.csc = s.csc) :
    (arbitrate t).li = (arbitrate s).li := by
  have word : eventWord t = eventWord s := by rw [eventWord, eventWord, hli, hpins, hcsc]
  unfold arbitrate
  rw [hli, word]
  split
  · exact hli
  · split
    · rw [State.mapLi_li, State.mapLi_li, hli]
    · split
      · rw [State.mapLi_li, State.mapLi_li, hli]
      · split
        · rw [State.mapLi_li, State.mapLi_li, hli]
        · exact hli

/-- The arbiter's look as one equation: it touches the LI alone. -/
theorem arbitrate_eq (s : State) : arbitrate s = { s with li := (arbitrate s).li } := by
  unfold arbitrate
  repeat' split
  all_goals rfl

/-- A level source's condition is what its owner holds it at (R209). -/
theorem setCond_condition_self (e : EventSrc) (b : Bool) (s : State) : condition e (setCond e b s) = b := by
  have he : e.id < 25 := by cases e <;> decide
  unfold condition setCond
  dsimp only
  split
  · rw [latch_cond, State.mapLi_li, marked_setMark _ _ _ _ he, if_pos rfl]
  · rw [State.mapLi_li, marked_setMark _ _ _ _ he, if_pos rfl]

/-- A level source that is enabled is pending while its condition is true (R209). -/
theorem setCond_pending_self {e : EventSrc} {s : State} (h : marked s.li.events.enable e.id = true) :
    isPending e (setCond e true s) = true := by
  have he : e.id < 25 := by cases e <;> decide
  unfold isPending setCond
  dsimp only
  rw [Bool.true_and, if_pos h, latch_pending_marked _ _ _ he, decide_eq_true rfl, Bool.or_true]

/-- The window closed and the bins rotated, before the stall test (R33, R129). -/
def windowClosed (s : State) : State := rotateBins (closeSpeedWindow s)

theorem exec_speedWindowClose_below (apart : Bool) {s : State} (h : s.pins.resetHeld = false)
    (hdue : s.btq.stall < 20) :
    exec (.speedWindowClose apart) s
      = .next (arbitrate (formBeltDrive (testBeltStall apart (windowClosed s)))) := by
  rw [exec_speedWindowClose apart h, settleBeltStall_below hdue]
  rfl

/-- Settles O27: the stall test of the close leaves the counter below 20 or due, or calls the stall; setpoint and drive
are formed from where it leaves them. -/
theorem speedWindowDrivesBelt : Obligations.SpeedWindowDrivesBelt := by
  intro s hs
  dsimp only
  refine ⟨fun apart hdue hcount => ?_, fun hdue => ?_, fun hdue => ?_, fun h19 hslow => ?_⟩
  · refine ⟨_, exec_speedWindowClose_below apart hs hdue, ?_⟩
    rw [testBeltStall_uncalled (s := windowClosed s) hcount]
    have li : (arbitrate (formBeltDrive (countStall (windowClosed s)))).li = (arbitrate s).li :=
      arbitrate_li_congr rfl rfl rfl
    simp only [arbitrate_pcu, arbitrate_btq, arbitrate_vos]
    refine ⟨?_, formBeltDrive_btq _, formBeltDrive_vos _, ?_, fun h => ⟨formBeltDrive_stopped (.inl h),
      formBeltDrive_held (.inr (.inr (.inl h)))⟩, fun hm => formBeltDrive_stopped (.inr hm), fun hn hm => ?_,
      fun hn hm => ?_, fun h => formBeltDrive_held (by tauto), fun hn hp hst hc hh => ?_⟩
    · rw [← travelSpeedOf_eq]
      rfl
    · rw [arbitrate_eq, li]
      rfl
    · rw [formBeltDrive_setpoint hn]
      change beltSetpoint s.cfg.belt s.btq.mode _ = _
      rw [hm]
      rfl
    · rw [formBeltDrive_setpoint hn, max_comm, min_comm]
      change beltSetpoint s.cfg.belt s.btq.mode _ = _
      rw [hm]
      rfl
    · rw [formBeltDrive_law (s := countStall (windowClosed s)) hp hst hn hc hh, beltLaw_eq]
      rfl
  · rw [exec_beltStall hs, settleBeltStall_due hdue]
    rfl
  · rw [exec_beltStall hs, settleBeltStall_below hdue]
  · refine ⟨_, exec_speedWindowClose_below false hs (by omega), ?_⟩
    have counted : stallCount (windowClosed s).btq (windowClosed s).pcu.beltSpeed = s.btq.stall + 1 := if_pos hslow
    rw [testBeltStall_called (by omega)]
    have held : (formBeltDrive (callBeltStall (countStall (windowClosed s)))).btq.drive = 0 :=
      formBeltDrive_held (.inr (.inl (by rw [callBeltStall_btq])))
    have stopped : (formBeltDrive (callBeltStall (countStall (windowClosed s)))).btq.spB = 0 :=
      formBeltDrive_stopped (.inr (by rw [callBeltStall_btq]))
    refine ⟨?_, ?_, ?_, fun he => ?_⟩
    · rw [condition, arbitrate_events, formBeltDrive_li]
      exact setCond_condition_self _ _ _
    · rw [arbitrate_vos, formBeltDrive_vos, held, callBeltStall_vos]
      rfl
    · rw [arbitrate_btq, formBeltDrive_btq, held, stopped, callBeltStall_btq]
      rfl
    · rw [isPending, arbitrate_events, formBeltDrive_li]
      exact setCond_pending_self he

end Sys2Proof.Machine

namespace Sys2Proof.Machine

/-! ### What the rest of a sample set leaves of the side readings (R38, R41) -/

@[simp] theorem raise_cond (e : EventSrc) (s : State) : (raise e s).li.events.cond = s.li.events.cond := by
  unfold raise
  split
  · exact latch_cond _ _
  · rfl

theorem setCond_cond (e : EventSrc) (b : Bool) (s : State) :
    (setCond e b s).li.events.cond = setMark s.li.events.cond e.id b := by
  unfold setCond
  dsimp only
  split
  · exact latch_cond _ _
  · rfl

/-- The condition of another source (R209). -/
theorem setCond_condition_of_ne {e f : EventSrc} (h : e.id ≠ f.id) (b : Bool) (s : State) :
    condition e (setCond f b s) = condition e s := by
  have he : e.id < 25 := by cases e <;> decide
  rw [condition, setCond_cond, marked_setMark _ _ _ _ he, if_neg h]
  rfl

/-- A ZERO capture in flight has sample sets left to count (R20). -/
def StillCounts (s : State) : Prop := ∀ k, s.sfe.capture = some k → k.count < 32

/-- The side readings and the four conditions of the reference states, sources 0 to 3, stand. -/
structure ReadingsStand (s t : State) : Prop where
  sru : t.sru = s.sru := by simp
  conds : ∀ j < 4, marked t.li.events.cond j = marked s.li.events.cond j := by simp

/-- The channels stand too, zeros included, while no capture is due to complete. -/
structure ChannelsStand (s t : State) : Prop extends ReadingsStand s t where
  chans : StillCounts s → t.sfe.chans = s.sfe.chans := by simp
  counts : StillCounts s → StillCounts t := by unfold StillCounts; simp

theorem ReadingsStand.trans {s t u : State} (h : ReadingsStand s t) (k : ReadingsStand t u) : ReadingsStand s u where
  sru := k.sru.trans h.sru
  conds j hj := (k.conds j hj).trans (h.conds j hj)

theorem ChannelsStand.rfl {s : State} : ChannelsStand s s := {}

theorem ChannelsStand.trans {s t u : State} (h : ChannelsStand s t) (k : ChannelsStand t u) : ChannelsStand s u where
  toReadingsStand := h.toReadingsStand.trans k.toReadingsStand
  chans hs := (k.chans (h.counts hs)).trans (h.chans hs)
  counts := k.counts ∘ h.counts

theorem ChannelsStand.ite {s a b : State} {p : Prop} [Decidable p] (ha : p → ChannelsStand s a)
    (hb : ¬p → ChannelsStand s b) : ChannelsStand s (if p then a else b) := by
  split
  · exact ha ‹_›
  · exact hb ‹_›

theorem raise_stands (e : EventSrc) (s : State) : ChannelsStand s (raise e s) := {}

theorem mapDlm_stands (f : Dlm → Dlm) (s : State) : ChannelsStand s (s.mapDlm f) := {}
theorem mapCsc_stands (f : Csc → Csc) (s : State) : ChannelsStand s (s.mapCsc f) := {}
theorem mapVos_stands (f : Vos → Vos) (s : State) : ChannelsStand s (s.mapVos f) := {}

/-- A level source other than those of the reference states. -/
theorem setCond_stands {e : EventSrc} (he : 4 ≤ e.id) (b : Bool) (s : State) : ChannelsStand s (setCond e b s) where
  conds j hj := by rw [setCond_cond, marked_setMark _ _ _ _ (by omega), if_neg (by omega)]

theorem completeCapture_counting {s : State} (h : StillCounts s) : completeCapture s = s := by
  cases hk : s.sfe.capture with
  | none => simp only [completeCapture, hk]
  | some k => exact completeCapture_young hk (h k hk)

theorem completeCapture_stands (s : State) : ChannelsStand s (completeCapture s) where
  conds := by
    unfold completeCapture
    split
    · simp
    · split <;> simp
  chans h := by rw [completeCapture_counting h]
  counts h := by rwa [completeCapture_counting h]

theorem failCapture_stands (s : State) : ChannelsStand s (failCapture s) where
  conds := by
    unfold failCapture
    split
    · simp
    · split
      · exact (completeCapture_stands s).conds
      · simp
  chans h := by
    cases hk : s.sfe.capture with
    | none => simp only [failCapture, hk]
    | some k => rw [failCapture_young hk (h k hk), raise_sfe, State.mapSfe_sfe]
  counts _ k hk := by simp [failCapture_capture] at hk

theorem failLost_stands (lost : List Chan) (s : State) : ChannelsStand s (failLost lost s) :=
  .ite (fun _ => failCapture_stands s) fun _ => .rfl

/-- A change of the cut state but into ENGAGING, at which the PT works out its conditions, and into CONFIG. -/
theorem changeState_stands {new : CutState} (he : new ≠ .engaging) (hc : new ≠ .config) (s : State) :
    ChannelsStand s (changeState new s) := by
  have turns : ChannelsStand s (turned new s) :=
    { sru := by simp [turned, vosChange, dluChange, pcuChange, cscChange] }
  rw [changeState_eq]
  unfold highChange sfeChange
  rw [if_neg fun h => he h.2]
  dsimp only
  rw [if_neg hc]
  exact turns.trans (.ite (fun _ => failCapture_stands _) fun _ => .rfl)

theorem enterHold_stands {new : CutState} (he : new ≠ .engaging) (hc : new ≠ .config) (cause : HoldCause) (s : State) :
    ChannelsStand s (enterHold new cause s) :=
  ((changeState_stands he hc s).trans (mapCsc_stands _ _)).trans (raise_stands _ _)

theorem settleEngage_stands (s : State) : ChannelsStand s (settleEngage s) :=
  .ite (fun _ => (changeState_stands (by decide) (by decide) s).trans (raise_stands _ _)) fun _ => .rfl

theorem settleLift_stands (s : State) : ChannelsStand s (settleLift s) :=
  .ite (fun _ => (changeState_stands (by decide) (by decide) s).trans (raise_stands _ _)) fun _ => .rfl

theorem applyLoss_stands (lost : Bool) (s : State) : ChannelsStand s (applyLoss lost s) := by
  refine .ite (fun _ => ?_) fun _ => .rfl
  split
  case h_1 | h_2 | h_3 => exact enterHold_stands (by decide) (by decide) _ s
  all_goals exact .rfl

theorem applyCutoff_stands (s : State) : ChannelsStand s (applyCutoff s) := by
  refine .ite (fun _ => (mapCsc_stands (fun c => { c with cutoffHanded := false }) s).trans ?_) fun _ => .rfl
  dsimp only
  split
  case h_6 | h_7 => exact .rfl
  all_goals exact enterHold_stands (by decide) (by decide) _ _

theorem closeClassWindow_stands (s : State) : ChannelsStand s (closeClassWindow s) :=
  .ite (fun _ => (mapDlm_stands _ _).trans (setCond_stands (by decide) _ _)) fun _ => .rfl

theorem sampleLoad_stands (apart : Bool) (s : State) : ChannelsStand s (sampleLoad apart s) :=
  .ite (fun _ => mapDlm_stands _ _) fun _ => (mapDlm_stands _ _).trans (closeClassWindow_stands _)

theorem settleLowSet_stands (s : State) : ChannelsStand s (settleLowSet s) :=
  .ite (fun _ => (mapVos_stands _ _).trans (setCond_stands (by decide) _ _)) fun _ => .rfl

theorem settleLowClear_stands (s : State) : ChannelsStand s (settleLowClear s) :=
  .ite (fun _ => (mapVos_stands _ _).trans (setCond_stands (by decide) _ _)) fun _ => .rfl

theorem countCutoff_stands (s : State) : ChannelsStand s (countCutoff s) :=
  .ite (fun _ => (mapVos_stands _ _).trans (mapCsc_stands _ _)) fun _ => mapVos_stands _ _

theorem updateLoops_stands (s : State) : ChannelsStand s (updateLoops s) where
  conds _ _ := rfl

theorem settleDue_stands (s : State) : ChannelsStand s (settleDue s) :=
  ((((((completeCapture_stands s).trans (closeClassWindow_stands _)).trans (settleLowSet_stands _)).trans
    (settleLowClear_stands _)).trans (applyCutoff_stands _)).trans (settleEngage_stands _)).trans
    (settleLift_stands _)

theorem monitorShare_stands (apart : Bool) (s : State) : ChannelsStand s (monitorShare apart s) := by
  have counted := (mapVos_stands (Vos.countSupply s.cfg.lowLevel) s).trans (countCutoff_stands _)
  exact .ite (fun _ => counted) fun _ =>
    ((counted.trans (settleLowSet_stands _)).trans (settleLowClear_stands _)).trans (applyCutoff_stands _)

theorem completionShare_stands (apart : Bool) (s : State) : ChannelsStand s (completionShare apart s) :=
  .ite (fun _ => .rfl) fun _ => (settleEngage_stands s).trans (settleLift_stands _)

/-- The capture's share can write zeros, and leaves the side readings. -/
theorem captureShare_readings (apart : Bool) (s : State) : ReadingsStand s (captureShare apart s) := by
  have counted : ReadingsStand s (countCapture s) := { sru := rfl, conds := fun _ _ => rfl }
  unfold captureShare
  cases apart
  · exact counted.trans (completeCapture_stands _).toReadingsStand
  · exact counted

theorem ChannelsStand.optional {s t : State} {f : State → State} (b : Bool) (h : ChannelsStand s t)
    (hf : ∀ u, ChannelsStand u (f u)) : ChannelsStand s (if b then f t else t) :=
  .ite (fun _ => h.trans (hf t)) fun _ => h

theorem ChannelsStand.deferred {s t : State} {f : State → State} (b : Bool) (h : ChannelsStand s t)
    (hf : ∀ u, ChannelsStand u (f u)) : ChannelsStand s (if b then t else f t) :=
  .ite (fun _ => h) fun _ => h.trans (hf t)

/-- The share of the side readings after the readings themselves. -/
theorem sideShare_stands (o : SampleOrder) (s : State) : ChannelsStand (readSides s) (sideShare o s) := by
  refine ChannelsStand.deferred _ (ChannelsStand.trans ?_ (completionShare_stands _ _)) (sampleLoad_stands _)
  have loaded := (ChannelsStand.rfl (s := readSides s)).optional o.loadFirst (sampleLoad_stands o.apart)
  exact .ite (fun _ => (loaded.trans (applyLoss_stands _ _)).trans (updateLoops_stands _))
    fun _ => (loaded.trans (updateLoops_stands _)).trans (applyLoss_stands _ _)

/-- The shares of a sample set after the side readings. -/
theorem sampleSet_readings (scan : Scan) (o : SampleOrder) (s : State) :
    ReadingsStand (readSides (scanned scan o s)) (sampleSet scan o s) := by
  have shared := (sideShare_stands o (scanned scan o s)).toReadingsStand.trans (captureShare_readings o.apart _)
  have later (u : State) : ChannelsStand u
      (let w := if o.captureFirst then failLost (lostAt scan s) u else u
       if o.monitorFirst then w else monitorShare o.apart w) :=
    .deferred _ (.optional _ .rfl (failLost_stands _)) (monitorShare_stands _)
  rw [sampleSet_eq]
  exact shared.trans (later _).toReadingsStand

/-! ### The part as the sides are read (R38) -/

/-- The shares of a sample set between the scan and the side readings. -/
theorem scanned_stands (scan : Scan) (o : SampleOrder) (s : State) :
    ChannelsStand (scanChannels scan (settleDue s)) (scanned scan o s) :=
  .optional _ (.deferred _ .rfl (failLost_stands _)) (monitorShare_stands _)

theorem scanned_sru (scan : Scan) (o : SampleOrder) (s : State) : (scanned scan o s).sru = s.sru := by
  rw [(scanned_stands scan o s).sru, scanChannels_sru, (settleDue_stands s).sru]

theorem scanned_cfg (scan : Scan) (o : SampleOrder) (s : State) : (scanned scan o s).cfg = s.cfg := by
  have early : ShareFrame (scanChannels scan (settleDue s)) (scanned scan o s) :=
    .optional _ (.deferred _ .rfl (failLost_frame _)) (monitorShare_frame _)
  rw [early.cfg, (scanChannels_frame scan _).cfg, (settleDue_frame s).cfg]

/-- While no capture is due to complete, each channel is read with the zero in force (R42). -/
theorem scanned_zero {scan : Scan} {o : SampleOrder} {s : State} (h : StillCounts s) (i : Chan) :
    ((scanned scan o s).sfe.chans.get i).cfg.zero = (s.sfe.chans.get i).cfg.zero := by
  have counts : StillCounts (scanChannels scan (settleDue s)) := by
    unfold StillCounts
    rw [scanChannels_sfe]
    exact (settleDue_stands s).counts h
  rw [(scanned_stands scan o s).chans counts, scanChannels_sfe, (settleDue_stands s).chans h]
  simp only [Chans.get_of]
  rw [Channel.sample_eq_read]
  rfl

theorem failLost_chans (lost : List Chan) (s : State) : SameButZeros (failLost lost s).sfe.chans s.sfe.chans := by
  unfold failLost
  split
  · exact failCapture_chans s
  · exact .rfl _

/-- After the side readings a sample set changes zeros alone. -/
theorem sampleSet_chans_scanned (scan : Scan) (o : SampleOrder) (s : State) :
    SameButZeros (sampleSet scan o s).sfe.chans (scanned scan o s).sfe.chans := by
  have shared := (captureShare_chans o.apart _).trans (sideShare_chans o (scanned scan o s))
  have failed (u : State) :
      SameButZeros (if o.captureFirst then failLost (lostAt scan s) u else u).sfe.chans u.sfe.chans := by
    split
    · exact failLost_chans _ u
    · exact .rfl _
  rw [sampleSet_eq]
  dsimp only
  split
  · exact (failed _).trans shared
  · exact (monitorShare_chans _ _).trans ((failed _).trans shared)

/-- The SRU after a sample set: what the side readings made of the part that they found. -/
theorem sampleSet_sru (scan : Scan) (o : SampleOrder) (s : State) :
    (sampleSet scan o s).sru =
      { sides := sideReadings (scanned scan o s), modeChanged := false,
        slope := slopeChannel (scanned scan o s).sfe.chans } := by
  rw [(sampleSet_readings scan o s).sru]
  exact judgeReferences_sru _

/-- R41: the four conditions follow the reference states. -/
theorem readSides_conditions (s : State) :
    condition .refDegradedL (readSides s) = decide ((readSides s).sru.sides.left.ref = .degraded) ∧
      condition .refDegradedR (readSides s) = decide ((readSides s).sru.sides.right.ref = .degraded) ∧
      condition .refLostL (readSides s) = decide ((readSides s).sru.sides.left.ref = .lost) ∧
      condition .refLostR (readSides s) = decide ((readSides s).sru.sides.right.ref = .lost) := by
  unfold readSides
  rw [judgeReferences_sru]
  unfold judgeReferences
  dsimp only
  refine ⟨?_, ?_, ?_, ?_⟩
  · rw [setCond_condition_of_ne (by decide), setCond_condition_of_ne (by decide), setCond_condition_of_ne (by decide),
      setCond_condition_self, beq_eq_decide]
  · rw [setCond_condition_of_ne (by decide), setCond_condition_of_ne (by decide), setCond_condition_self, beq_eq_decide]
  · rw [setCond_condition_of_ne (by decide), setCond_condition_self, beq_eq_decide]
  · rw [setCond_condition_self, beq_eq_decide]

end Sys2Proof.Machine

namespace Sys2Proof.Machine

/-! ### What a side is read from (R39, R42, R47) -/

/-- What the SRU reads of a channel does not depend on its zero: state and value, role and side. -/
theorem Channel.SameButZero.read_alike {c d : Channel} (h : c.SameButZero d) :
    c.pubState = d.pubState ∧ c.pubValue = d.pubValue ∧ c.cfg.role = d.cfg.role ∧ c.cfg.side = d.cfg.side := by
  rw [h]
  simp [Channel.withZero, Channel.pubState, Channel.pubValue]

theorem channelsWith_congr {c d : Chans Channel} {p : Channel → Bool} (h : ∀ i, p (c.get i) = p (d.get i)) :
    channelsWith c p = channelsWith d p := List.filter_congr fun i _ => h i

section
variable {c d : Chans Channel} (h : SameButZeros c d)
include h

theorem SameButZeros.pubState (i : Chan) : (c.get i).pubState = (d.get i).pubState := (h i).read_alike.1

theorem SameButZeros.pubValue (i : Chan) : (c.get i).pubValue = (d.get i).pubValue := (h i).read_alike.2.1

theorem SameButZeros.heightSet_eq (side : Side) : heightSet c side = heightSet d side :=
  channelsWith_congr fun i => by
    obtain ⟨-, -, role, on⟩ := (h i).read_alike
    rw [role, on]

theorem SameButZeros.memberSet_eq (set : List Chan) : memberSet c set = memberSet d set :=
  List.filter_congr fun i _ => by rw [Channel.usable, Channel.usable, h.pubState]

theorem SameButZeros.slopes_eq :
    (channelsWith c fun x => x.cfg.role == .slope) = channelsWith d fun x => x.cfg.role == .slope :=
  channelsWith_congr fun i => by
    obtain ⟨-, -, role, -⟩ := (h i).read_alike
    rw [role]

end

/-- R47: exactly one channel has role SLOPE. -/
theorem slopeChannel_one {cs : Chans Channel} {i : Chan}
    (h : (channelsWith cs fun c => c.cfg.role == .slope) = [i]) : slopeChannel cs = some (i, (cs.get i).pubValue) := by
  unfold slopeChannel
  rw [h]

theorem slopeChannel_none {cs : Chans Channel} (h : (channelsWith cs fun c => c.cfg.role == .slope).length ≠ 1) :
    slopeChannel cs = none := by
  unfold slopeChannel
  split
  next i hi => exact absurd (congrArg List.length hi) h
  next => rfl

/-! ### Reference state and side average (R40, R42) -/

theorem refState_lost {n a k : Nat} (h : n < k) : refState n a k = .lost := if_pos h

theorem refState_degraded {n a k : Nat} (hk : k ≤ n) (ha : n < a) : refState n a k = .degraded := by
  rw [refState, if_neg (Nat.not_lt.2 hk), if_pos ha]

theorem refState_full {n a k : Nat} (hk : k ≤ n) (ha : n = a) : refState n a k = .full := by
  rw [refState, if_neg (Nat.not_lt.2 hk), if_neg (Nat.not_lt.2 ha.ge)]

theorem sideAverage_none {members : List Chan} (h : members = []) (cs : Chans Channel) (last : Int) :
    sideAverage cs members last = last := by
  rw [h]
  rfl

theorem sideAverage_members {cs : Chans Channel} {members : List Chan} (h : members ≠ []) (last : Int) :
    sideAverage cs members last =
      max (-5000) (min 5000 ((members.map fun i => (cs.get i).contribution).sum / (members.length : Int))) := by
  cases members with
  | nil => exact absurd rfl h
  | cons i rest => exact clamp_eq (by decide) _

/-! ### Measured depth and tracking state (R43 to R46) -/

theorem moveToward_near {t x : Int} {d : Nat} (h : (t - x).natAbs ≤ d) : moveToward t d x = t := if_pos h

theorem moveToward_up {t x : Int} {d : Nat} (h : d < (t - x).natAbs) (hx : x < t) : moveToward t d x = x + d := by
  rw [moveToward, if_neg (Nat.not_le.2 h), if_pos hx]

theorem moveToward_down {t x : Int} {d : Nat} (h : d < (t - x).natAbs) (hx : t < x) : moveToward t d x = x - d := by
  rw [moveToward, if_neg (Nat.not_le.2 h), if_neg (by omega)]

/-- A value that lies further away than one move does not arrive. -/
theorem moveToward_ne {t x : Int} {d : Nat} (h : d < (t - x).natAbs) : moveToward t d x ≠ t := by
  rcases Int.lt_or_gt_of_ne (show x ≠ t by omega) with hx | hx
  · rw [moveToward_up h hx]
    omega
  · rw [moveToward_down h hx]
    omega

/-- Depth, tracking state and left-LOST mark are all that is worked out here. -/
theorem depthTrack_keeps (prev : SideRef) (w : Bool) (rate : Nat) (new : SideRef) :
    (depthTrack prev w rate new).heightSet = new.heightSet ∧ (depthTrack prev w rate new).members = new.members ∧
      (depthTrack prev w rate new).ref = new.ref ∧ (depthTrack prev w rate new).avg = new.avg := by
  unfold depthTrack
  repeat' split
  all_goals exact ⟨rfl, rfl, rfl, rfl⟩

section
variable {prev new : SideRef} {rate : Nat}

/-- R45: a side that is LOST holds its depth. -/
theorem depthTrack_lost (h : new.ref = .lost) (w : Bool) :
    depthTrack prev w rate new = { new with depth := prev.depth, tracking := .track, leftLost := false } := if_pos h

variable (h : new.ref ≠ .lost)
include h

/-- R46, R50: a side that leaves LOST jumps to the average. -/
theorem depthTrack_leaves :
    depthTrack prev true rate new = { new with depth := new.avg, tracking := .track, leftLost := true } := by
  rw [depthTrack, if_neg h, if_pos rfl]

/-- R43: a side in TRACK follows the average. -/
theorem depthTrack_follows (ht : prev.tracking = .track) (hm : new.members = prev.members) :
    depthTrack prev false rate new = { new with depth := new.avg, tracking := .track, leftLost := false } := by
  rw [depthTrack, if_neg h, if_neg Bool.false_ne_true, if_neg (by simp [ht, hm])]

/-- R44: a side in REBASE moves toward the average. -/
theorem depthTrack_slews (hs : prev.tracking = .rebase ∨ new.members ≠ prev.members) :
    depthTrack prev false rate new =
      { new with depth := moveToward new.avg rate prev.depth,
                 tracking := if moveToward new.avg rate prev.depth = new.avg then .track else .rebase,
                 leftLost := false } := by
  rw [depthTrack, if_neg h, if_neg Bool.false_ne_true, if_pos hs]

/-- A side that was not LOST carries no left-LOST mark. -/
theorem depthTrack_stays : (depthTrack prev false rate new).leftLost = false := by
  by_cases hs : prev.tracking = .rebase ∨ new.members ≠ prev.members
  · rw [depthTrack_slews h hs]
  · rw [depthTrack, if_neg h, if_neg Bool.false_ne_true, if_neg hs]

end

/-! ### The two readings of a sample set (R38) -/

/-- R46, R50: a side is worked out as one that was LOST at the sample set before. -/
def asIfLost (s : State) (side : Side) : Bool :=
  decide ((s.sru.sides.get side).ref = .lost ∨ (side = .right ∧ s.sru.modeChanged = true))

theorem sideReadings_depth {s : State} {side : Side} (h : side = .left ∨ s.cfg.side.right.mode = .depth) :
    (sideReadings s).get side =
      depthReading s.sfe.chans (s.cfg.side.get side) side (asIfLost s side) (s.sru.sides.get side) := by
  cases side with
  | left =>
    have lost : asIfLost s .left = (s.sru.sides.left.ref == .lost) := by simp [asIfLost, Sides.get, beq_eq_decide]
    rw [lost]
    rfl
  | right =>
    have lost : asIfLost s .right = (s.sru.modeChanged || s.sru.sides.right.ref == .lost) := by
      simp [asIfLost, Sides.get, beq_eq_decide, Bool.or_comm]
    have mode := h.resolve_left (by decide)
    simp only [sideReadings, mode, lost]
    rfl

theorem sideReadings_slope {s : State} (h : s.cfg.side.right.mode = .slope) :
    (sideReadings s).right =
      slopeReading s.sfe.chans s.cfg.limits.width (sideReadings s).left s.sru.modeChanged s.sru.sides.right := by
  simp only [sideReadings, h]

end Sys2Proof.Machine

namespace Sys2Proof.Machine

/-! ### The reading of a side in DEPTH mode (R39 to R46) -/

/-- The reading of a side in DEPTH mode that a sample set leaves, with the sets of the channels that it leaves. -/
theorem sampleSet_depthReading (scan : Scan) (o : SampleOrder) {s : State} {side : Side}
    (h : side = .left ∨ s.cfg.side.right.mode = .depth) :
    let old := s.sru.sides.get side
    let heights := heightSet (sampleSet scan o s).sfe.chans side
    let members := memberSet (sampleSet scan o s).sfe.chans heights
    (sampleSet scan o s).sru.sides.get side =
      depthTrack old (asIfLost s side) (s.cfg.side.get side).rebaseRate
        { old with heightSet := heights, members := members,
                   ref := refState members.length heights.length (s.cfg.side.get side).minMembers,
                   avg := sideAverage (scanned scan o s).sfe.chans members old.avg } := by
  have zeros := sampleSet_chans_scanned scan o s
  rw [← scanned_cfg scan o] at h
  have lost : asIfLost (scanned scan o s) side = asIfLost s side := by
    unfold asIfLost
    rw [scanned_sru]
  dsimp only
  rw [sampleSet_sru, sideReadings_depth h, lost, scanned_cfg, scanned_sru, zeros.heightSet_eq, zeros.memberSet_eq]
  rfl

/-- R42: the side average in the values that a sample set leaves and the zeros in force at it. -/
theorem sampleSet_sideAverage (scan : Scan) (o : SampleOrder) {s : State} (h : StillCounts s) {members : List Chan}
    (hm : members ≠ []) (last : Int) :
    sideAverage (scanned scan o s).sfe.chans members last =
      max (-5000) (min 5000 ((members.map fun i => ((sampleSet scan o s).sfe.chans.get i).pubValue
        - (s.sfe.chans.get i).cfg.zero).sum / (members.length : Int))) := by
  have contributions (i : Chan) : ((scanned scan o s).sfe.chans.get i).contribution =
      ((sampleSet scan o s).sfe.chans.get i).pubValue - (s.sfe.chans.get i).cfg.zero := by
    rw [(sampleSet_chans_scanned scan o s).pubValue, ← scanned_zero h]
    rfl
  rw [sideAverage_members hm, funext contributions]

/-- Settles O10: the sample set reads the side once, with the zeros in force, and what follows the reading leaves it. -/
theorem sideReadingInDepthMode : Obligations.SideReadingInDepthMode := by
  intro scan o s hs hcount
  refine ⟨_, exec_sampleSet scan o hs, fun side hmode => ?_⟩
  have reading := sampleSet_depthReading scan o hmode
  have lost : asIfLost s side = true ↔
      (s.sru.sides.get side).ref = .lost ∨ (side = .right ∧ s.sru.modeChanged = true) := decide_eq_true_iff
  dsimp only at reading ⊢
  rw [arbitrate_sru, arbitrate_sfe, ← lost]
  obtain ⟨hheights, hmembers, href, havg⟩ := depthTrack_keeps (s.sru.sides.get side) (asIfLost s side)
    (s.cfg.side.get side).rebaseRate _
  rw [← reading] at hheights hmembers href havg
  refine ⟨hheights, hmembers, fun hn => href.trans (refState_lost hn),
    fun hk ha => href.trans (refState_degraded hk ha), fun hk ha => href.trans (refState_full hk ha),
    fun hm => havg.trans (sampleSet_sideAverage scan o hcount hm _),
    fun hm => havg.trans (sideAverage_none hm _ _), fun hl => ?_, fun hl hw => ?_, fun hl hw => ?_⟩
  · rw [href] at hl
    rw [reading, depthTrack_lost hl]
    exact ⟨rfl, rfl, rfl⟩
  · rw [href] at hl
    rw [reading, hw, depthTrack_leaves hl]
    exact ⟨rfl, rfl, rfl⟩
  · rw [href] at hl
    rw [Bool.not_eq_true] at hw
    rw [havg, reading, hw]
    refine ⟨depthTrack_stays hl, fun ht hm => ?_, fun hs => ?_⟩
    · rw [depthTrack_follows hl ht hm]
      exact ⟨rfl, rfl⟩
    · rw [depthTrack_slews hl hs]
      refine ⟨fun near => ?_, fun far => ⟨if_neg (moveToward_ne far), moveToward_up far, moveToward_down far⟩⟩
      dsimp only
      rw [moveToward_near near]
      exact ⟨rfl, if_pos rfl⟩

end Sys2Proof.Machine

namespace Sys2Proof.Machine

/-! ### The reading of RIGHT in SLOPE mode (R47 to R50) -/

theorem slopeRef_none {cs : Chans Channel} (h : slopeChannel cs = none) (left : RefState) :
    slopeRef cs left = .lost := by
  unfold slopeRef
  rw [h]

theorem slopeRef_one {cs : Chans Channel} {i : Chan} {v : Int} (h : slopeChannel cs = some (i, v)) (left : RefState) :
    slopeRef cs left = if (cs.get i).pubState ≠ .unqualified then left else .lost := by
  unfold slopeRef Channel.usable
  rw [h]
  simp only [bne_iff_ne]

section
variable (cs : Chans Channel) (width : Nat) (left : SideRef) (fresh : Bool) (prev : SideRef)

/-- R47: the sets are formed and the side average stands. -/
theorem slopeReading_keeps :
    (slopeReading cs width left fresh prev).heightSet = heightSet cs .right ∧
      (slopeReading cs width left fresh prev).members = memberSet cs (heightSet cs .right) ∧
      (slopeReading cs width left fresh prev).avg = prev.avg := by
  unfold slopeReading
  dsimp only
  split
  all_goals exact ⟨rfl, rfl, rfl⟩

end

section
variable {cs : Chans Channel} {width : Nat} {left : SideRef} {fresh : Bool} {prev : SideRef}

/-- R48, R49: RIGHT that is LOST holds its depth. -/
theorem slopeReading_lost (h : slopeRef cs left.ref = .lost) :
    (slopeReading cs width left fresh prev).ref = .lost ∧ (slopeReading cs width left fresh prev).depth = prev.depth ∧
      (slopeReading cs width left fresh prev).tracking = .track ∧
      (slopeReading cs width left fresh prev).leftLost = false := by
  unfold slopeReading
  dsimp only
  rw [if_pos h]
  exact ⟨h, rfl, rfl, rfl⟩

/-- R49, R50: RIGHT that is not LOST stands off LEFT by the slope term. -/
theorem slopeReading_follows {i : Chan} {v : Int} (hc : slopeChannel cs = some (i, v))
    (hi : (cs.get i).pubState ≠ .unqualified) (hl : left.ref ≠ .lost) :
    (slopeReading cs width left fresh prev).ref = left.ref ∧
      (slopeReading cs width left fresh prev).depth =
        max (-5000) (min 5000 (left.depth + v * (width : Int) / 1000)) ∧
      (slopeReading cs width left fresh prev).tracking = (if fresh then .track else left.tracking) ∧
      (slopeReading cs width left fresh prev).leftLost = (fresh || decide (prev.ref = .lost)) := by
  have follows : slopeRef cs left.ref = left.ref := by rw [slopeRef_one hc, if_pos hi]
  unfold slopeReading
  dsimp only
  rw [follows, if_neg hl, hc]
  exact ⟨rfl, clamp_eq (by decide) _, rfl, by rw [beq_eq_decide]⟩

end

/-- The reading of RIGHT in SLOPE mode that a sample set leaves, beside the reading of LEFT. -/
theorem sampleSet_slopeReading (scan : Scan) (o : SampleOrder) {s : State} (h : s.cfg.side.right.mode = .slope) :
    (sampleSet scan o s).sru.sides.right =
      slopeReading (scanned scan o s).sfe.chans s.cfg.limits.width (sampleSet scan o s).sru.sides.left
        s.sru.modeChanged s.sru.sides.right := by
  rw [← scanned_cfg scan o] at h
  rw [sampleSet_sru, sideReadings_slope h, scanned_cfg, scanned_sru]

/-- R41: the conditions that the side readings judged are those that a sample set leaves. -/
theorem sampleSet_condition (scan : Scan) (o : SampleOrder) {e : EventSrc} (he : e.id < 4) (s : State) :
    condition e (arbitrate (sampleSet scan o s)) = condition e (readSides (scanned scan o s)) := by
  rw [condition, arbitrate_events, (sampleSet_readings scan o s).conds _ he]
  rfl

/-- Settles O11: the slope channel is read once after LEFT, and what follows the readings leaves them and the four
conditions. -/
theorem sideReadingInSlopeMode : Obligations.SideReadingInSlopeMode := by
  intro scan o s hs
  have zeros := sampleSet_chans_scanned scan o s
  refine ⟨_, exec_sampleSet scan o hs, fun hmode => ?_, ?_⟩
  · have reading := sampleSet_slopeReading scan o hmode
    have slope : (sampleSet scan o s).sru.slope = slopeChannel (scanned scan o s).sfe.chans := by rw [sampleSet_sru]
    obtain ⟨hheights, hmembers, havg⟩ := slopeReading_keeps (scanned scan o s).sfe.chans s.cfg.limits.width
      (sampleSet scan o s).sru.sides.left s.sru.modeChanged s.sru.sides.right
    rw [← zeros.heightSet_eq, ← reading] at hheights
    rw [← zeros.heightSet_eq, ← zeros.memberSet_eq, ← reading] at hmembers
    rw [← reading] at havg
    rw [arbitrate_sru, arbitrate_sfe]
    refine ⟨hheights, hmembers, havg, fun c hc => ?_, fun hn => ?_⟩
    · have one := slopeChannel_one (zeros.slopes_eq.symm.trans hc)
      rw [← zeros.pubValue] at one
      dsimp only
      rw [slope, one, zeros.pubState, reading]
      refine ⟨rfl, fun hx hl => slopeReading_follows one hx hl, fun hx => slopeReading_lost ?_⟩
      rw [slopeRef_one one]
      rcases hx with hx | hl
      · rw [if_neg (not_not.2 hx)]
      · rw [hl, ite_self]
    · have none := slopeChannel_none (by rw [← zeros.slopes_eq]; exact hn)
      rw [slope, none, reading]
      exact ⟨rfl, slopeReading_lost (slopeRef_none none _)⟩
  · have judged := readSides_conditions (scanned scan o s)
    rw [← (sampleSet_readings scan o s).sru] at judged
    rw [sampleSet_condition scan o (by decide), sampleSet_condition scan o (by decide),
      sampleSet_condition scan o (by decide), sampleSet_condition scan o (by decide), arbitrate_sru]
    exact judged

end Sys2Proof.Machine

namespace Sys2Proof.Machine

/-! ### The SIDE record (R52, R55, R98, R104) -/

/-- R203: a record of unsigned fields reads back as its numbers. -/
theorem readFields_naturals {vs : List Nat} (h : ∀ v ∈ vs, v < 65536) :
    readFields (List.replicate vs.length false) (vs.flatMap (le 2)) = vs.map Int.ofNat := by
  induction vs with
  | nil => rfl
  | cons v rest ih =>
    obtain ⟨hv, hrest⟩ := List.forall_mem_cons.1 h
    rw [List.flatMap_cons, List.length_cons, List.replicate_succ, readFields_le_of_lt hv, ih hrest]
    rfl

/-- R199: the code of a side. -/
theorem Side.ofField_code (i : Side) : Side.ofField ((if i = .left then 0 else 1 : Nat) : Int) = i := by
  cases i <;> decide

/-- R199: the code of a mode. -/
theorem SideMode.ofField_code (m : SideMode) : SideMode.ofField ((if m = .depth then 0 else 1 : Nat) : Int) = m := by
  cases m <;> decide

/-- Section 3.7: the gain fields in range. -/
def Gains.InRange (g : Gains) : Prop := g.kp ≤ 255 ∧ g.ki ≤ 255 ∧ g.ilim ≤ 1000 ∧ 100 ≤ g.umax ∧ g.umax ≤ 1000

/-- Section 3.7: the fields of a SIDE record in range, SLOPE for RIGHT alone. -/
structure SideRec.InRange (i : Side) (r : SideRec) : Prop where
  mode : i = .left → r.mode = .depth
  minMembers : 1 ≤ r.minMembers ∧ r.minMembers ≤ 3
  rebaseRate : 1 ≤ r.rebaseRate ∧ r.rebaseRate ≤ 50
  deadband : r.deadband ≤ 50
  normal : r.normal.InRange
  hard : r.hard.InRange
  vmin : r.vmin ≤ 400
  engageTol : 1 ≤ r.engageTol ∧ r.engageTol ≤ 100
  farTol : 10 ≤ r.farTol ∧ r.farTol ≤ 500

/-- Section 3.7: the fields of a SIDE record in field order. -/
def sideFields (i : Side) (r : SideRec) : List Nat :=
  [if i = .left then 0 else 1, if r.mode = .depth then 0 else 1, r.minMembers, r.rebaseRate, r.deadband, r.normal.kp,
   r.normal.ki, r.normal.ilim, r.normal.umax, r.hard.kp, r.hard.ki, r.hard.ilim, r.hard.umax, r.vmin, r.engageTol,
   r.farTol]

/-- R52: the bytes of a SIDE record in range. -/
theorem setSide_good {i : Side} {r : SideRec} (h : r.InRange i) (s : State) :
    setSide ((sideFields i r).flatMap (le 2)) s =
      if s.csc.state ≠ .config ∧
          ((s.cfg.side.get i).mode ≠ r.mode ∨ (s.cfg.side.get i).minMembers ≠ r.minMembers) then (s, replyMode)
      else (writeSide i r s, replyOk []) := by
  obtain ⟨hmode, hmin, hrate, hdead, ⟨nkp, nki, nilim, numax⟩, ⟨hkp, hki, hilim, humax⟩, hvmin, hengage, hfar⟩ := h
  have hside : (if i = .left then 0 else 1 : Nat) ≤ 1 := by split <;> decide
  have hcode : ((if r.mode = .depth then 0 else 1 : Nat) : Int) ≤ if i = .left then 0 else 1 := by
    by_cases hi : i = .left
    · rw [if_pos (hmode hi), if_pos hi]
      decide
    · rw [if_neg hi]
      split <;> decide
  have small : ∀ v ∈ sideFields i r, v < 65536 := by
    simp only [sideFields, List.forall_mem_cons, List.not_mem_nil, false_implies, implies_true, and_true]
    omega
  have fields : readFields (List.replicate 16 false) ((sideFields i r).flatMap (le 2)) =
      (sideFields i r).map Int.ofNat := readFields_naturals small
  unfold setSide
  rw [fields]
  simp only [sideFields, List.map_cons, List.map_nil, Int.ofNat_eq_natCast]
  rw [Side.ofField_code, SideMode.ofField_code, writeRecord_good]
  · simp only [Int.toNat_natCast, Bool.or_eq_true, bne_iff_ne]
  · simp only [List.forall_mem_cons, within_eq_true, List.not_mem_nil, false_implies, implies_true, and_true]
    omega

section
variable {i : Side} {r : SideRec} {s : State} (h : r.InRange i)
include h

theorem setSide_refused (hs : s.csc.state ≠ .config)
    (hc : (s.cfg.side.get i).mode ≠ r.mode ∨ (s.cfg.side.get i).minMembers ≠ r.minMembers) :
    setSide ((sideFields i r).flatMap (le 2)) s = (s, replyMode) := (setSide_good h s).trans (if_pos ⟨hs, hc⟩)

theorem setSide_taken (hs : s.csc.state = .config ∨
      ¬((s.cfg.side.get i).mode ≠ r.mode ∨ (s.cfg.side.get i).minMembers ≠ r.minMembers)) :
    setSide ((sideFields i r).flatMap (le 2)) s = (writeSide i r s, replyOk []) :=
  (setSide_good h s).trans (if_neg fun k => hs.elim k.1 fun hc => hc k.2)

end

end Sys2Proof.Machine

namespace Sys2Proof.Machine

/-! ### What the write of a SIDE record does at once (R55, R98, R104) -/

/-- R98: the limit of the integrator under the active gain set. -/
def SideRec.activeLimit (r : SideRec) (l : Loop) : Nat := if l.gain = .normal then r.normal.ilim else r.hard.ilim

theorem Loop.limitTo_eq (r : SideRec) (l : Loop) :
    l.limitTo r = { l with integ := max (-(r.activeLimit l : Int)) (min (r.activeLimit l : Int) l.integ) } := by
  have active : (r.gains l.gain).ilim = r.activeLimit l := by
    unfold SideRec.activeLimit
    cases l.gain <;> rfl
  unfold Loop.limitTo limitInteg
  rw [active, clamp_eq (by omega)]

/-- R98: a SIDE record written with the integrator limited by it. -/
def sideWritten (i : Side) (r : SideRec) (s : State) : State :=
  { s with cfg := { s.cfg with side := s.cfg.side.set i r }, dlu := s.dlu.set i ((s.dlu.get i).limitTo r) }

theorem writeSide_mode_same {i : Side} {r : SideRec} {s : State}
    (h : i = .left ∨ (s.cfg.side.get i).mode = r.mode) : writeSide i r s = sideWritten i r s :=
  if_neg fun k => h.elim (fun hl => absurd (hl.symm.trans k.1) (by decide)) k.2

/-- R73: no waypoint lies ahead in an empty list. -/
theorem emptyPlan_eq (s : State) :
    emptyPlan s = setCond .planLow (decide (0 < s.cfg.plan.lowMark))
      { s with pt := { s.pt with list := [], armed := false } } := rfl

theorem writeSide_mode_changed {r : SideRec} {s : State} (h : s.cfg.side.right.mode ≠ r.mode) :
    writeSide .right r s = setCond .planLow (decide (0 < s.cfg.plan.lowMark))
      { sideWritten .right r s with
        sru := { s.sru with modeChanged := true }, pt := { s.pt with list := [], armed := false } } := by
  unfold writeSide
  rw [if_pos ⟨rfl, h⟩, emptyPlan_eq]
  rfl

/-- Settles O44: the bytes of the record read back as its fields, and the write goes by its structural fields and the
mode of RIGHT. -/
theorem sideRecordIsWritten : Obligations.SideRecordIsWritten := by
  intro tag i r s hfree hmode hmin1 hmin3 hrate1 hrate50 hdead hgains hvmin hengage1 hengage100 hfar10 hfar500
  have inRange : r.InRange i := ⟨hmode, ⟨hmin1, hmin3⟩, ⟨hrate1, hrate50⟩, hdead, hgains _ (.inl rfl),
    hgains _ (.inr rfl), hvmin, ⟨hengage1, hengage100⟩, hfar10, hfar500⟩
  have run := setForm_good (p := .side) (tag := tag) (rest := (sideFields i r).flatMap (le 2)) rfl
    (by simp [sideFields]) hfree
  dsimp only
  refine ⟨fun hs hc => ?_, fun hs hm => ?_, fun hs hi hm => ?_⟩
  · rw [setSide_refused (s := heard s) inRange hs hc] at run
    exact run
  · rw [setSide_taken (s := heard s) inRange hs, writeSide_mode_same (s := heard s) hm, sideWritten,
      Loop.limitTo_eq] at run
    exact run
  · subst hi
    rw [setSide_taken (s := heard s) inRange (.inl hs), writeSide_mode_changed (s := heard s) hm, sideWritten,
      Loop.limitTo_eq] at run
    exact run

end Sys2Proof.Machine

namespace Sys2Proof.Machine

/-! ### One event source and the others (R209) -/

theorem EventSrc.id_lt (e : EventSrc) : e.id < 25 := by cases e <;> decide

@[simp] theorem raise_enable (e : EventSrc) (s : State) : (raise e s).li.events.enable = s.li.events.enable :=
  (raise_grows e s).enable

@[simp] theorem setCond_enable (e : EventSrc) (b : Bool) (s : State) :
    (setCond e b s).li.events.enable = s.li.events.enable := (setCond_grows e b s).enable

/-- An occurrence of an edge source makes it pending where it is enabled. -/
theorem raise_isPending_self (e : EventSrc) (s : State) :
    isPending e (raise e s) = (isPending e s || marked s.li.events.enable e.id) := by
  unfold isPending raise
  split
  · rename_i h
    rw [latch_pending_marked _ _ _ e.id_lt, h, decide_eq_true rfl]
  · rename_i h
    rw [Bool.eq_false_iff.2 h, Bool.or_false]

theorem raise_isPending_of_ne {e f : EventSrc} (h : e.id ≠ f.id) (s : State) :
    isPending e (raise f s) = isPending e s := by
  unfold isPending raise
  split
  · rw [latch_pending_marked _ _ _ e.id_lt, decide_eq_false h, Bool.or_false]
  · rfl

theorem setCond_isPending_of_ne {e f : EventSrc} (h : e.id ≠ f.id) (b : Bool) (s : State) :
    isPending e (setCond f b s) = isPending e s := by
  unfold isPending setCond
  dsimp only
  split
  · rw [latch_pending_marked _ _ _ e.id_lt, decide_eq_false h, Bool.or_false]
    rfl
  · rfl

/-- An operation that neither raises nor judges a source. -/
structure SourceStands (e : EventSrc) (s t : State) : Prop where
  enable : t.li.events.enable = s.li.events.enable
  waits : isPending e t = isPending e s
  cond : condition e t = condition e s

theorem SourceStands.of_events {e : EventSrc} {s t : State} (h : t.li.events = s.li.events) : SourceStands e s t := by
  refine ⟨by rw [h], ?_, ?_⟩ <;> simp only [isPending, condition, h]

theorem SourceStands.trans {e : EventSrc} {s t u : State} (h : SourceStands e s t) (k : SourceStands e t u) :
    SourceStands e s u :=
  ⟨k.enable.trans h.enable, k.waits.trans h.waits, k.cond.trans h.cond⟩

/-- An operation on a block other than the LI comes first. -/
theorem SourceStands.after {e : EventSrc} {s t u : State} (k : SourceStands e t u)
    (h : t.li.events = s.li.events := by rfl) : SourceStands e s u := (SourceStands.of_events h).trans k

theorem SourceStands.ite {e : EventSrc} {s a b : State} {p : Prop} [Decidable p] (ha : SourceStands e s a)
    (hb : SourceStands e s b) : SourceStands e s (if p then a else b) := by
  split
  · exact ha
  · exact hb

theorem raise_source {e f : EventSrc} (h : e.id ≠ f.id) (s : State) : SourceStands e s (raise f s) :=
  ⟨raise_enable f s, raise_isPending_of_ne h s, by simp only [condition, raise_cond]⟩

theorem setCond_source {e f : EventSrc} (h : e.id ≠ f.id) (b : Bool) (s : State) : SourceStands e s (setCond f b s) :=
  ⟨setCond_enable f b s, setCond_isPending_of_ne h b s, setCond_condition_of_ne h b s⟩

/-! ### What an advance leaves of the plan's events (R103, R122, R146) -/

/-- The sources of the PT lie below those that the belt and the trucks raise, 21 to 24. -/
theorem workOutPause_source {e : EventSrc} (h : e.id < 21) (s : State) : SourceStands e s (workOutPause s) := by
  have judged : SourceStands e s (setCond .beltPaused (pauseMark s.tlu.current s.btq.segs)
      (s.mapBtq fun b => { b with paused := pauseMark s.tlu.current s.btq.segs })) :=
    (setCond_source (f := .beltPaused) (h.trans_le (by decide)).ne _ _).after
  exact .ite (judged.trans (.of_events rfl)) judged

theorem predictClosing_source {e : EventSrc} (h : e.id < 21) (s : State) : SourceStands e s (predictClosing s) := by
  unfold predictClosing
  split
  · exact .of_events rfl
  · exact .ite ((raise_source (f := .truckClosing) (h.trans_le (by decide)).ne _).trans
      (workOutPause_source h _)).after (.of_events rfl)

theorem spillVolume_source {e : EventSrc} (h : e.id < 21) (v : Nat) (s : State) :
    SourceStands e s (spillVolume v s) :=
  .ite (raise_source (f := .spill) (h.trans_le (by decide)).ne _).after (.of_events rfl)

theorem takeIn_source {e : EventSrc} (h : e.id < 21) (v carry : Nat) (s : State) :
    SourceStands e s (takeIn v carry s) :=
  ((spillVolume_source h _ _).trans (predictClosing_source h _)).after

theorem intake_source {e : EventSrc} (h : e.id < 21) (delta : Nat) (s : State) : SourceStands e s (intake delta s) :=
  .ite (takeIn_source h _ _ s) (.of_events rfl)

/-! ### The waypoints at a new h (R58, R74) -/

theorem PlanOrdered.behind {w x : Waypoint} {l : List Waypoint} (h : PlanOrdered (w :: x :: l)) :
    w.station < x.station := List.rel_of_pairwise_cons h.2 List.mem_cons_self

theorem PlanOrdered.tail {w : Waypoint} {l : List Waypoint} (h : PlanOrdered (w :: l)) : PlanOrdered l :=
  h.sublist (List.sublist_cons_self w l)

/-- R54: where the first waypoint lies ahead of h, all do. -/
theorem PlanOrdered.ahead {h : Nat} {w : Waypoint} {l : List Waypoint} (ho : PlanOrdered (w :: l))
    (hw : h < w.station) : ∀ x ∈ w :: l, h < x.station :=
  List.forall_mem_cons.2 ⟨hw, fun _ hx => hw.trans (List.rel_of_pairwise_cons ho.2 hx)⟩

theorem consume_step {h : Nat} {x : Waypoint} (hx : x.station ≤ h) (w : Waypoint) (l : List Waypoint) :
    consume h (w :: x :: l) = consume h (x :: l) := by rw [consume, if_pos hx]

theorem consume_stays {h : Nat} {x : Waypoint} (hx : h < x.station) (w : Waypoint) (l : List Waypoint) :
    consume h (w :: x :: l) = w :: x :: l := by rw [consume, if_neg (Nat.not_le.2 hx)]

/-- R58: of the waypoints at or below h the latest is left, and all that lie ahead. -/
theorem consume_eq {h : Nat} {l : List Waypoint} (ho : PlanOrdered l) :
    consume h l = (l.filter fun x => decide (x.station ≤ h)).getLast?.toList
      ++ l.filter (fun x => decide (h < x.station)) := by
  induction l with
  | nil => rfl
  | cons w rest ih =>
    cases rest with
    | nil => 
      rcases Nat.lt_or_ge h w.station with hw | hw
      · simp [consume, hw, Nat.not_le.2 hw]
      · simp [consume, hw, Nat.not_lt.2 hw]
    | cons x rest =>
      by_cases hx : x.station ≤ h
      · have hw : w.station ≤ h := ho.behind.le.trans hx
        rw [consume_step hx, ih ho.tail]
        simp [hw, hx]
      · have ahead := ho.tail.ahead (Nat.not_le.1 hx)
        have none_behind : (x :: rest).filter (fun y => decide (y.station ≤ h)) = [] :=
          List.filter_eq_nil_iff.2 fun y hy => by simpa using ahead y hy
        have all_ahead : (x :: rest).filter (fun y => decide (h < y.station)) = x :: rest :=
          List.filter_eq_self.2 fun y hy => by simpa using ahead y hy
        rw [consume_stays (Nat.not_le.1 hx), List.filter_cons (x := w), List.filter_cons (x := w), none_behind,
          all_ahead]
        rcases Nat.lt_or_ge h w.station with hw | hw
        · simp [hw, Nat.not_le.2 hw]
        · simp [hw, Nat.not_lt.2 hw]

/-- R58: the waypoints ahead of h stay. -/
theorem consume_ahead {h : Nat} {l : List Waypoint} (ho : PlanOrdered l) :
    (consume h l).filter (fun x => decide (h < x.station)) = l.filter fun x => decide (h < x.station) := by
  have left : (l.filter fun x => decide (x.station ≤ h)).getLast?.toList.filter
      (fun x => decide (h < x.station)) = [] := by
    refine List.filter_eq_nil_iff.2 fun x hx => ?_
    have := List.mem_of_getLast? (Option.mem_toList.1 hx)
    simpa using (List.mem_filter.1 this).2
  rw [consume_eq ho, List.filter_append, left, List.filter_filter]
  simp

/-- R58: the last waypoint stays. -/
theorem consume_getLast? (h : Nat) (l : List Waypoint) : (consume h l).getLast? = l.getLast? := by
  induction l with
  | nil => rfl
  | cons w rest ih =>
    cases rest with
    | nil => rfl
    | cons x rest =>
      rcases Nat.lt_or_ge h x.station with hx | hx
      · rw [consume_stays hx]
      · rw [consume_step hx, ih, List.getLast?_cons_cons]

/-- R74: whether h has reached the last waypoint. -/
def planEnded (h : Nat) (l : List Waypoint) : Bool := l.getLast?.any fun x => decide (x.station ≤ h)

theorem lastStation_any (h : Nat) (l : List Waypoint) :
    ((lastStation l).any fun x => decide (x ≤ h)) = planEnded h l := by
  unfold lastStation planEnded
  rw [Option.any_map]

/-- R74: the plan-end mark after its judgement. -/
theorem judgePlanEnd_pt (s : State) :
    (judgePlanEnd s).pt = { s.pt with armed := s.pt.armed && !planEnded s.pcu.high s.pt.list } := by
  unfold judgePlanEnd
  rw [lastStation_any]
  split
  · rename_i h
    rw [raise_pt, (Bool.and_eq_true_iff.1 h).2, Bool.not_true, Bool.and_false]
    rfl
  · rename_i h
    have kept : (s.pt.armed && !planEnded s.pcu.high s.pt.list) = s.pt.armed := by grind
    rw [kept]

theorem judgePlanEnd_source {e : EventSrc} (h : e.id ≠ 8) (s : State) : SourceStands e s (judgePlanEnd s) :=
  .ite (raise_source (f := .planEnd) h _).after (.of_events rfl)

theorem judgePlanEnd_planEnd (s : State) :
    isPending .planEnd (judgePlanEnd s) = (isPending .planEnd s ||
      (marked s.li.events.enable 8 && s.pt.armed && planEnded s.pcu.high s.pt.list)) := by
  unfold judgePlanEnd
  rw [lastStation_any, Bool.and_assoc]
  split
  · rename_i h
    rw [raise_isPending_self, h, Bool.and_true]
    rfl
  · rename_i h
    rw [Bool.eq_false_iff.2 h, Bool.and_false, Bool.or_false]

/-! ### The windows at a new h (R70, R71) -/

theorem mapPt_isPending (e : EventSrc) (f : Pt → Pt) (s : State) : isPending e (s.mapPt f) = isPending e s := rfl

theorem judgeWindow_invalid {w : Window} (hw : w.valid = false) (h : Nat) : judgeWindow h w = (w, false, false) := by
  simp [judgeWindow, hw]

theorem judgeWindow_valid {w : Window} (hw : w.valid = true) (h : Nat) :
    (judgeWindow h w).1 =
      { w with entered := decide (w.start ≤ h + w.lead), valid := decide (h < w.start + w.length) } := by
  have ahead : (!decide (w.start + w.length ≤ h)) = decide (h < w.start + w.length) := by
    rw [← decide_not, decide_eq_decide, Nat.not_le]
  simp only [judgeWindow, hw, if_true, Window.begun, Window.ended, ahead]

theorem judgeWindow_marks (h : Nat) (w : Window) :
    (judgeWindow h w).2 = (w.valid && !w.entered && decide (w.start ≤ h + w.lead),
      w.valid && decide (w.start + w.length ≤ h)) := by
  cases hw : w.valid <;> simp [judgeWindow, hw, Window.begun, Window.ended, Bool.and_comm]

theorem raiseWindow_entered (m : Bool × Bool) (s : State) :
    isPending .windowEntered (raiseWindow m s)
      = (isPending .windowEntered s || (marked s.li.events.enable 9 && m.1)) := by
  obtain ⟨a, b⟩ := m
  have passed (t : State) : isPending .windowEntered (raise .windowPassed t) = isPending .windowEntered t :=
    raise_isPending_of_ne (by decide) t
  cases a <;> cases b <;> simp [raiseWindow, passed, raise_isPending_self, EventSrc.id]

theorem raiseWindow_passed (m : Bool × Bool) (s : State) :
    isPending .windowPassed (raiseWindow m s)
      = (isPending .windowPassed s || (marked s.li.events.enable 10 && m.2)) := by
  obtain ⟨a, b⟩ := m
  have entered (t : State) : isPending .windowPassed (raise .windowEntered t) = isPending .windowPassed t :=
    raise_isPending_of_ne (by decide) t
  cases a <;> cases b <;> simp [raiseWindow, entered, raise_isPending_self, EventSrc.id]

theorem raiseWindow_enable (m : Bool × Bool) (s : State) :
    (raiseWindow m s).li.events.enable = s.li.events.enable := by
  obtain ⟨a, b⟩ := m
  cases a <;> cases b <;> simp [raiseWindow]

theorem raiseWindow_source {e : EventSrc} (h9 : e.id ≠ 9) (h10 : e.id ≠ 10) (m : Bool × Bool) (s : State) :
    SourceStands e s (raiseWindow m s) := by
  have first : SourceStands e s (if m.1 then raise .windowEntered s else s) := .ite (raise_source h9 _) (.of_events rfl)
  exact .ite (first.trans (raise_source h10 _)) first

theorem judgeWindows_pt (s : State) :
    (judgeWindows s).pt = { s.pt with windows := ⟨(judgeWindow s.pcu.high s.pt.windows.w0).1,
      (judgeWindow s.pcu.high s.pt.windows.w1).1, (judgeWindow s.pcu.high s.pt.windows.w2).1,
      (judgeWindow s.pcu.high s.pt.windows.w3).1⟩ } := by
  simp only [judgeWindows, raiseWindow_pt, State.mapPt_pt]

theorem judgeWindows_get {i : Nat} (hi : i < 4) (s : State) :
    (judgeWindows s).pt.windows.get i = (judgeWindow s.pcu.high (s.pt.windows.get i)).1 := by
  rw [judgeWindows_pt]
  interval_cases i <;> rfl

theorem judgeWindows_source {e : EventSrc} (h9 : e.id ≠ 9) (h10 : e.id ≠ 10) (s : State) :
    SourceStands e s (judgeWindows s) :=
  ((((raiseWindow_source h9 h10 _ _).trans (raiseWindow_source h9 h10 _ _)).trans
    (raiseWindow_source h9 h10 _ _)).trans (raiseWindow_source h9 h10 _ _)).after

theorem judgeWindows_entered (s : State) :
    isPending .windowEntered (judgeWindows s) = (isPending .windowEntered s || (marked s.li.events.enable 9 &&
      s.pt.windows.all.any fun w => w.valid && !w.entered && decide (w.start ≤ s.pcu.high + w.lead))) := by
  unfold judgeWindows
  simp only [raiseWindow_entered, raiseWindow_enable, judgeWindow_marks, State.mapPt_li, Windows.all, List.any_cons,
    List.any_nil, Bool.or_false, Bool.and_or_distrib_left, Bool.or_assoc, mapPt_isPending]

theorem judgeWindows_passed (s : State) :
    isPending .windowPassed (judgeWindows s) = (isPending .windowPassed s || (marked s.li.events.enable 10 &&
      s.pt.windows.all.any fun w => w.valid && decide (w.start + w.length ≤ s.pcu.high))) := by
  unfold judgeWindows
  simp only [raiseWindow_passed, raiseWindow_enable, judgeWindow_marks, State.mapPt_li, Windows.all, List.any_cons,
    List.any_nil, Bool.or_false, Bool.and_or_distrib_left, Bool.or_assoc, mapPt_isPending]

/-! ### What a new h does to the plan and the windows (R58, R70, R71, R73, R74) -/

theorem planEnded_consume (h : Nat) (l : List Waypoint) : planEnded h (consume h l) = planEnded h l :=
  congrArg (Option.any fun x : Waypoint => decide (x.station ≤ h)) (consume_getLast? h l)

theorem highWaterChanged_pt (s : State) :
    (highWaterChanged s).pt = { s.pt with
      list := consume s.pcu.high s.pt.list
      windows := (judgeWindows s).pt.windows
      armed := s.pt.armed && !planEnded s.pcu.high s.pt.list } := by
  simp only [highWaterChanged, judgePlanLow_pt, judgePlanEnd_pt, judgeWindows_pt, judgeWindows_pcu, State.mapPt_pt,
    State.mapPt_pcu, planEnded_consume]

theorem highWaterChanged_settles {s : State} (ho : PlanOrdered s.pt.list) :
    PlanSettledAt s.pcu.high s.pt (highWaterChanged s).pt := by
  rw [highWaterChanged_pt]
  refine ⟨consume_eq ho, fun i hi => ⟨fun hw => ?_, fun hw => ?_⟩, fun ha => ?_, fun x hx => ?_⟩
  · exact (judgeWindows_get hi s).trans (by rw [judgeWindow_invalid hw])
  · exact (judgeWindows_get hi s).trans (judgeWindow_valid hw _)
  · rw [ha, Bool.false_and]
  · dsimp only
    rw [planEnded, hx, Option.any_some, ← decide_not, decide_eq_decide.2 Nat.not_le]

/-- The judgement of PLAN_LOW touches no other source. -/
theorem judgePlanLow_source {e : EventSrc} (h : e.id ≠ 7) (s : State) : SourceStands e s (judgePlanLow s) :=
  setCond_source (f := .planLow) h _ s

theorem highWaterChanged_events {s : State} (ho : PlanOrdered s.pt.list) :
    PlanEventsAt s.pcu.high s (highWaterChanged s) := by
  let consumed := s.mapPt fun p => { p with list := consume s.pcu.high p.list }
  have entered : SourceStands .windowEntered (judgeWindows consumed) (highWaterChanged s) :=
    (judgePlanEnd_source (by decide) _).trans (judgePlanLow_source (by decide) _)
  have passed : SourceStands .windowPassed (judgeWindows consumed) (highWaterChanged s) :=
    (judgePlanEnd_source (by decide) _).trans (judgePlanLow_source (by decide) _)
  have ended : SourceStands .planEnd (judgePlanEnd (judgeWindows consumed)) (highWaterChanged s) :=
    judgePlanLow_source (by decide) _
  have windows : SourceStands .planEnd s (judgeWindows consumed) :=
    (judgeWindows_source (by decide) (by decide) consumed).after
  refine ⟨?_, ?_, ?_, ?_⟩
  · rw [entered.waits, judgeWindows_entered]
    rfl
  · rw [passed.waits, judgeWindows_passed]
    rfl
  · rw [ended.waits, judgePlanEnd_planEnd, windows.waits, windows.enable, judgeWindows_pt, judgeWindows_pcu]
    dsimp only
    rw [show planEnded consumed.pcu.high consumed.pt.list = _ from planEnded_consume _ _]
    rfl
  · unfold highWaterChanged judgePlanLow
    rw [setCond_condition_self]
    simp only [judgePlanEnd_pt, judgeWindows_pt, judgePlanEnd_pcu, judgeWindows_pcu, judgePlanEnd_cfg,
      judgeWindows_cfg, State.mapPt_pt, State.mapPt_pcu, State.mapPt_cfg, countAhead, consume_ahead ho]

/-- What leaves the four sources of the PT alone leaves what a new h has done to them. -/
theorem PlanEventsAt.after {h : Nat} {s t u : State} (k : PlanEventsAt h s t)
    (stands : ∀ e : EventSrc, e.id < 21 → SourceStands e t u) : PlanEventsAt h s u := by
  unfold PlanEventsAt
  rw [(stands _ (by decide)).waits, (stands _ (by decide)).waits, (stands _ (by decide)).waits,
    (stands .planLow (by decide)).cond]
  exact k

/-! ### The ramp of an advance (R81 to R83) -/

theorem limitSetpoint_eq (maxDepth : Nat) (x : Int) :
    limitSetpoint maxDepth x = max (-500) (min (maxDepth : Int) x) :=
  clamp_eq (a := Config.minSetpoint) (by unfold Config.minSetpoint; omega) x

section
variable {maxDepth slope delta : Nat} {goal : Int} {l : Loop}

/-- R81: the target lies within the allowance. -/
theorem rampSide_arrives (h : (goal - l.sp).natAbs ≤ (l.acc + slope * delta) / 1000) :
    rampSide maxDepth slope delta goal l = { l with sp := max (-500) (min (maxDepth : Int) goal), acc := 0 } := by
  rw [← limitSetpoint_eq]
  exact if_pos h

/-- R81: the target lies further away than the allowance; the rest of the accumulator stays. -/
theorem rampSide_moves (h : (l.acc + slope * delta) / 1000 < (goal - l.sp).natAbs) :
    rampSide maxDepth slope delta goal l =
      { l with sp := max (-500) (min (maxDepth : Int) (moveToward goal ((l.acc + slope * delta) / 1000) l.sp)),
               acc := (l.acc + slope * delta) % 1000 } := by
  have rest : l.acc + slope * delta - 1000 * ((l.acc + slope * delta) / 1000) = (l.acc + slope * delta) % 1000 := by
    omega
  rw [← limitSetpoint_eq, ← rest]
  exact if_neg (Nat.not_le.2 h)

/-- R81: the ramp of one side, as the target lies within the allowance, further up or further down. -/
theorem rampSide_ramps :
    let a := l.acc + slope * delta
    let held (x : Int) : Int := max (-500) (min (maxDepth : Int) x)
    let new := rampSide maxDepth slope delta goal l
    ((goal - l.sp).natAbs ≤ a / 1000 → new = { l with sp := held goal, acc := 0 }) ∧
    (a / 1000 < (goal - l.sp).natAbs →
      (l.sp < goal → new = { l with sp := held (l.sp + (a / 1000 : Nat)), acc := a % 1000 }) ∧
      (goal < l.sp → new = { l with sp := held (l.sp - (a / 1000 : Nat)), acc := a % 1000 })) := by
  refine ⟨rampSide_arrives, fun h => ⟨fun hup => ?_, fun hdown => ?_⟩⟩
  · dsimp only
    rw [rampSide_moves h, moveToward_up h hup]
  · dsimp only
    rw [rampSide_moves h, moveToward_down h hdown]

end

theorem rampSides_idle {delta : Nat} {s : State} (h : s.csc.state ≠ .cutting ∨ targets s = none) :
    rampSides delta s = s := by
  unfold rampSides
  split
  · rename_i hc ht
    exact h.elim (absurd hc) fun hn => absurd (ht.symm.trans hn) (by simp)
  · rfl

theorem rampSides_cutting {delta : Nat} {s : State} {goal : Sides Int} (hc : s.csc.state = .cutting)
    (ht : targets s = some goal) : (rampSides delta s).dlu =
      ⟨rampSide s.cfg.plan.maxDepth (activeSlope s) delta goal.left s.dlu.left,
       rampSide s.cfg.plan.maxDepth (activeSlope s) delta goal.right s.dlu.right⟩ := by
  unfold rampSides
  rw [hc, ht]
  rfl

/-! ### The advance (R29, R103) -/

theorem targets_congr {s t : State} (hcfg : t.cfg = s.cfg) (hpcu : t.pcu = s.pcu) (hpt : t.pt = s.pt) :
    targets t = targets s := by
  simp only [targets, hcfg, hpcu, hpt]

theorem activeSlope_congr {s t : State} (hcfg : t.cfg = s.cfg) (hpcu : t.pcu = s.pcu) (hpt : t.pt = s.pt) :
    activeSlope t = activeSlope s := by
  simp only [activeSlope, hcfg, hpcu, hpt]

theorem rampSides_dlu_congr {delta : Nat} {s t : State} (hcfg : t.cfg = s.cfg) (hpcu : t.pcu = s.pcu)
    (hpt : t.pt = s.pt) (hdlu : t.dlu = s.dlu) (hcsc : t.csc = s.csc) :
    (rampSides delta t).dlu = (rampSides delta s).dlu := by
  unfold rampSides
  rw [targets_congr hcfg hpcu hpt, activeSlope_congr hcfg hpcu hpt, hcsc, hcfg]
  split
  · rw [State.mapDlu_dlu, State.mapDlu_dlu, hdlu]
  · exact hdlu

section
variable (rampFirst : Bool) (delta : Nat) (s : State)

theorem advance_pt : (advance rampFirst delta s).pt = (highWaterChanged s).pt := by
  cases rampFirst <;> simp [advance]

/-- R103: the intake reaches nothing that the ramp reads. -/
theorem advance_dlu : (advance rampFirst delta s).dlu = (rampSides delta (highWaterChanged s)).dlu := by
  cases rampFirst
  · exact rampSides_dlu_congr (intake_cfg _ _) (intake_pcu _ _) (intake_pt _ _) (intake_dlu _ _) (intake_csc _ _)
  · exact intake_dlu _ _

theorem advance_source {e : EventSrc} (h : e.id < 21) :
    SourceStands e (highWaterChanged s) (advance rampFirst delta s) := by
  cases rampFirst
  · exact (intake_source h _ _).trans (.of_events (congrArg Li.events (rampSides_li _ _)))
  · exact (SourceStands.of_events (congrArg Li.events (rampSides_li _ _))).trans (intake_source h _ _)

end

/-- R29, R103: what an advance over new ground leaves of the part that it finds at the new h. -/
structure Advanced (delta : Nat) (x t : State) : Prop extends AdvanceFrame x t where
  pt : t.pt = (highWaterChanged x).pt
  dlu : t.dlu = (rampSides delta (highWaterChanged x)).dlu
  events : ∀ e : EventSrc, e.id < 21 → SourceStands e (highWaterChanged x) t

theorem advance_advanced (rampFirst : Bool) (delta : Nat) (x : State) :
    Advanced delta x (arbitrate (advance rampFirst delta x)) where
  toAdvanceFrame := (advance_frame rampFirst delta x).arbitrate
  pt := by rw [arbitrate_pt, advance_pt]
  dlu := by rw [arbitrate_dlu, advance_dlu]
  events e he := (advance_source rampFirst delta x he).trans (.of_events (arbitrate_events _))

section
variable {delta : Nat} {x t : State} (h : Advanced delta x t)
include h

theorem Advanced.targets : targets t = targets (highWaterChanged x) :=
  targets_congr (h.cfg.trans (highWaterChanged_cfg x).symm) (h.pcu.trans (highWaterChanged_pcu x).symm) h.pt

theorem Advanced.activeSlope : activeSlope t = activeSlope (highWaterChanged x) :=
  activeSlope_congr (h.cfg.trans (highWaterChanged_cfg x).symm) (h.pcu.trans (highWaterChanged_pcu x).symm) h.pt

/-- R81: in CUTTING both sides ramp toward the target at the new h. -/
theorem Advanced.ramps {goal : Sides Int} (hc : x.csc.state = .cutting) (ht : Machine.targets t = some goal) :
    t.dlu = ⟨rampSide x.cfg.plan.maxDepth (Machine.activeSlope t) delta goal.left x.dlu.left,
             rampSide x.cfg.plan.maxDepth (Machine.activeSlope t) delta goal.right x.dlu.right⟩ := by
  rw [h.dlu, rampSides_cutting (by rw [highWaterChanged_csc, hc]) (h.targets.symm.trans ht), highWaterChanged_cfg,
    highWaterChanged_dlu, h.activeSlope]

/-- R82, R83: outside CUTTING and without a target the setpoints stay. -/
theorem Advanced.idles (hi : x.csc.state ≠ .cutting ∨ Machine.targets t = none) : t.dlu = x.dlu := by
  rw [h.dlu, rampSides_idle (hi.imp (by rw [highWaterChanged_csc]; exact id) h.targets.symm.trans),
    highWaterChanged_dlu]

end

/-- R29: a counted TRAVEL event that raises h hands on an advance from the new station. -/
theorem countedTravel_advanced {dirHigh rampFirst : Bool} {s t : State} (hs : s.pins.resetHeld = false)
    (run : exec (.countedTravelEvent dirHigh rampFirst) s = .next t) (hup : s.pcu.high < t.pcu.high) :
    Advanced ((pcuTravel dirHigh s).pcu.station - s.pcu.high)
      ((pcuTravel dirHigh s).mapPcu fun p => { p with high := p.station }) t := by
  rw [exec_countedTravelEvent dirHigh rampFirst hs, Host.Outcome.next.injEq] at run
  have ahead : s.pcu.high < (pcuTravel dirHigh s).pcu.station := by
    rw [← run, arbitrate_pcu, countedTravel_pcu] at hup
    exact (lt_max_iff.1 hup).resolve_left (lt_irrefl _)
  have handed : countedTravel dirHigh rampFirst s = advance rampFirst _ _ := if_pos ahead
  rw [← run, handed]
  exact advance_advanced _ _ _

/-- Settles O21: the event hands on an advance, whose blocks each work on the plan at the new h. -/
theorem advanceMovesPlanAndRamp : Obligations.AdvanceMovesPlanAndRamp := by
  intro dirHigh rampFirst s t hs run hup ho
  have advanced := countedTravel_advanced hs run hup
  let x := (pcuTravel dirHigh s).mapPcu fun p => { p with high := p.station }
  have high : t.pcu.high = x.pcu.high := congrArg Pcu.high advanced.pcu
  refine ⟨?_, ?_, ?_, fun goal hc ht => ?_, advanced.idles⟩
  · rw [advanced.pcu]
    rfl
  · rw [advanced.pt, high]
    exact highWaterChanged_settles (s := x) ho
  · rw [high]
    exact (highWaterChanged_events (s := x) ho).after advanced.events
  · rw [advanced.ramps hc ht, high]
    exact ⟨rampSide_ramps, rampSide_ramps⟩

end Sys2Proof.Machine

namespace Sys2Proof.Machine

/-! ### The cap of the windows on a target (R65) -/

/-- R65: the window is valid and its span, start − lead to start + length, holds h. -/
def Window.Holds (h : Nat) (w : Window) : Prop := w.valid = true ∧ w.start ≤ h + w.lead ∧ h < w.start + w.length

theorem Window.cap_outside {h : Nat} {w : Window} (hw : ¬w.Holds h) (t : Int) : w.cap h t = t := by
  refine if_neg fun hc => hw ?_
  simpa [Window.Holds, Window.begun, Window.ended, and_assoc] using hc

theorem Window.cap_inside {h : Nat} {w : Window} (hw : w.Holds h) (t : Int) : w.cap h t = min t (w.lift : Int) := by
  refine if_pos ?_
  simpa [Window.Holds, Window.begun, Window.ended, and_assoc] using hw

/-- Spans that hold the same h overlap (R65, R68). -/
theorem Window.Holds.overlaps {h : Nat} {v w : Window} (hv : v.Holds h) (hw : w.Holds h) : v.overlaps w = true := by
  obtain ⟨-, hv1, hv2⟩ := hv
  obtain ⟨-, hw1, hw2⟩ := hw
  simp only [Window.overlaps, Bool.and_eq_true, decide_eq_true_eq]
  omega

theorem foldl_cap_outside {h : Nat} {l : List Window} (hl : ∀ w ∈ l, ¬w.Holds h) (d : Int) :
    l.foldl (Window.cap h) d = d := by
  induction l with
  | nil => rfl
  | cons x rest ih =>
    obtain ⟨hx, hrest⟩ := List.forall_mem_cons.1 hl
    rw [List.foldl_cons, Window.cap_outside hx, ih hrest]

/-- R65: of windows that do not overlap the one whose span holds h caps the value alone. -/
theorem foldl_cap_inside {h : Nat} {l : List Window} {w : Window}
    (apart : l.Pairwise fun a b => ¬(a.valid = true ∧ b.valid = true ∧ a.overlaps b = true)) (hl : w ∈ l)
    (hw : w.Holds h) (d : Int) : l.foldl (Window.cap h) d = min (w.lift : Int) d := by
  induction l generalizing d with
  | nil => exact absurd hl List.not_mem_nil
  | cons x rest ih =>
    obtain ⟨hx, hrest⟩ := List.pairwise_cons.1 apart
    rw [List.foldl_cons]
    rcases List.mem_cons.1 hl with rfl | hmem
    · rw [Window.cap_inside hw, foldl_cap_outside fun y hy k => hx y hy ⟨hw.1, k.1, hw.overlaps k⟩, min_comm]
    · rw [Window.cap_outside fun k => hx w hmem ⟨k.1, hw.1, k.overlaps hw⟩, ih hrest hmem]

/-- R65: a value limited, outside every window and inside one. -/
theorem limitTarget_limits {h maxDepth : Nat} {ws : Windows} (apart : WindowsApart ws) (d : Int) :
    ((∀ w ∈ ws.all, ¬w.Holds h) → limitTarget maxDepth h ws d = max 0 (min (maxDepth : Int) d)) ∧
    (∀ w ∈ ws.all, w.Holds h → limitTarget maxDepth h ws d = min (w.lift : Int) (max 0 (min (maxDepth : Int) d))) := by
  unfold limitTarget
  rw [clamp_eq (Int.natCast_nonneg _)]
  exact ⟨fun hw => foldl_cap_outside hw _, fun w hl hw => foldl_cap_inside apart hl hw _⟩

/-! ### The value of the plan at h (R61 to R64, R66) -/

theorem rightDepth_eq (mode : SideMode) (width : Nat) (left right : Int) :
    rightDepth mode width left right = if mode = .depth then right else left + right * (width : Int) / 1000 := by
  cases mode <;> rfl

/-- R54: the last waypoint is the furthest. -/
theorem PlanOrdered.le_last {l : List Waypoint} {a x : Waypoint} (ho : PlanOrdered l) (ha : l.getLast? = some a)
    (hx : x ∈ l) : x.station ≤ a.station := by
  obtain ⟨front, rfl⟩ := List.getLast?_eq_some_iff.1 ha
  rcases List.mem_append.1 hx with hf | hl
  · exact ((List.pairwise_append.1 ho.2).2.2 x hf a List.mem_cons_self).le
  · rw [List.mem_singleton.1 hl]

/-- R74: a waypoint ahead of h keeps the plan from its end. -/
theorem PlanOrdered.unended {h : Nat} {l : List Waypoint} {x : Waypoint} (ho : PlanOrdered l) (hx : x ∈ l)
    (ahead : h < x.station) : planEnded h l = false := by
  unfold planEnded
  cases hl : l.getLast? with
  | none => rfl
  | some a => simpa using ahead.trans_le (ho.le_last hl hx)

section
variable {h : Nat} {a b : Waypoint} {rest l : List Waypoint}

theorem planValues_before (ha : h < a.station) : planValues h (a :: rest) = some a.values := by
  have position : planPosition h (a :: rest) = .before := if_pos ha
  unfold planValues
  rw [position]

theorem planValues_between (ho : PlanOrdered (a :: b :: rest)) (ha : a.station ≤ h) (hb : h < b.station) :
    planValues h (a :: b :: rest) =
      some ⟨interpolate (a.left : Int) (b.left : Int) a.station b.station h,
            interpolate a.right b.right a.station b.station h⟩ := by
  have unended : planEnded h (a :: b :: rest) = false := ho.unended (List.mem_cons_of_mem _ List.mem_cons_self) hb
  have position : planPosition h (a :: b :: rest) = .between := by
    rw [planPosition, if_neg (Nat.not_lt.2 ha), lastStation_any, unended]
    rfl
  unfold planValues
  rw [position]

theorem planValues_past (ho : PlanOrdered l) (hl : l.getLast? = some a) (ha : a.station ≤ h) :
    planValues h l = some a.values := by
  cases l with
  | nil => simp at hl
  | cons w rest =>
    have ended : planEnded h (w :: rest) = true := by simp [planEnded, hl, ha]
    have position : planPosition h (w :: rest) = .past := by
      rw [planPosition, if_neg (Nat.not_lt.2 ((ho.le_last hl List.mem_cons_self).trans ha)), lastStation_any, ended]
      rfl
    unfold planValues
    rw [position]
    simp only [hl, Option.map_some]

end

/-- R61, R64, R65: the targets from the values of the plan. -/
theorem targets_of_values {s : State} {v : Sides Int} (hv : planValues s.pcu.high s.pt.list = some v) :
    targets s = some
      ⟨limitTarget s.cfg.plan.maxDepth s.pcu.high s.pt.windows v.left,
       limitTarget s.cfg.plan.maxDepth s.pcu.high s.pt.windows
         (if s.cfg.side.right.mode = .depth then v.right
          else v.left + v.right * (s.cfg.limits.width : Int) / 1000)⟩ := by
  rw [targets, hv, Option.map_some, rightDepth_eq]

/-- R66: the ramp slope of the waypoint that comes next. -/
theorem activeSlope_next {s : State} {w : Waypoint}
    (h : (s.pt.list.find? fun x => decide (s.pcu.high < x.station)) = some w) :
    activeSlope s = w.ramp.getD s.cfg.plan.maxSlope := by
  rw [activeSlope, h]

theorem activeSlope_none {s : State} (h : ∀ x ∈ s.pt.list, x.station ≤ s.pcu.high) :
    activeSlope s = s.cfg.plan.maxSlope := by
  have none : (s.pt.list.find? fun x => decide (s.pcu.high < x.station)) = none :=
    List.find?_eq_none.2 fun x hx => by simpa using h x hx
  rw [activeSlope, none]

/-- Settles O22: the place of h in the plan gives the values, and the windows cap each of them. -/
theorem targetFollowsPlan : Obligations.TargetFollowsPlan := by
  intro s ho apart
  have limits := limitTarget_limits (h := s.pcu.high) (maxDepth := s.cfg.plan.maxDepth) apart
  refine ⟨fun hnil => ⟨?_, activeSlope_none (by simp [hnil])⟩,
    fun a rest hl ha => ⟨⟨_, targets_of_values (v := a.values) ?_, limits _, limits _⟩, activeSlope_next ?_⟩,
    fun a b rest hl ha hb => ⟨⟨_, targets_of_values (v := ⟨_, _⟩) ?_, limits _, limits _⟩, activeSlope_next ?_⟩,
    fun a hl ha => ⟨⟨_, targets_of_values (planValues_past ho hl ha), limits _, limits _⟩,
      activeSlope_none fun x hx => (ho.le_last hl hx).trans ha⟩⟩
  · rw [targets, hnil]
    rfl
  · rw [hl]
    exact planValues_before ha
  · rw [hl, List.find?_cons_of_pos (by simpa using ha)]
  · rw [hl] at ho ⊢
    exact planValues_between ho ha hb
  · rw [hl, List.find?_cons_of_neg (by simpa using ha), List.find?_cons_of_pos (by simpa using hb)]

end Sys2Proof.Machine

namespace Sys2Proof.Machine

/-! ### The PLAN record (R73, R76, R78) -/

/-- Section 4.7: the fields of the PLAN record in range. -/
structure PlanRec.InRange (r : PlanRec) : Prop where
  maxSlope : 1 ≤ r.maxSlope ∧ r.maxSlope ≤ 500
  engageRate : 1 ≤ r.engageRate ∧ r.engageRate ≤ 20
  liftRate : 1 ≤ r.liftRate ∧ r.liftRate ≤ 30
  clearance : r.clearance ≤ 500
  maxDepth : r.maxDepth ≤ 3500
  lowMark : r.lowMark ≤ 32
  timeLimit : 1 ≤ r.timeLimit ∧ r.timeLimit ≤ 60

/-- Section 4.7: the fields of the PLAN record in field order, the index 0 first. -/
def planFields (r : PlanRec) : List Nat :=
  [0, r.maxSlope, r.engageRate, r.liftRate, r.clearance, r.maxDepth, r.lowMark, r.timeLimit]

/-- R76: the bytes of a PLAN record in range; no field of it is structural. -/
theorem setPlan_good {r : PlanRec} (h : r.InRange) (s : State) :
    setPlan ((planFields r).flatMap (le 2)) s = (writePlan r s, replyOk []) := by
  obtain ⟨hslope, hengage, hlift, hclear, hdepth, hlow, htime⟩ := h
  have small : ∀ v ∈ planFields r, v < 65536 := by
    simp only [planFields, List.forall_mem_cons, List.not_mem_nil, false_implies, implies_true, and_true]
    omega
  have fields : readFields (List.replicate 8 false) ((planFields r).flatMap (le 2)) = (planFields r).map Int.ofNat :=
    readFields_naturals small
  unfold setPlan
  rw [fields]
  simp only [planFields, List.map_cons, List.map_nil, Int.ofNat_eq_natCast]
  rw [writeRecord_good]
  · simp only [Int.toNat_natCast, Bool.false_eq_true, and_false, if_false]
  · simp only [List.forall_mem_cons, within_eq_true, List.not_mem_nil, false_implies, implies_true, and_true]
    omega

/-- R73, R76, R78: the record, both setpoints limited to its max depth, and PLAN_LOW. -/
theorem writePlan_eq (r : PlanRec) (s : State) :
    writePlan r s = setCond .planLow
      (decide ((s.pt.list.filter fun x => decide (s.pcu.high < x.station)).length < r.lowMark))
      { s with cfg := { s.cfg with plan := r },
               dlu := ⟨s.dlu.left.limitDepth r.maxDepth, s.dlu.right.limitDepth r.maxDepth⟩ } := rfl

/-! ### The PULSE record (R36) -/

/-- Section 2.6: the direction polarity of an option, which is TRAVEL's alone. -/
def polarityOf (i : PulseInput) (opt : Nat) (old : DirPolarity) : DirPolarity :=
  if i = .travel then (if opt = 0 then .highForward else .lowForward) else old

theorem DirPolarity.ofField_code (opt : Nat) :
    DirPolarity.ofField opt = if opt = 0 then .highForward else .lowForward := by
  simp [DirPolarity.ofField]

theorem polarity_differs_iff (i : PulseInput) (opt : Nat) (old : DirPolarity) :
    (i = .travel ∧ old ≠ DirPolarity.ofField opt) ↔ polarityOf i opt old ≠ old := by
  rw [DirPolarity.ofField_code, polarityOf]
  by_cases h : i = .travel
  · simp [h, eq_comm]
  · simp [h]

/-- R36: the bytes of a PULSE record in range. -/
theorem setPulse_good {i : PulseInput} {r : PulseRec} {number edge opt : Nat} (hnumber : number ≤ 2)
    (hi : PulseInput.ofField number = i) (hedge : edge ≤ 2) (he : EdgeSelect.ofField edge = r.edge)
    (hprescale : goodPrescale r.prescale = true) (hscale : goodScale i r.scale = true)
    (hopt : goodOption i opt = true) (s : State) :
    setPulse ([number, edge, r.prescale, r.scale, opt].flatMap (le 2)) s =
      if s.csc.state ≠ .config ∧ ((s.cfg.pulse.get i).scale ≠ r.scale ∨
          polarityOf i opt s.cfg.dirPolarity ≠ s.cfg.dirPolarity) then (s, replyMode)
      else (writePulse i r opt s, replyOk []) := by
  have prescale_small : r.prescale ≤ 256 := by
    simp [goodPrescale] at hprescale
    omega
  have scale_small : r.scale ≤ 20000 := by
    cases i <;> simp [goodScale] at hscale <;> omega
  have opt_small : opt ≤ 200 := by
    cases i <;> simp [goodOption] at hopt <;> omega
  have fields : readFields (List.replicate 5 false) ([number, edge, r.prescale, r.scale, opt].flatMap (le 2)) =
      [number, edge, r.prescale, r.scale, opt].map Int.ofNat := by
    refine readFields_naturals (vs := [number, edge, r.prescale, r.scale, opt]) ?_
    simp only [List.forall_mem_cons, List.not_mem_nil, false_implies, implies_true, and_true]
    omega
  unfold setPulse
  rw [fields]
  simp only [List.map_cons, List.map_nil, Int.ofNat_eq_natCast]
  rw [hi, he, writeRecord_good]
  · simp only [Int.toNat_natCast, Bool.or_eq_true, bne_iff_ne, Bool.and_eq_true, beq_iff_eq,
      polarity_differs_iff]
  · simp only [List.forall_mem_cons, within_eq_true, hprescale, hscale, hopt, List.not_mem_nil, false_implies,
      implies_true, and_true]
    omega

theorem writeOption_eq (i : PulseInput) (opt : Nat) (c : Records) :
    writeOption i opt c = { c with dirPolarity := polarityOf i opt c.dirPolarity
                                   drumMin := if i = .drum then opt else c.drumMin } := by
  cases i
  · simp [writeOption, polarityOf, DirPolarity.ofField_code]
  · rfl
  · rfl

/-- R36: a record differs where one of its fields does. -/
theorem PulseRec.differs_iff (p r : PulseRec) :
    (p.edge ≠ r.edge ∨ p.prescale ≠ r.prescale ∨ p.scale ≠ r.scale) ↔ p ≠ r := by
  cases p
  cases r
  simp only [ne_eq, PulseRec.mk.injEq]
  tauto

/-- R36: the PCU after the write: the count and the remainder that the rule returns to 0. -/
def pulsePcu (i : PulseInput) (old r : PulseRec) (p : Pcu) : Pcu :=
  { p with count := if old = r then p.count else p.count.set i 0
           travelRem := if i = .travel ∧ old.scale ≠ r.scale then 0 else p.travelRem
           beltRem := if i = .belt ∧ old.scale ≠ r.scale then 0 else p.beltRem }

theorem clearRemainder_eq (i : PulseInput) (p : Pcu) :
    clearRemainder i p = { p with travelRem := if i = .travel then 0 else p.travelRem
                                  beltRem := if i = .belt then 0 else p.beltRem } := by
  cases i <;> rfl

theorem writePulse_eq (i : PulseInput) (r : PulseRec) (opt : Nat) (s : State) :
    writePulse i r opt s = { s with
      cfg := { s.cfg with pulse := s.cfg.pulse.set i r
                          dirPolarity := polarityOf i opt s.cfg.dirPolarity
                          drumMin := if i = .drum then opt else s.cfg.drumMin }
      pcu := pulsePcu i (s.cfg.pulse.get i) r s.pcu } := by
  unfold writePulse pulsePcu
  simp only [PulseRec.differs_iff, writeOption_eq]
  generalize s.cfg.pulse.get i = old
  by_cases hscale : old.scale = r.scale
  · by_cases hrec : old = r
    · simp [hrec, State.mapCfg]
    · simp [hrec, hscale, State.mapCfg, State.mapPcu]
  · have hrec : old ≠ r := fun h => hscale (congrArg PulseRec.scale h)
    simp [hrec, hscale, State.mapCfg, State.mapPcu, clearRemainder_eq]

theorem goodPrescale_of {n : Nat} (h : n ∈ [1, 2, 4, 8, 16, 32, 64, 128, 256]) : goodPrescale n = true :=
  List.contains_iff_mem.2 (List.mem_map_of_mem (f := Int.ofNat) h)

/-- Section 2.6: the ranges of the scale and of the option of each input. -/
theorem goodScale_of {i : PulseInput} {scale : Nat} (hdrum : i = .drum → 1 ≤ scale ∧ scale ≤ 512)
    (hother : i ≠ .drum → 100 ≤ scale ∧ scale ≤ 20000) : goodScale i scale = true := by
  cases i
  · have := hother (by decide)
    exact (within_eq_true _ _ _).2 (by omega)
  · have := hother (by decide)
    exact (within_eq_true _ _ _).2 (by omega)
  · have := hdrum rfl
    exact (within_eq_true _ _ _).2 (by omega)

theorem goodOption_of {i : PulseInput} {opt : Nat} (hdrum : i = .drum → 10 ≤ opt ∧ opt ≤ 200)
    (htravel : i = .travel → opt ≤ 1) (hbelt : i = .belt → opt = 0) : goodOption i opt = true := by
  cases i
  · have := htravel rfl
    exact (within_eq_true _ _ _).2 (by omega)
  · have := hbelt rfl
    exact (within_eq_true _ _ _).2 (by omega)
  · have := hdrum rfl
    exact (within_eq_true _ _ _).2 (by omega)

/-- Settles O45: the bytes of each record read back as its fields, and the write goes by its structural fields. -/
theorem planAndPulseRecordsAreWritten : Obligations.PlanAndPulseRecordsAreWritten := by
  refine ⟨fun tag r s hfree hslope1 hslope500 hengage1 hengage20 hlift1 hlift30 hclear hdepth hlow htime1 htime60 => ?_,
    fun tag i r opt s hfree hprescale hdrum hother htravel hbelt => ?_⟩
  · have inRange : r.InRange := ⟨⟨hslope1, hslope500⟩, ⟨hengage1, hengage20⟩, ⟨hlift1, hlift30⟩, hclear, hdepth, hlow,
      htime1, htime60⟩
    have run := setForm_good (p := .plan) (tag := tag) (rest := (planFields r).flatMap (le 2)) rfl
      (by simp [planFields]) hfree
    rw [setPlan_good inRange, writePlan_eq] at run
    exact run
  · intro number edge
    have hnumber : number ≤ 2 ∧ PulseInput.ofField number = i := by
      simp only [number]
      cases i <;> decide
    have hedge : edge ≤ 2 ∧ EdgeSelect.ofField edge = r.edge := by
      simp only [edge]
      cases r.edge <;> decide
    clear_value number edge
    have written := setPulse_good hnumber.1 hnumber.2 hedge.1 hedge.2 (goodPrescale_of hprescale)
      (goodScale_of (fun h => ⟨(hdrum h).1, (hdrum h).2.1⟩) hother)
      (goodOption_of (fun h => (hdrum h).2.2) htravel hbelt) (heard s)
    have run := setForm_good (p := .pulse) (tag := tag)
      (rest := [number, edge, r.prescale, r.scale, opt].flatMap (le 2)) rfl (by simp) hfree
    rw [written, writePulse_eq] at run
    refine ⟨fun hs hc => ?_, fun hs => ?_⟩
    · rw [if_pos ⟨hs, hc⟩] at run
      exact run
    · rw [if_neg fun k => hs.elim k.1 fun hc => hc k.2] at run
      exact run

end Sys2Proof.Machine

namespace Sys2Proof.Machine

/-! ### Checks in order (R203) -/

section
variable {bs : List Bool} {ps : List Prop} (h : List.Forall₂ (fun b p => b = true ↔ p) bs ps)
include h

/-- No check fails where all that they stand for holds. -/
theorem firstBad_none_of_all (hp : ∀ p ∈ ps, p) (i : Nat) : firstBad i bs = none := by
  induction h generalizing i with
  | nil => rfl
  | cons hbp _ ih =>
    obtain ⟨hhead, htail⟩ := List.forall_mem_cons.1 hp
    rw [firstBad, if_pos (hbp.2 hhead), ih htail]

/-- The first check that fails is the first whose meaning does not hold. -/
theorem firstBad_some_of_first {f : Nat} {p : Prop} (hf : ps[f]? = some p) (hp : ¬p) (before : ∀ q ∈ ps.take f, q)
    (i : Nat) : firstBad i bs = some (i + f) := by
  induction h generalizing i f with
  | nil => simp at hf
  | cons hbp _ ih =>
    cases f with
    | zero =>
      obtain rfl : _ = p := by simpa using hf
      rw [firstBad, if_neg fun hb => hp (hbp.1 hb), Nat.add_zero]
    | succ f =>
      rw [List.take_succ_cons] at before
      obtain ⟨hhead, htail⟩ := List.forall_mem_cons.1 before
      rw [firstBad, if_pos (hbp.2 hhead), ih (by simpa using hf) htail, Nat.add_right_comm, Nat.add_assoc]

end

/-! ### The records of a PLAN_APPEND (R54, R56, R199) -/

/-- The ten bytes of a waypoint as PLAN_APPEND carries it. -/
def Waypoint.sent (x : Waypoint) : List Byte := le 4 x.station ++ le 2 x.left ++ leInt 2 x.right ++ le 2 (x.ramp.getD 0)

/-- A waypoint that ten bytes can carry; an override of 0 stands for an absent one. -/
structure Waypoint.Carriable (mode : SideMode) (x : Waypoint) : Prop where
  station : x.station < 2 ^ 32
  left : x.left < 65536
  ramp : x.ramp.getD 0 < 65536
  override : x.ramp ≠ some 0
  signed : mode = .slope → -32768 ≤ x.right ∧ x.right ≤ 32767
  unsigned : ¬mode = .slope → 0 ≤ x.right ∧ x.right ≤ 65535

/-- The record that the ten bytes of a waypoint spell. -/
def Waypoint.raw (x : Waypoint) : RawWaypoint :=
  { station := x.station, left := x.left, right := BitVec.ofNat 16 (x.right % 65536).toNat, ramp := x.ramp.getD 0 }

theorem Waypoint.sent_length (x : Waypoint) : x.sent.length = 10 := by simp [Waypoint.sent]

theorem sent_length (ws : List Waypoint) : (ws.flatMap Waypoint.sent).length = 10 * ws.length := by
  induction ws with
  | nil => rfl
  | cons x rest ih =>
    rw [List.flatMap_cons, List.length_append, Waypoint.sent_length, ih, List.length_cons]
    omega

theorem readWaypoints_cons {mode : SideMode} {x : Waypoint} (h : x.Carriable mode) (bytes : List Byte) :
    readWaypoints (x.sent ++ bytes) = x.raw :: readWaypoints bytes := by
  have station : x.station % 4294967296 = x.station := Nat.mod_eq_of_lt h.station
  have right : (x.right % 65536).toNat % 65536 = (x.right % 65536).toNat := by omega
  simp only [Waypoint.sent, le_four, le_two, leInt_two, List.cons_append, List.nil_append, readWaypoints, u32_le,
    u16_le, station, right, Nat.mod_eq_of_lt h.left, Nat.mod_eq_of_lt h.ramp, Waypoint.raw]

theorem readWaypoints_sent {mode : SideMode} {ws : List Waypoint} (h : ∀ x ∈ ws, x.Carriable mode) :
    readWaypoints (ws.flatMap Waypoint.sent) = ws.map Waypoint.raw := by
  induction ws with
  | nil => rfl
  | cons x rest ih =>
    obtain ⟨hx, hrest⟩ := List.forall_mem_cons.1 h
    rw [List.flatMap_cons, readWaypoints_cons hx, ih hrest, List.map_cons]

section
variable {mode : SideMode} {x : Waypoint} (h : x.Carriable mode)
include h

/-- R54: the right value reads back, signed in SLOPE mode. -/
theorem Waypoint.Carriable.rightValue : x.raw.rightValue mode = x.right := by
  cases mode
  · have := h.unsigned (by decide)
    simp only [Waypoint.raw, RawWaypoint.rightValue, BitVec.toNat_ofNat]
    omega
  · have := h.signed rfl
    simp only [Waypoint.raw, RawWaypoint.rightValue, BitVec.toInt_eq_toNat_cond, BitVec.toNat_ofNat]
    split <;> omega

theorem Waypoint.Carriable.toWaypoint : x.raw.toWaypoint mode = x := by
  obtain ⟨station, left, right, ramp⟩ := x
  unfold RawWaypoint.toWaypoint
  rw [h.rightValue]
  cases ramp with
  | none => rfl
  | some n =>
    have hn : n ≠ 0 := fun k => h.override (congrArg some k)
    simp [Waypoint.raw, hn]

end

/-- R54, R56: the range checks of a record, in order. -/
def Waypoint.ranges (mode : SideMode) (x : Waypoint) : List Prop :=
  [x.station ≤ 50000000, x.left ≤ 3500,
   (mode = .slope → -1000 ≤ x.right ∧ x.right ≤ 1000) ∧ (¬mode = .slope → x.right ≤ 3500), x.ramp.getD 0 ≤ 500]

theorem Waypoint.Carriable.checks {mode : SideMode} {x : Waypoint} (h : x.Carriable mode) :
    List.Forall₂ (fun b p => b = true ↔ p) (x.raw.checks mode) (x.ranges mode) := by
  have right : goodRight mode x.right = true ↔
      (mode = .slope → -1000 ≤ x.right ∧ x.right ≤ 1000) ∧ (¬mode = .slope → x.right ≤ 3500) := by
    cases mode
    · have := h.unsigned (by decide)
      simp [goodRight, this.1]
    · simp [goodRight]
  unfold RawWaypoint.checks Waypoint.ranges
  rw [h.rightValue]
  exact .cons decide_eq_true_iff (.cons decide_eq_true_iff (.cons right (.cons decide_eq_true_iff .nil)))

/-! ### The records judged one after another (R56, R57) -/

section
variable (mode : SideMode) (high : Nat) (list : List Waypoint)

/-- R56: the record lies ahead of h and of the waypoint before it. -/
def Ordered (before : List Waypoint) (x : Waypoint) : Prop :=
  high < x.station ∧ ∀ y, (list ++ before).getLast? = some y → y.station < x.station

/-- R56: the list holds the record too. -/
def Fits (before : List Waypoint) : Prop := list.length + before.length + 1 ≤ 128

/-- R56: a record after others passes every check. -/
def Passes (before : List Waypoint) (x : Waypoint) : Prop :=
  (∀ p ∈ x.ranges mode, p) ∧ Ordered high list before x ∧ Fits list before

/-- Each record passes after those before it. -/
def AllPass (ws : List Waypoint) : Prop :=
  ∀ front x rest, ws = front ++ x :: rest → Passes mode high list front x

/-- The check of the records that come after others. -/
def checkAfter (before rest : List Waypoint) : Option Reply :=
  checkAppend mode high list.length before.length (lastStation (list ++ before)) (rest.map Waypoint.raw)

variable {mode high list} {before rest : List Waypoint} {x : Waypoint} (hx : x.Carriable mode)

theorem ordered_iff : Ordered high list before x ↔ ¬(x.station ≤ high ∨
    ((lastStation (list ++ before)).any fun z => decide (x.station ≤ z)) = true) := by
  unfold Ordered lastStation
  rw [not_or, Nat.not_le, Option.any_map]
  cases (list ++ before).getLast? <;> simp

include hx

theorem checkAfter_field {f : Nat} {p : Prop} (hf : (x.ranges mode)[f]? = some p) (hp : ¬p)
    (earlier : ∀ q ∈ (x.ranges mode).take f, q) :
    checkAfter mode high list before (x :: rest) = some (replyField (4 * before.length + f)) := by
  rw [checkAfter, List.map_cons, checkAppend, firstBad_some_of_first hx.checks hf hp earlier]
  simp only [Nat.zero_add]

theorem checkAfter_inRange (hr : ∀ p ∈ x.ranges mode, p) :
    checkAfter mode high list before (x :: rest) =
      if x.station ≤ high ∨ ((lastStation (list ++ before)).any fun z => decide (x.station ≤ z)) = true then
        some (replyOrder before.length)
      else if 128 < list.length + before.length + 1 then some (replyFull before.length)
      else checkAppend mode high list.length (before.length + 1) (some x.station) (rest.map Waypoint.raw) := by
  rw [checkAfter, List.map_cons, checkAppend, firstBad_none_of_all hx.checks hr]
  rfl

theorem checkAfter_order (hr : ∀ p ∈ x.ranges mode, p) (ho : ¬Ordered high list before x) :
    checkAfter mode high list before (x :: rest) = some (replyOrder before.length) := by
  rw [checkAfter_inRange hx hr, if_pos (not_not.1 (mt ordered_iff.2 ho))]

theorem checkAfter_full (hr : ∀ p ∈ x.ranges mode, p) (ho : Ordered high list before x) (hf : ¬Fits list before) :
    checkAfter mode high list before (x :: rest) = some (replyFull before.length) := by
  rw [checkAfter_inRange hx hr, if_neg (ordered_iff.1 ho), if_pos (Nat.not_le.1 hf)]

theorem checkAfter_next (h : Passes mode high list before x) :
    checkAfter mode high list before (x :: rest) = checkAfter mode high list (before ++ [x]) rest := by
  obtain ⟨hr, ho, hf⟩ := h
  have last : lastStation (list ++ (before ++ [x])) = some x.station := by
    rw [lastStation, ← List.append_assoc, List.getLast?_concat]
    rfl
  rw [checkAfter_inRange hx hr, if_neg (ordered_iff.1 ho), if_neg (Nat.not_lt.2 hf), checkAfter, last,
    List.length_append, List.length_singleton]

end

section
variable {mode : SideMode} {high : Nat} {list ws before rest : List Waypoint}

theorem AllPass.front (h : AllPass mode high list (before ++ rest)) : AllPass mode high list before :=
  fun front x mid hw => h front x (mid ++ rest) (by rw [hw, List.append_assoc, List.cons_append])

/-- R57: records that pass are no reason to refuse; the check goes on with those after them. -/
theorem checkAfter_passed (hc : ∀ x ∈ before, x.Carriable mode) (h : AllPass mode high list before) :
    checkAfter mode high list [] (before ++ rest) = checkAfter mode high list before rest := by
  induction before using List.reverseRecOn generalizing rest with
  | nil => rfl
  | append_singleton front x ih =>
    obtain ⟨hfront, hx⟩ := List.forall_mem_append.1 hc
    rw [List.append_assoc, List.singleton_append, ih hfront h.front,
      checkAfter_next (hx x List.mem_cons_self) (h front x [] rfl)]

/-- R56: PLAN_APPEND of records read back. -/
theorem planAppend_refused {s : State} {r : Reply} (hc : ∀ x ∈ ws, x.Carriable s.cfg.side.right.mode)
    (h : checkAfter s.cfg.side.right.mode s.pcu.high s.pt.list [] ws = some r) :
    planAppend (ws.flatMap Waypoint.sent) s = (s, r) := by
  rw [checkAfter, List.append_nil, List.length_nil] at h
  unfold planAppend
  rw [readWaypoints_sent hc]
  dsimp only
  rw [h]

/-- R57: with no reason to refuse one of them all records join the list. -/
theorem planAppend_joins {s : State} (hc : ∀ x ∈ ws, x.Carriable s.cfg.side.right.mode)
    (h : AllPass s.cfg.side.right.mode s.pcu.high s.pt.list ws) :
    planAppend (ws.flatMap Waypoint.sent) s =
      (judgePlanLow { s with pt := { s.pt with list := s.pt.list ++ ws, armed := true } }, replyOk []) := by
  have passed := checkAfter_passed (rest := []) hc h
  rw [List.append_nil] at passed
  have none : checkAppend s.cfg.side.right.mode s.pcu.high s.pt.list.length 0 (lastStation s.pt.list)
      (ws.map Waypoint.raw) = none := by
    rw [checkAfter, List.append_nil, List.length_nil] at passed
    exact passed.trans rfl
  have same : (ws.map Waypoint.raw).map (RawWaypoint.toWaypoint s.cfg.side.right.mode) = ws := by
    rw [List.map_map]
    exact (List.map_congr_left fun x hx => (hc x hx).toWaypoint).trans (List.map_id ws)
  unfold planAppend
  rw [readWaypoints_sent hc]
  dsimp only
  rw [none, same]
  rfl

end

/-- R198: PLAN_APPEND of one to six whole records. -/
theorem planAppend_answered {ws : List Waypoint} (hne : ws ≠ []) (hsix : ws.length ≤ 6) (tag : Byte) {s : State}
    (h : Free s) :
    exec (.planAppend tag (ws.flatMap Waypoint.sent)) s =
      .next (answered 0x20#8 tag (planAppend (ws.flatMap Waypoint.sent) (heard s)).2
        (planAppend (ws.flatMap Waypoint.sent) (heard s)).1) := by
  have form : (appendForm (ws.flatMap Waypoint.sent)).badForm = none := by
    have := List.length_pos_iff.2 hne
    refine if_pos ?_
    rw [sent_length]
    omega
  have run := request_answered ReqKind.planAppend.code tag (appendForm (ws.flatMap Waypoint.sent)) h.1
  rw [Request.answer_good (s := heard s) rfl form (.inl h.2)] at run
  exact run

/-! ### PLAN_CLEAR (R59) -/

theorem CutState.active_iff (c : CutState) : c.active = true ↔ c ≠ .config ∧ c ≠ .ready := by
  cases c <;> simp [CutState.active]

section
variable {s : State}

theorem planClear_stopped (hs : s.csc.state = .holdHard) (hc : s.csc.cause = some .stop) :
    planClear s = (s, replyMode) := if_pos ⟨hs, hc⟩

theorem planClear_idle (hs : s.csc.state = .config ∨ s.csc.state = .ready) :
    planClear s = (emptyPlan s, replyOk []) := by
  have idle : s.csc.state.active = false := by rcases hs with hs | hs <;> rw [hs] <;> rfl
  unfold planClear
  rw [if_neg (by rcases hs with hs | hs <;> simp [hs]), idle]
  rfl

theorem planClear_active (hs : s.csc.state.active = true) (hc : s.csc.state ≠ .holdHard ∨ s.csc.cause ≠ some .stop) :
    planClear s = (raise .planEnd (emptyPlan s), replyOk []) := by
  unfold planClear
  rw [if_neg fun k => hc.elim (· k.1) (· k.2), hs]
  rfl

end

/-- Settles O52: the records read back, each is judged after those before it, and the list is emptied by the state. -/
theorem planRequestsKeepOrder : Obligations.PlanRequestsKeepOrder := by
  intro tag s hfree
  have clear := takeRequest_good (k := .planClear) (tag := tag) (payload := []) rfl rfl hfree.1 (.inl hfree.2)
  refine ⟨fun ws hne hsix hbytes => ?_, fun hs hc => ?_, fun hs => ?_, fun hs1 hs2 hc => ?_⟩
  · have hc : ∀ x ∈ ws, x.Carriable (heard s).cfg.side.right.mode := fun x hx => by
      obtain ⟨hstation, hleft, hramp, hover, hsigned, hunsigned⟩ := hbytes x hx
      exact ⟨hstation, hleft, hramp, hover, hsigned, hunsigned⟩
    have run := planAppend_answered hne hsix tag hfree
    have refuse {before rest : List Waypoint} {r : Reply} (hw : ws = before ++ rest)
        (pass : AllPass (heard s).cfg.side.right.mode (heard s).pcu.high (heard s).pt.list before)
        (hr : (∀ x ∈ rest, x.Carriable (heard s).cfg.side.right.mode) →
          checkAfter (heard s).cfg.side.right.mode (heard s).pcu.high (heard s).pt.list before rest = some r) :
        exec (.planAppend tag (ws.flatMap Waypoint.sent)) s = .next (answered 0x20#8 tag r (heard s)) := by
      obtain ⟨hbefore, hrest⟩ := List.forall_mem_append.1 (hw ▸ hc)
      rw [run, planAppend_refused hc (by rw [hw, checkAfter_passed hbefore pass, hr hrest])]
    refine ⟨fun before x rest f p hw pass hf hp hq => refuse hw pass fun hrest => ?_,
      fun before x rest hw pass hr ho => refuse hw pass fun hrest => ?_,
      fun before x rest hw pass hr ho hfit => refuse hw pass fun hrest => ?_, fun pass => ?_⟩
    · exact checkAfter_field (hrest x List.mem_cons_self) hf hp hq
    · exact checkAfter_order (hrest x List.mem_cons_self) hr ho
    · exact checkAfter_full (hrest x List.mem_cons_self) hr ho hfit
    · rw [planAppend_joins hc pass] at run
      exact run
  · rw [planClear_stopped (s := heard s) hs hc] at clear
    exact clear
  · rw [planClear_idle (s := heard s) hs, emptyPlan_eq] at clear
    exact clear
  · rw [planClear_active (s := heard s) ((CutState.active_iff _).2 ⟨hs1, hs2⟩) hc, emptyPlan_eq] at clear
    exact clear

end Sys2Proof.Machine

namespace Sys2Proof.Machine

/-! ### WINDOW_SET and WINDOW_CLEAR (R68, R69, R72) -/

/-- R68: whether a window overlaps a valid one of another index, in the words of the rule. -/
theorem overlapsOther_iff (ws : Windows) (i : Nat) (w : Window) : overlapsOther ws i w = true ↔
    ∃ j, j < 4 ∧ j ≠ i ∧ (ws.get j).valid = true ∧ w.start < (ws.get j).start + (ws.get j).length + w.lead ∧
      (ws.get j).start < w.start + w.length + (ws.get j).lead := by
  have spans (v : Window) : v.overlaps w = true ↔
      w.start < v.start + v.length + w.lead ∧ v.start < w.start + w.length + v.lead := by
    simp only [Window.overlaps, Bool.and_eq_true, decide_eq_true_eq]
    omega
  change ((List.range 4).any fun j => j != i && (ws.get j).valid && (ws.get j).overlaps w) = true ↔ _
  simp only [List.any_eq_true, List.mem_range, Bool.and_eq_true, bne_iff_ne, spans, and_assoc]

section
variable (n : Byte) (start length lead lift : Nat)

/-- The eleven bytes of a WINDOW_SET. -/
def windowBytes : List Byte := n :: (le 4 start ++ le 2 length ++ le 2 lead ++ le 2 lift)

/-- R68: the range checks of WINDOW_SET, in order. -/
def windowRanges : List Prop :=
  [n.toNat ≤ 3, start ≤ 50000000, 100 ≤ length ∧ length ≤ 50000, lead ≤ 20000, lift ≤ 3500]

/-- The same checks as the owner makes them. -/
def windowChecks : List Bool :=
  [decide (n.toNat < 4), decide (start ≤ Config.maxStation), decide (100 ≤ length) && decide (length ≤ 50000),
   decide (lead ≤ 20000), decide (lift ≤ 3500)]

theorem windowChecks_iff : List.Forall₂ (fun b p => b = true ↔ p) (windowChecks n start length lead lift)
    (windowRanges n start length lead lift) := by
  have slot : decide (n.toNat < 4) = true ↔ n.toNat ≤ 3 := decide_eq_true_iff.trans Nat.lt_succ_iff
  have span : (decide (100 ≤ length) && decide (length ≤ 50000)) = true ↔ 100 ≤ length ∧ length ≤ 50000 := by
    rw [Bool.and_eq_true, decide_eq_true_iff, decide_eq_true_iff]
  exact .cons slot (.cons decide_eq_true_iff (.cons span (.cons decide_eq_true_iff (.cons decide_eq_true_iff .nil))))

/-- R69: the window that WINDOW_SET stores at h. -/
def newWindow (h : Nat) : Window :=
  { valid := true, entered := decide (start ≤ h + lead), start := start, length := length, lead := lead, lift := lift }

variable {n start length lead lift} {s : State} (hstart : start < 2 ^ 32) (hlength : length < 65536)
  (hlead : lead < 65536) (hlift : lift < 65536)
include hstart hlength hlead hlift

theorem windowSet_bad {i : Nat} (hb : firstBad 0 (windowChecks n start length lead lift) = some i) :
    windowSet (windowBytes n start length lead lift) s = (s, replyField i) := by
  have hs : start % 4294967296 = start := Nat.mod_eq_of_lt hstart
  unfold windowChecks at hb
  simp only [windowBytes, le_four, le_two, List.cons_append, List.nil_append, windowSet, u32_le, u16_le, hs,
    Nat.mod_eq_of_lt hlength, Nat.mod_eq_of_lt hlead, Nat.mod_eq_of_lt hlift, hb]

theorem windowSet_inRange (hr : ∀ p ∈ windowRanges n start length lead lift, p) :
    windowSet (windowBytes n start length lead lift) s =
      let w := newWindow start length lead lift s.pcu.high
      let t := s.mapPt fun p => { p with windows := p.windows.set n.toNat w }
      if start + length ≤ s.pcu.high then (s, replyOrder 0)
      else if overlapsOther s.pt.windows n.toNat w then (s, replyOrder 0)
      else (if w.entered then raise .windowEntered t else t, replyOk []) := by
  have hs : start % 4294967296 = start := Nat.mod_eq_of_lt hstart
  have hb := firstBad_none_of_all (windowChecks_iff n start length lead lift) hr 0
  unfold windowChecks at hb
  simp only [windowBytes, le_four, le_two, List.cons_append, List.nil_append, windowSet, u32_le, u16_le, hs,
    Nat.mod_eq_of_lt hlength, Nat.mod_eq_of_lt hlead, Nat.mod_eq_of_lt hlift, hb]
  rfl

/-- R68: a window that h has passed or that overlaps another. -/
theorem windowSet_refused (hr : ∀ p ∈ windowRanges n start length lead lift, p)
    (h : start + length ≤ s.pcu.high ∨
      overlapsOther s.pt.windows n.toNat (newWindow start length lead lift s.pcu.high) = true) :
    windowSet (windowBytes n start length lead lift) s = (s, replyOrder 0) := by
  rw [windowSet_inRange hstart hlength hlead hlift hr]
  dsimp only
  split
  · rfl
  · rename_i hahead
    exact if_pos (h.resolve_left hahead)

/-- R68, R69: a window ahead of h and apart from the others is stored. -/
theorem windowSet_stored (hr : ∀ p ∈ windowRanges n start length lead lift, p) (hahead : s.pcu.high < start + length)
    (hapart : ¬overlapsOther s.pt.windows n.toNat (newWindow start length lead lift s.pcu.high) = true) :
    windowSet (windowBytes n start length lead lift) s =
      let w := newWindow start length lead lift s.pcu.high
      let t := s.mapPt fun p => { p with windows := p.windows.set n.toNat w }
      (if w.entered then raise .windowEntered t else t, replyOk []) := by
  rw [windowSet_inRange hstart hlength hlead hlift hr]
  dsimp only
  rw [if_neg (Nat.not_le.2 hahead), if_neg hapart]

end

/-- R69: the entered mark of a new window. -/
theorem newWindow_ahead {start length lead lift h : Nat} (hs : h + lead < start) :
    newWindow start length lead lift h =
      { valid := true, entered := false, start := start, length := length, lead := lead, lift := lift } := by
  rw [newWindow, decide_eq_false (Nat.not_le.2 hs)]

theorem newWindow_begun {start length lead lift h : Nat} (hs : start ≤ h + lead) :
    newWindow start length lead lift h =
      { valid := true, entered := true, start := start, length := length, lead := lead, lift := lift } := by
  rw [newWindow, decide_eq_true hs]

theorem windowClear_bad {n : Byte} (h : 3 < n.toNat) (s : State) : windowClear [n] s = (s, replyField 0) :=
  if_neg (Nat.not_lt.2 h)

/-- R72: a valid slot loses both marks, and an invalid one stays. -/
theorem windowClear_slot {n : Byte} (h : n.toNat ≤ 3) (s : State) :
    windowClear [n] s = (if (s.pt.windows.get n.toNat).valid then
      s.mapPt fun p =>
        { p with windows := p.windows.set n.toNat { p.windows.get n.toNat with valid := false, entered := false } }
      else s, replyOk []) := if_pos (Nat.lt_succ_iff.2 h)

/-! ### STATION_SET (R31) -/

/-- R31: the part at a new station, before the plan is settled; the remainder and the prescaler count return to 0. -/
def atStation (v : Nat) (s : State) : State :=
  { s with pcu := { s.pcu with station := v, high := v, travelRem := 0, count := { s.pcu.count with travel := 0 } } }

theorem stationSet_eq {v : Nat} (hv : v < 2 ^ 32) (s : State) :
    stationSet (le 4 v) s =
      if 50000000 < v then (s, replyField 0)
      else if s.csc.state ≠ .ready then (s, replyMode)
      else (highWaterChanged (atStation v s), replyOk []) := by
  have hmod : v % 4294967296 = v := Nat.mod_eq_of_lt hv
  simp only [le_four, stationSet, u32_le, hmod]
  rfl

/-- A new h reaches the PT and the LI alone. -/
theorem highWaterChanged_eq (s : State) :
    highWaterChanged s = { s with pt := (highWaterChanged s).pt, li := (highWaterChanged s).li } := by
  have pins := highWaterChanged_pins s
  have cfg := highWaterChanged_cfg s
  have sfe := highWaterChanged_sfe s
  have pcu := highWaterChanged_pcu s
  have sru := highWaterChanged_sru s
  have dlu := highWaterChanged_dlu s
  have dlm := highWaterChanged_dlm s
  have btq := highWaterChanged_btq s
  have tlu := highWaterChanged_tlu s
  have csc := highWaterChanged_csc s
  have vos := highWaterChanged_vos s
  have waiting := highWaterChanged_pending s
  generalize highWaterChanged s = t at *
  cases t
  simp only [State.mk.injEq, true_and]
  exact ⟨pins, cfg, sfe, pcu, sru, dlu, dlm, btq, tlu, csc, vos, waiting⟩

/-- Settles O53: each request is its bytes read back and its checks in order; the re-base settles the plan at the new
h. -/
theorem windowAndStationRequests : Obligations.WindowAndStationRequests := by
  intro tag s hfree
  refine ⟨fun n start length lead lift hstart hlength hlead hlift => ?_, fun n => ?_, fun v hv => ?_⟩
  · have run := takeRequest_good (k := .windowSet) (tag := tag) (payload := windowBytes n start length lead lift) rfl
      (by simp [windowBytes]) hfree.1 (.inl hfree.2)
    have apart := overlapsOther_iff s.pt.windows n.toNat (newWindow start length lead lift s.pcu.high)
    refine ⟨fun f p hf hp hq => ?_, fun hr hor => ?_, fun hr hahead hapart => ?_⟩
    · rw [windowSet_bad hstart hlength hlead hlift (firstBad_some_of_first (windowChecks_iff ..) hf hp hq 0),
        Nat.zero_add] at run
      exact run
    · rw [windowSet_refused (s := heard s) hstart hlength hlead hlift hr (hor.imp_right apart.2)] at run
      exact run
    · rw [windowSet_stored (s := heard s) hstart hlength hlead hlift hr hahead (mt apart.1 hapart)] at run
      refine ⟨fun hs => ?_, fun hs => ?_⟩
      · rw [newWindow_ahead (h := (heard s).pcu.high) hs] at run
        exact run
      · rw [newWindow_begun (h := (heard s).pcu.high) hs] at run
        exact run
  · have run := takeRequest_good (k := .windowClear) (tag := tag) (payload := [n]) rfl rfl hfree.1 (.inl hfree.2)
    refine ⟨fun hbig => ?_, fun hsmall => ⟨fun hw => ?_, fun hw => ?_⟩⟩
    · rw [windowClear_bad hbig] at run
      exact run
    · rw [windowClear_slot hsmall, if_pos (show ((heard s).pt.windows.get n.toNat).valid = true from hw)] at run
      exact run
    · rw [windowClear_slot hsmall, if_neg (show ¬((heard s).pt.windows.get n.toNat).valid = true by simp [hw])] at run
      exact run
  · have run := takeRequest_good (k := .stationSet) (tag := tag) (payload := le 4 v) rfl (by simp) hfree.1
      (.inl hfree.2)
    rw [stationSet_eq hv] at run
    refine ⟨fun hbig => ?_, fun hin hs => ?_, fun hin hs =>
      ⟨highWaterChanged (atStation v (heard s)), ?_, ?_, ?_, fun ho => ⟨?_, ?_⟩⟩⟩
    · rw [if_pos hbig] at run
      exact run
    · rw [if_neg (Nat.not_lt.2 hin), if_pos (show (heard s).csc.state ≠ .ready from hs)] at run
      exact run
    · rw [if_neg (Nat.not_lt.2 hin), if_neg (show ¬(heard s).csc.state ≠ .ready from not_not.2 hs)] at run
      exact run
    · exact (highWaterChanged_eq _).trans (by rw [highWaterChanged_pcu]; rfl)
    · exact highWaterChanged_pcu _
    · exact highWaterChanged_settles (s := atStation v (heard s)) ho
    · exact highWaterChanged_events (s := atStation v (heard s)) ho

end Sys2Proof.Machine

namespace Sys2Proof.Machine

/-! ### What a sample set leaves of the loops beside their update (R90, R185, R186) -/

/-- R79, R85, R86, R90, R96: each side of the DLU at a change of the cut state. -/
theorem changeState_dlu (new : CutState) (s : State) (i : Side) :
    (changeState new s).dlu.get i
      = (s.dlu.get i).changeState s.csc.state new s.cfg.plan.maxDepth (s.sru.sides.get i).depth := by
  rw [changeState_eq, highChange_dlu, sfeChange_dlu, turned_dlu]

/-- R185: each leg output at a change of the cut state. -/
theorem changeState_leg (new : CutState) (s : State) (i : Side) :
    (changeState new s).vos.legs.get i = (s.vos.legs.get i).changeState s.csc.state new := by
  rw [changeState_eq, highChange_vos, sfeChange_vos, turned_legs, Sides.get_map]

/-- Two contexts of a loop that differ at most in A, the settle counter and what the law hands out. -/
structure Loop.Alike (l m : Loop) : Prop where
  sp : m.sp = l.sp
  integ : m.integ = l.integ
  gain : m.gain = l.gain
  err : m.err = l.err
  far : m.far = l.far

theorem Loop.Alike.rfl {l : Loop} : l.Alike l := ⟨Eq.refl _, Eq.refl _, Eq.refl _, Eq.refl _, Eq.refl _⟩

theorem Loop.Alike.trans {l m n : Loop} (h : l.Alike m) (k : m.Alike n) : l.Alike n :=
  ⟨k.sp.trans h.sp, k.integ.trans h.integ, k.gain.trans h.gain, k.err.trans h.err, k.far.trans h.far⟩

/-- R79, R96: a change into any state but ENGAGING keeps the setpoint and the integrator. -/
theorem Loop.changeState_alike {new : CutState} (h : new ≠ .engaging) (old : CutState) (maxDepth : Nat) (depth : Int)
    (l : Loop) : l.Alike (l.changeState old new maxDepth depth) where
  sp := if_neg fun k => h k.2
  integ := if_neg h
  gain := Eq.refl _
  err := Eq.refl _
  far := Eq.refl _

/-- R85, R185: a side in READY without a command. -/
structure AtRest (s : State) (i : Side) : Prop where
  state : s.csc.state = .ready
  u : (s.dlu.get i).u = 0
  drive : (s.dlu.get i).drive = 0
  held : (s.vos.legs.get i).held = 0
  owner : (s.vos.legs.get i).owner = .none

/-- R90: a side that the law runs for. -/
structure UnderLoop (s : State) (i : Side) : Prop where
  loops : s.csc.state.loops = true
  owner : (s.vos.legs.get i).owner = .loop

/-- What the law last handed out on a side stands. -/
structure CommandStands (s t : State) (i : Side) : Prop where
  u : (t.dlu.get i).u = (s.dlu.get i).u
  drive : (t.dlu.get i).drive = (s.dlu.get i).drive
  held : (t.vos.legs.get i).held = (s.vos.legs.get i).held

/-- What every step of a sample set but the update itself leaves of the loops. Where p rules a supply cutoff out, a side
under the law stays so with its command, or comes to rest in READY (R167). -/
structure LoopsStand (p : Prop) (s t : State) : Prop where
  alike : ∀ i, (s.dlu.get i).Alike (t.dlu.get i)
  approach : t.csc.state.timed = true → t.csc.state = s.csc.state
  loops : t.csc.state.loops = true → s.csc.state.loops = true
  rest : p → ∀ i, AtRest s i → AtRest t i
  runs : p → ∀ i, UnderLoop s i → AtRest t i ∨ (UnderLoop t i ∧ CommandStands s t i)

section
variable {p q : Prop} {s t u : State}

theorem LoopsStand.trans (h : LoopsStand p s t) (k : LoopsStand p t u) : LoopsStand p s u where
  alike i := (h.alike i).trans (k.alike i)
  approach hu := (k.approach hu).trans (h.approach (k.approach hu ▸ hu))
  loops := h.loops ∘ k.loops
  rest hp i := k.rest hp i ∘ h.rest hp i
  runs hp i hs := by
    rcases h.runs hp i hs with rested | ⟨ht, same⟩
    · exact .inl (k.rest hp i rested)
    · exact (k.runs hp i ht).imp_right fun ⟨hu, later⟩ =>
        ⟨hu, later.u.trans same.u, later.drive.trans same.drive, later.held.trans same.held⟩

theorem LoopsStand.weaken (h : LoopsStand p s t) (k : q → p) : LoopsStand q s t :=
  { h with rest := h.rest ∘ k, runs := h.runs ∘ k }

theorem LoopsStand.ite {a b : State} {c : Prop} [Decidable c] (ha : c → LoopsStand p s a) (hb : ¬c → LoopsStand p s b) :
    LoopsStand p s (if c then a else b) := by
  split
  · exact ha ‹_›
  · exact hb ‹_›

/-- A step that leaves the loops, the leg outputs and the cut state alone. -/
structure LoopsUntouched (s t : State) : Prop where
  dlu : t.dlu = s.dlu := by simp
  legs : t.vos.legs = s.vos.legs := by simp
  state : t.csc.state = s.csc.state := by simp

theorem LoopsUntouched.trans (h : LoopsUntouched s t) (k : LoopsUntouched t u) : LoopsUntouched s u :=
  ⟨k.dlu.trans h.dlu, k.legs.trans h.legs, k.state.trans h.state⟩

theorem LoopsUntouched.stands (h : LoopsUntouched s t) : LoopsStand p s t where
  alike i := by rw [h.dlu]; exact .rfl
  approach _ := h.state
  loops := by rw [h.state]; exact id
  rest _ i k := ⟨h.state.trans k.state, by rw [h.dlu, k.u], by rw [h.dlu, k.drive], by rw [h.legs, k.held],
    by rw [h.legs, k.owner]⟩
  runs _ i k := .inr ⟨⟨by rw [h.state, k.loops], by rw [h.legs, k.owner]⟩, by rw [h.dlu], by rw [h.dlu], by rw [h.legs]⟩

theorem LoopsStand.rfl : LoopsStand p s s := LoopsUntouched.stands {}

end

section
variable {p : Prop}

/-- A change of the cut state at a sample set: the loop states are left or kept and none is entered anew. Only the
change of a supply cutoff forces the outputs neutral. -/
theorem changeState_loops {new : CutState} {s : State} (ht : new.timed = false)
    (hl : new.loops = true → s.csc.state.loops = true) (hp : p → s.csc.state.loops = true ∧ new.neutral = false) :
    LoopsStand p s (changeState new s) where
  alike i := by
    rw [changeState_dlu]
    exact Loop.changeState_alike (by rintro rfl; cases ht) _ _ _ _
  approach h := by
    rw [changeState_state, ht] at h
    cases h
  loops := by rwa [changeState_state]
  rest h i k := by
    have := (hp h).1
    rw [k.state] at this
    cases this
  runs h i k := by
    obtain ⟨hs, hn⟩ := hp h
    have notReady : s.csc.state ≠ .ready := fun hr => by rw [hr] at hs; cases hs
    have leg : (changeState new s).vos.legs.get i = _ := changeState_leg new s i
    have loop : (changeState new s).dlu.get i = _ := changeState_dlu new s i
    cases new with
    | ready =>
      exact .inl ⟨changeState_state _ _, by rw [loop]; rfl, by rw [loop]; rfl, by rw [leg]; rfl, by rw [leg]; rfl⟩
    | cutting | holdSoft =>
      refine .inr ⟨⟨by rw [changeState_state]; rfl, by rw [leg]; exact k.owner⟩, by rw [loop]; rfl,
        by rw [loop]; rfl, ?_⟩
      rw [leg]
      simp [Leg.changeState, CutState.neutral, notReady]
    | engaging | lifting => cases ht
    | config | holdHard => cases hn

theorem raise_untouched (e : EventSrc) (s : State) : LoopsUntouched s (raise e s) := {}

theorem recordHold_untouched (cause : HoldCause) (s : State) : LoopsUntouched s (recordHold cause s) where
  state := by simp [recordHold]

/-- R171: the hold after a reference loss. -/
theorem enterHoldSoft_loops (cause : HoldCause) {s : State} (h : s.csc.state.loops = true) :
    LoopsStand p s (enterHold .holdSoft cause s) :=
  (changeState_loops rfl (fun _ => h) fun _ => ⟨h, rfl⟩).trans (recordHold_untouched _ _).stands

/-- R175: the hold after a supply cutoff. -/
theorem enterHoldHard_loops (cause : HoldCause) (s : State) : LoopsStand False s (enterHold .holdHard cause s) :=
  (changeState_loops rfl (fun h => by cases h) False.elim).trans (recordHold_untouched _ _).stands

/-- R165: the completion of engaging. -/
theorem settleEngage_loops (s : State) : LoopsStand p s (settleEngage s) := by
  refine .ite (fun ⟨engaging, _⟩ => ?_) fun _ => .rfl
  have runs : s.csc.state.loops = true := by rw [engaging]; rfl
  exact (changeState_loops rfl (fun _ => runs) fun _ => ⟨runs, rfl⟩).trans (raise_untouched _ _).stands

/-- R167: the completion of lifting. -/
theorem settleLift_loops (s : State) : LoopsStand p s (settleLift s) := by
  refine .ite (fun ⟨lifting, _⟩ => ?_) fun _ => .rfl
  have runs : s.csc.state.loops = true := by rw [lifting]; rfl
  exact (changeState_loops rfl (fun _ => runs) fun _ => ⟨runs, rfl⟩).trans (raise_untouched _ _).stands

theorem applyLoss_loops (lost : Bool) (s : State) : LoopsStand p s (applyLoss lost s) := by
  refine .ite (fun _ => ?_) fun _ => .rfl
  split
  case h_1 h | h_2 h | h_3 h => exact enterHoldSoft_loops _ (by rw [h]; rfl)
  all_goals exact .rfl

theorem applyCutoff_loops (s : State) : LoopsStand (s.csc.cutoffHanded = false) s (applyCutoff s) := by
  cases handed : s.csc.cutoffHanded with
  | false =>
    rw [applyCutoff_unhanded handed]
    exact .rfl
  | true =>
    refine LoopsStand.weaken (p := False) ?_ Bool.noConfusion
    have taken : LoopsStand False s (s.mapCsc fun c => { c with cutoffHanded := false }) := LoopsUntouched.stands {}
    unfold applyCutoff
    rw [if_pos handed]
    dsimp only
    split
    case h_6 | h_7 => exact taken
    all_goals exact taken.trans (enterHoldHard_loops _ _)

theorem settleLowSet_untouched (s : State) : LoopsUntouched s (settleLowSet s) where
  legs := by unfold settleLowSet; split <;> simp

theorem settleLowClear_untouched (s : State) : LoopsUntouched s (settleLowClear s) where
  legs := by unfold settleLowClear; split <;> simp

theorem failLost_untouched (lost : List Chan) (s : State) : LoopsUntouched s (failLost lost s) := by
  unfold failLost
  split
  · exact {}
  · exact ⟨rfl, rfl, rfl⟩

theorem captureShare_untouched (apart : Bool) (s : State) : LoopsUntouched s (captureShare apart s) := by
  have counted : LoopsUntouched s (countCapture s) := ⟨rfl, rfl, rfl⟩
  unfold captureShare
  cases apart
  · exact counted.trans {}
  · exact counted

theorem completionShare_loops (apart : Bool) (s : State) : LoopsStand p s (completionShare apart s) :=
  .ite (fun _ => .rfl) fun _ => (settleEngage_loops s).trans (settleLift_loops _)

end

theorem countSupply_untouched (level : Nat) (s : State) : LoopsUntouched s (s.mapVos (Vos.countSupply level)) where
  legs := by
    rw [State.mapVos_vos, Vos.countSupply]
    split <;> rfl

theorem countCutoff_untouched (s : State) : LoopsUntouched s (countCutoff s) where
  legs := by
    unfold countCutoff
    dsimp only
    generalize (if s.vos.supply < Config.cutoffLevel then s.vos.cutoffCount + 1 else 0) = n
    split <;> rfl
  state := countCutoff_state s

/-! ### No supply cutoff is taken at a sample set (R175, R193) -/

/-- R193: no cutoff has been handed over, and one that this supply value brings about is left due (log 3). -/
structure CutoffApart (apart : Bool) (s : State) : Prop where
  handed : s.csc.cutoffHanded = false
  count : s.vos.supply < Config.cutoffLevel → 5 ≤ s.vos.cutoffCount + 1 → apart = true

/-- What the monitor finds of an earlier cutoff. -/
structure HandoverStands (s t : State) : Prop where
  handed : t.csc.cutoffHanded = s.csc.cutoffHanded := by simp
  count : t.vos.cutoffCount = s.vos.cutoffCount := by simp

theorem HandoverStands.rfl {s : State} : HandoverStands s s := {}

theorem HandoverStands.trans {s t u : State} (h : HandoverStands s t) (k : HandoverStands t u) : HandoverStands s u :=
  ⟨k.handed.trans h.handed, k.count.trans h.count⟩

theorem HandoverStands.ite {s a b : State} {c : Prop} [Decidable c] (ha : c → HandoverStands s a)
    (hb : ¬c → HandoverStands s b) : HandoverStands s (if c then a else b) := by
  split
  · exact ha ‹_›
  · exact hb ‹_›

theorem CutoffStands.handover {s t : State} (h : CutoffStands s t) : HandoverStands s t := ⟨by rw [h.csc], h.count⟩

theorem CutoffApart.of_stands {apart : Bool} {s t : State} (h : CutoffApart apart s) (k : HandoverStands s t)
    (f : ShareFrame s t) : CutoffApart apart t :=
  ⟨by rw [k.handed, h.handed], by rw [k.count, f.supply]; exact h.count⟩

theorem changeState_handover (new : CutState) (s : State) : HandoverStands s (changeState new s) where
  handed := by simp [changeState_eq]
  count := by
    rw [changeState_eq, highChange_vos, sfeChange_vos]
    unfold turned btqChange
    split <;> rfl

theorem raise_handover (e : EventSrc) (s : State) : HandoverStands s (raise e s) := {}

theorem enterHold_handover (new : CutState) (cause : HoldCause) (s : State) :
    HandoverStands s (enterHold new cause s) := by
  have recorded (t : State) : HandoverStands t (t.mapCsc fun c => { c with cause := some cause }) := ⟨rfl, rfl⟩
  exact ((changeState_handover new s).trans (recorded _)).trans (raise_handover _ _)

theorem settleEngage_handover (s : State) : HandoverStands s (settleEngage s) :=
  .ite (fun _ => (changeState_handover _ s).trans (raise_handover _ _)) fun _ => .rfl

theorem settleLift_handover (s : State) : HandoverStands s (settleLift s) :=
  .ite (fun _ => (changeState_handover _ s).trans (raise_handover _ _)) fun _ => .rfl

theorem applyLoss_handover (lost : Bool) (s : State) : HandoverStands s (applyLoss lost s) := by
  refine .ite (fun _ => ?_) fun _ => .rfl
  split
  case h_1 | h_2 | h_3 => exact enterHold_handover _ _ s
  all_goals exact .rfl

theorem completionShare_handover (apart : Bool) (s : State) : HandoverStands s (completionShare apart s) :=
  .ite (fun _ => .rfl) fun _ => (settleEngage_handover s).trans (settleLift_handover _)

/-- R192: a monitor that takes no cutoff leaves the loops alone. -/
theorem monitorShare_untouched {apart : Bool} {s : State} (h : CutoffApart apart s) :
    LoopsUntouched s (monitorShare apart s) := by
  have counted := (countSupply_untouched s.cfg.lowLevel s).trans (countCutoff_untouched _)
  unfold monitorShare
  cases apart with
  | true => exact counted
  | false =>
    have count : (s.mapVos (Vos.countSupply s.cfg.lowLevel)).vos.cutoffCount = s.vos.cutoffCount := by
      simp only [State.mapVos_vos, Vos.countSupply]
      split <;> rfl
    have below : (countCutoff (s.mapVos (Vos.countSupply s.cfg.lowLevel))).csc = s.csc :=
      countCutoff_below fun ⟨low, five⟩ =>
        Bool.false_ne_true (h.count ((countSupply_frame s.cfg.lowLevel s).supply ▸ low) (count ▸ five))
    rw [if_neg Bool.false_ne_true, applyCutoff_unhanded]
    · exact (counted.trans (settleLowSet_untouched _)).trans (settleLowClear_untouched _)
    · rw [settleLowClear_csc, settleLowSet_csc, below, h.handed]

theorem monitorShare_loops (apart : Bool) (s : State) :
    LoopsStand (CutoffApart apart s) s (monitorShare apart s) := by
  by_cases h : CutoffApart apart s
  · exact (monitorShare_untouched h).stands
  · have counted := (countSupply_untouched s.cfg.lowLevel s).trans (countCutoff_untouched _)
    have settled := (counted.trans (settleLowSet_untouched _)).trans (settleLowClear_untouched _)
    refine LoopsStand.weaken (p := False) (.ite (fun _ => counted.stands) fun _ => ?_) h
    exact settled.stands.trans ((applyCutoff_loops _).weaken False.elim)

theorem settleDue_loops (s : State) : LoopsStand (s.csc.cutoffHanded = false) s (settleDue s) := by
  have started : LoopsUntouched s (closeClassWindow (completeCapture s)) := {}
  have monitored := (started.trans (settleLowSet_untouched _)).trans (settleLowClear_untouched _)
  have taken := monitored.stands.trans ((applyCutoff_loops _).weaken fun h : s.csc.cutoffHanded = false => by simpa)
  exact (taken.trans (settleEngage_loops _)).trans (settleLift_loops _)

theorem bothSettled_iff (s : State) : bothSettled s = true ↔ 10 ≤ s.dlu.left.settle ∧ 10 ≤ s.dlu.right.settle := by
  simp [bothSettled]

/-- With no cutoff handed over and no completion due, what is due leaves the loops alone. -/
theorem settleDue_untouched {s : State} (h : s.csc.cutoffHanded = false)
    (hb : ¬(10 ≤ s.dlu.left.settle ∧ 10 ≤ s.dlu.right.settle)) : LoopsUntouched s (settleDue s) := by
  have started : CutoffStands s (closeClassWindow (completeCapture s)) := {}
  have cutoff := (started.trans (settleLowSet_cutoff _)).trans (settleLowClear_cutoff _)
  have begun : LoopsUntouched s (closeClassWindow (completeCapture s)) := {}
  have monitored := (begun.trans (settleLowSet_untouched _)).trans (settleLowClear_untouched _)
  rw [← bothSettled_iff] at hb
  unfold settleDue
  rw [applyCutoff_unhanded (by rw [cutoff.csc, h])]
  generalize settleLowClear (settleLowSet (closeClassWindow (completeCapture s))) = t at monitored
  have unsettled : ¬bothSettled t = true := by rwa [bothSettled, monitored.dlu]
  rw [settleEngage, if_neg fun k => unsettled k.2, settleLift, if_neg fun k => unsettled k.2]
  exact monitored

theorem settleDue_handover {s : State} (h : s.csc.cutoffHanded = false) : HandoverStands s (settleDue s) := by
  have started : CutoffStands s (closeClassWindow (completeCapture s)) := {}
  have monitored := (started.trans (settleLowSet_cutoff _)).trans (settleLowClear_cutoff _)
  unfold settleDue
  rw [applyCutoff_unhanded (by rw [monitored.csc, h])]
  exact (monitored.handover.trans (settleEngage_handover _)).trans (settleLift_handover _)

/-! ### The part as the loops are updated, and what follows (log 4) -/

/-- R114, R92: the share of the side readings up to the loop updates. -/
def beforeLoops (o : SampleOrder) (s : State) : State :=
  let s1 := readSides s
  let s2 := if o.loadFirst then sampleLoad o.apart s1 else s1
  if o.lossFirst then applyLoss (entersLost s.sru.sides s1.sru.sides) s2 else s2

/-- The share of the side readings after the loop updates. -/
def afterLoops (o : SampleOrder) (lost : Bool) (s : State) : State :=
  let s1 := if o.lossFirst then s else applyLoss lost s
  let s2 := completionShare o.apart s1
  if o.loadFirst then s2 else sampleLoad o.apart s2

theorem sideShare_eq (o : SampleOrder) (s : State) :
    sideShare o s = afterLoops o (entersLost s.sru.sides (readSides s).sru.sides) (updateLoops (beforeLoops o s)) := by
  unfold sideShare beforeLoops afterLoops
  cases o.lossFirst <;> rfl

/-- The part at a sample set as the loops are updated. -/
def updateReady (scan : Scan) (o : SampleOrder) (s : State) : State := beforeLoops o (scanned scan o s)

section
variable {p : Prop} (o : SampleOrder) (lost : Bool) (s : State)

theorem sampleLoad_untouched (apart : Bool) : LoopsUntouched s (sampleLoad apart s) := {}

theorem beforeLoops_loops : LoopsStand p s (beforeLoops o s) := by
  have read : LoopsUntouched s (readSides s) := {}
  have loaded : LoopsStand p s (if o.loadFirst then sampleLoad o.apart (readSides s) else readSides s) :=
    .ite (fun _ => (read.trans (sampleLoad_untouched _ _)).stands) fun _ => read.stands
  exact .ite (fun _ => loaded.trans (applyLoss_loops _ _)) fun _ => loaded

theorem afterLoops_loops : LoopsStand p s (afterLoops o lost s) := by
  have settled : LoopsStand p s (completionShare o.apart (if o.lossFirst then s else applyLoss lost s)) :=
    LoopsStand.trans (.ite (fun _ => .rfl) fun _ => applyLoss_loops _ _) (completionShare_loops _ _)
  exact .ite (fun _ => settled) fun _ => settled.trans (sampleLoad_untouched _ _).stands

theorem beforeLoops_handover : HandoverStands s (beforeLoops o s) := by
  have read : HandoverStands s (readSides s) := {}
  have loaded : HandoverStands s (if o.loadFirst then sampleLoad o.apart (readSides s) else readSides s) :=
    .ite (fun _ => read.trans {}) fun _ => read
  exact .ite (fun _ => loaded.trans (applyLoss_handover _ _)) fun _ => loaded

theorem afterLoops_handover : HandoverStands s (afterLoops o lost s) := by
  have settled : HandoverStands s (completionShare o.apart (if o.lossFirst then s else applyLoss lost s)) :=
    HandoverStands.trans (.ite (fun _ => .rfl) fun _ => applyLoss_handover _ _) (completionShare_handover _ _)
  exact .ite (fun _ => settled) fun _ => settled.trans {}

theorem sideShare_handover : HandoverStands s (sideShare o s) := by
  rw [sideShare_eq]
  exact ((beforeLoops_handover o s).trans (updateLoops_cutoff _).handover).trans (afterLoops_handover _ _ _)

end

section
variable {scan : Scan} {o : SampleOrder} {s : State}

/-- R193: with no cutoff at this sample set, the monitor finds none, when it comes before the side readings and when it
comes after. -/
theorem scan_cutoffApart (hn : NoCutoff scan o s) (hl : s.csc.state.loops = true) :
    CutoffApart o.apart (scanChannels scan (settleDue s)) := by
  obtain ⟨handed, count⟩ := settleDue_handover hn.1
  refine ⟨by rw [scanChannels_csc, handed, hn.1], fun low five => ?_⟩
  rw [scanChannels_vos] at low five
  have cut : cutsOff scan s = true := by
    rw [count] at five
    simp only [cutsOff, Bool.and_eq_true, decide_eq_true_eq]
    exact ⟨low, five⟩
  rcases hn.2 cut with apart | config | hard
  · exact apart
  · rw [config] at hl
    cases hl
  · rw [hard] at hl
    cases hl

theorem scan_untouched (s : State) : LoopsUntouched s (scanChannels scan s) := {}

theorem captureStart_untouched : LoopsUntouched (settleDue s) (captureStart scan o s) := by
  unfold captureStart
  split
  · exact scan_untouched _
  · exact (scan_untouched _).trans (failLost_untouched _ _)

theorem captureStart_cutoffApart (hn : NoCutoff scan o s) (hl : s.csc.state.loops = true) :
    CutoffApart o.apart (captureStart scan o s) := by
  have read := scan_cutoffApart hn hl
  unfold captureStart
  split
  · exact read
  · exact read.of_stands (failLost_cutoff _ _).handover (failLost_frame _ _)

theorem scanned_eq : scanned scan o s =
    if o.monitorFirst then monitorShare o.apart (captureStart scan o s) else captureStart scan o s := rfl

theorem sampleSet_eq_captureEnd : sampleSet scan o s =
    if o.monitorFirst then captureEnd scan o s else monitorShare o.apart (captureEnd scan o s) := rfl

/-- R175, R193: no supply cutoff is taken at a sample set of a state in which the law may run. -/
abbrev Uncut (scan : Scan) (o : SampleOrder) (s : State) : Prop := NoCutoff scan o s ∧ s.csc.state.loops = true

theorem scanned_loops : LoopsStand (Uncut scan o s) s (scanned scan o s) := by
  have start : LoopsStand (Uncut scan o s) s (captureStart scan o s) :=
    ((settleDue_loops s).weaken fun h => h.1.1).trans captureStart_untouched.stands
  rw [scanned_eq]
  exact .ite (fun _ => start.trans ((monitorShare_loops _ _).weaken fun h => captureStart_cutoffApart h.1 h.2))
    fun _ => start

theorem scanned_untouched (h : Uncut scan o s) (hb : ¬(10 ≤ s.dlu.left.settle ∧ 10 ≤ s.dlu.right.settle)) :
    LoopsUntouched s (scanned scan o s) := by
  have start := (settleDue_untouched h.1.1 hb).trans (captureStart_untouched (scan := scan) (o := o))
  rw [scanned_eq]
  split
  · exact start.trans (monitorShare_untouched (captureStart_cutoffApart h.1 h.2))
  · exact start

theorem updateReady_loops : LoopsStand (Uncut scan o s) s (updateReady scan o s) :=
  scanned_loops.trans (beforeLoops_loops _ _)

theorem captureEnd_cutoffApart (h : Uncut scan o s) (hm : o.monitorFirst = false) :
    CutoffApart o.apart (captureEnd scan o s) := by
  have start := captureStart_cutoffApart h.1 h.2
  have shared := start.of_stands (sideShare_handover o _) (sideShare_frame o _)
  have counted := shared.of_stands (captureShare_cutoff o.apart _).handover (captureShare_frame o.apart _)
  unfold captureEnd
  rw [scanned_eq, hm]
  dsimp only
  split
  · exact counted.of_stands (failLost_cutoff _ _).handover (failLost_frame _ _)
  · exact counted

/-- What a sample set leaves of its loop updates. -/
theorem sampleSet_loops :
    LoopsStand (Uncut scan o s) (updateLoops (updateReady scan o s)) (sampleSet scan o s) := by
  have ended : LoopsStand (Uncut scan o s) (updateLoops (updateReady scan o s)) (captureEnd scan o s) := by
    have shared := afterLoops_loops (p := Uncut scan o s) o
      (entersLost (scanned scan o s).sru.sides (readSides (scanned scan o s)).sru.sides)
      (updateLoops (updateReady scan o s))
    have counted := shared.trans (captureShare_untouched o.apart _).stands
    unfold captureEnd
    rw [sideShare_eq]
    exact .ite (fun _ => counted.trans (failLost_untouched _ _).stands) fun _ => counted
  rw [sampleSet_eq_captureEnd]
  cases hm : o.monitorFirst with
  | true => exact ended
  | false => exact ended.trans ((monitorShare_loops _ _).weaken fun h => captureEnd_cutoffApart h hm)

end
end Sys2Proof.Machine

namespace Sys2Proof.Machine

/-! ### The law of one loop update (R89 to R97) -/

theorem limitInteg_eq (g : Gains) (x : Int) : limitInteg g x = max (-(g.ilim : Int)) (min (g.ilim : Int) x) :=
  clamp_eq (by omega) x

theorem SideRec.gains_eq (r : SideRec) (k : GainSet) : r.gains k = if k = .normal then r.normal else r.hard := by
  cases k <;> rfl

theorem gainFor_eq (m : Material) : gainFor m = if m = .hard then .hard else .normal := by cases m <;> rfl

section
variable {g : Gains} {deadband : Nat} {l : Loop}

/-- R95: a side that is LOST. -/
theorem loopLaw_lost (g : Gains) (deadband : Nat) (l : Loop) :
    loopLaw g true deadband l = { l with u := 0, integ := 0 } := rfl

/-- R92: an error within the deadband. -/
theorem loopLaw_deadband (h : l.err.natAbs ≤ deadband) : loopLaw g false deadband l = { l with u := 0 } := by
  rw [loopLaw, if_neg Bool.false_ne_true, if_pos h]

/-- R94: a raw command within its limit. -/
theorem loopLaw_within (h : deadband < l.err.natAbs) (hu : (rawCommand g l.err l.integ).natAbs ≤ g.umax) :
    loopLaw g false deadband l =
      { l with u := rawCommand g l.err l.integ, integ := candidateInteg g l.err l.integ } := by
  rw [loopLaw, if_neg Bool.false_ne_true, if_neg (Nat.not_le.2 h)]
  exact if_pos hu

/-- R94: a raw command past its limit, with the integrator held where it would wind up. -/
theorem loopLaw_limited (h : deadband < l.err.natAbs) (hu : g.umax < (rawCommand g l.err l.integ).natAbs) :
    loopLaw g false deadband l =
      { l with u := if rawCommand g l.err l.integ < 0 then -(g.umax : Int) else (g.umax : Int),
               integ := if l.err.sign ≠ (rawCommand g l.err l.integ).sign then candidateInteg g l.err l.integ
                 else l.integ } := by
  rw [loopLaw, if_neg Bool.false_ne_true, if_neg (Nat.not_le.2 h)]
  exact if_neg (Nat.not_le.2 hu)

/-- The law leaves the error and the far mark. -/
theorem loopLaw_error (g : Gains) (lost : Bool) (deadband : Nat) (l : Loop) :
    (loopLaw g lost deadband l).err = l.err ∧ (loopLaw g lost deadband l).far = l.far := by
  unfold loopLaw
  dsimp only
  repeat' split
  all_goals exact ⟨rfl, rfl⟩

end

/-- R92 to R97: the loop n of a side obeys the law under the gains g, from an integrator that stood at i. -/
structure ObeysLaw (r : SideRec) (g : Gains) (ref : RefState) (i : Int) (n : Loop) : Prop where
  lost : ref = .lost → n.u = 0 ∧ n.integ = 0
  deadband : ref ≠ .lost → n.err.natAbs ≤ r.deadband → n.u = 0 ∧ n.integ = i
  within : ref ≠ .lost → r.deadband < n.err.natAbs → (rawCommand g n.err i).natAbs ≤ g.umax →
    n.u = rawCommand g n.err i ∧ n.integ = candidateInteg g n.err i
  limited : ref ≠ .lost → r.deadband < n.err.natAbs → g.umax < (rawCommand g n.err i).natAbs →
    n.u = (if rawCommand g n.err i < 0 then -(g.umax : Int) else (g.umax : Int)) ∧
      n.integ = if n.err.sign ≠ (rawCommand g n.err i).sign then candidateInteg g n.err i else i
  drive : n.drive = deadZone r.vmin n.u

/-- The law is about the error, the integrator, the command and the drive alone. -/
theorem ObeysLaw.congr {r : SideRec} {g : Gains} {ref : RefState} {i : Int} {m n : Loop} (h : ObeysLaw r g ref i m)
    (k : m.Alike n) (hu : n.u = m.u) (hd : n.drive = m.drive) : ObeysLaw r g ref i n := by
  obtain ⟨-, integ, -, err, -⟩ := k
  constructor <;> simp only [integ, err, hu, hd]
  exacts [h.lost, h.deadband, h.within, h.limited, h.drive]

theorem loopLaw_obeys (r : SideRec) (g : Gains) (ref : RefState) (l : Loop) :
    ObeysLaw r g ref l.integ
      { loopLaw g (ref == .lost) r.deadband l with
        drive := deadZone r.vmin (loopLaw g (ref == .lost) r.deadband l).u } := by
  have unlost (h : ref ≠ .lost) : (ref == .lost) = false := by simpa using h
  refine ⟨?_, fun h => ?_, fun h => ?_, fun h => ?_, rfl⟩
  · intro h
    rw [h, beq_self_eq_true, loopLaw_lost]
    exact ⟨rfl, rfl⟩
  · rw [unlost h, (loopLaw_error _ _ _ _).1]
    intro hd
    rw [loopLaw_deadband hd]
    exact ⟨rfl, rfl⟩
  · rw [unlost h, (loopLaw_error _ _ _ _).1]
    intro hd hu
    rw [loopLaw_within hd hu]
    exact ⟨rfl, rfl⟩
  · rw [unlost h, (loopLaw_error _ _ _ _).1]
    intro hd hu
    rw [loopLaw_limited hd hu]
    exact ⟨rfl, rfl⟩

/-! ### One loop update (R90) -/

section
variable (st : CutState) (plan : PlanRec) (r : SideRec) (m : Material) (target : Option Int) (ref : SideRef) (l : Loop)

/-- R89: the error and the far mark, whether the law runs or not. -/
theorem loopSide_error (runs : Bool) :
    (loopSide st plan r m target ref runs l).err = (loopSide st plan r m target ref runs l).sp - ref.depth ∧
      (loopSide st plan r m target ref runs l).far =
        decide (r.farTol < (loopSide st plan r m target ref runs l).err.natAbs) := by
  rw [loopSide_sp]
  cases runs with
  | false => exact ⟨rfl, rfl⟩
  | true =>
    have err : (loopSide st plan r m target ref true l).err =
        (moveSetpoint st plan target (resetInteg ref.leftLost l)).sp - ref.depth :=
      (loopLaw_error _ _ _ _).1
    have far : (loopSide st plan r m target ref true l).far =
        decide (r.farTol < ((moveSetpoint st plan target (resetInteg ref.leftLost l)).sp - ref.depth).natAbs) :=
      (loopLaw_error _ _ _ _).2
    rw [err, far]
    exact ⟨rfl, rfl⟩

theorem moveSetpoint_frame : moveSetpoint st plan target l = { l with sp := (moveSetpoint st plan target l).sp } := by
  unfold moveSetpoint
  split <;> rfl

theorem resetInteg_eq (leftLost : Bool) (l : Loop) :
    resetInteg leftLost l = { l with integ := if leftLost then 0 else l.integ } := by
  cases leftLost <;> rfl

/-- R96: without the law the integrator and the commands stand, but for the reset at the left-LOST mark. -/
theorem loopSide_idle :
    (loopSide st plan r m target ref false l).integ = (if ref.leftLost then 0 else l.integ) ∧
      (loopSide st plan r m target ref false l).u = l.u ∧
      (loopSide st plan r m target ref false l).drive = l.drive := by
  unfold loopSide
  rw [moveSetpoint_frame, resetInteg_eq]
  exact ⟨rfl, rfl, rfl⟩

/-- R91 to R97: with the law. -/
theorem loopSide_obeys :
    (loopSide st plan r m target ref true l).gain = gainFor m ∧
      ObeysLaw r (r.gains (gainFor m)) ref.ref
        (limitInteg (r.gains (gainFor m)) (if ref.leftLost then 0 else l.integ))
        (loopSide st plan r m target ref true l) := by
  have law := loopLaw_obeys r (r.gains (gainFor m)) ref.ref
    (selectGains r m (judgeError r.farTol ref.depth (moveSetpoint st plan target (resetInteg ref.leftLost l))))
  have integ : (moveSetpoint st plan target (resetInteg ref.leftLost l)).integ =
      if ref.leftLost then 0 else l.integ := by
    rw [moveSetpoint_frame, resetInteg_eq]
  rw [← integ]
  exact ⟨loopLaw_gain _ _ _ _, law.congr ⟨rfl, rfl, rfl, rfl, rfl⟩ rfl rfl⟩

/-- R80, R84: sp moves in ENGAGING and LIFTING alone. -/
theorem moveSetpoint_stands (h : st.timed = false) : moveSetpoint st plan target l = l := by
  cases st
  case engaging | lifting => cases h
  all_goals rfl

theorem moveSetpoint_sp_congr {k : Loop} (h : k.sp = l.sp) :
    (moveSetpoint st plan target k).sp = (moveSetpoint st plan target l).sp := by
  unfold moveSetpoint
  split <;> simp only [h]

/-- The setpoint after a loop update, in the state and with the target that the update finds. -/
theorem loopSide_setpoint (runs : Bool) :
    (loopSide st plan r m target ref runs l).sp = (moveSetpoint st plan target l).sp := by
  rw [loopSide_sp]
  exact moveSetpoint_sp_congr _ _ _ _ (by rw [resetInteg_eq])

end

/-! ### The updates of both sides (R90, R186) -/

/-- The target of a side (R61). -/
def targetOf (s : State) (i : Side) : Option Int := (targets s).map fun x => x.get i

theorem updateLoops_dlu (s : State) (i : Side) :
    (updateLoops s).dlu.get i =
      loopSide s.csc.state s.cfg.plan (s.cfg.side.get i) s.dlm.material (targetOf s i) (s.sru.sides.get i)
        (lawRuns s.csc.state (s.vos.legs.get i)) (s.dlu.get i) := by
  cases i <;> rfl

theorem updateLoops_leg (s : State) (i : Side) :
    (updateLoops s).vos.legs.get i =
      if lawRuns s.csc.state (s.vos.legs.get i) then
        (s.vos.legs.get i).takeDrive s.csc.state ((updateLoops s).dlu.get i).drive
      else s.vos.legs.get i := by
  cases i <;> rfl

theorem lawRuns_iff (s : State) (i : Side) : lawRuns s.csc.state (s.vos.legs.get i) = true ↔ UnderLoop s i := by
  rw [lawRuns, Bool.and_eq_true, beq_iff_eq]
  exact ⟨fun h => ⟨h.1, h.2⟩, fun h => ⟨h.loops, h.owner⟩⟩

theorem CutState.loops_not_neutral {c : CutState} (h : c.loops = true) : c.neutral = false := by
  cases c
  case config | holdHard => cases h
  all_goals rfl

/-- R186: a side under the law stays so and is handed its drive. -/
theorem updateLoops_runs {s : State} {i : Side} (h : UnderLoop s i) :
    UnderLoop (updateLoops s) i ∧
      ((updateLoops s).vos.legs.get i).held = ((updateLoops s).dlu.get i).drive := by
  have leg : (updateLoops s).vos.legs.get i =
      { s.vos.legs.get i with held := ((updateLoops s).dlu.get i).drive } := by
    rw [updateLoops_leg, if_pos ((lawRuns_iff s i).2 h), Leg.takeDrive,
      if_pos ⟨h.owner, CutState.loops_not_neutral h.loops⟩]
  rw [leg]
  exact ⟨⟨by rw [updateLoops_csc, h.loops], by rw [leg, h.owner]⟩, rfl⟩

/-- A side at rest stays at rest. -/
theorem updateLoops_rest {s : State} {i : Side} (h : AtRest s i) : AtRest (updateLoops s) i := by
  have idle : lawRuns s.csc.state (s.vos.legs.get i) = false := by
    rw [lawRuns, h.state]
    rfl
  have leg : (updateLoops s).vos.legs.get i = s.vos.legs.get i := by
    rw [updateLoops_leg, idle, if_neg Bool.false_ne_true]
  have loop := updateLoops_dlu s i
  rw [idle] at loop
  obtain ⟨-, u, drive⟩ := loopSide_idle s.csc.state s.cfg.plan (s.cfg.side.get i) s.dlm.material (targetOf s i)
    (s.sru.sides.get i) (s.dlu.get i)
  exact ⟨by rw [updateLoops_csc, h.state], by rw [loop, u, h.u], by rw [loop, drive, h.drive], by rw [leg, h.held],
    by rw [leg, h.owner]⟩

end Sys2Proof.Machine

namespace Sys2Proof.Machine

/-! ### What the shares of a sample set leave of the DLM (R114) -/

theorem settleEngage_dlm (s : State) : (settleEngage s).dlm = s.dlm := by unfold settleEngage; split <;> simp

theorem settleLift_dlm (s : State) : (settleLift s).dlm = s.dlm := by unfold settleLift; split <;> simp

theorem applyLoss_dlm (lost : Bool) (s : State) : (applyLoss lost s).dlm = s.dlm := by
  unfold applyLoss
  repeat' split
  all_goals simp

theorem applyCutoff_dlm (s : State) : (applyCutoff s).dlm = s.dlm := by
  unfold applyCutoff
  dsimp only
  repeat' split
  all_goals simp

theorem completionShare_dlm (apart : Bool) (s : State) : (completionShare apart s).dlm = s.dlm := by
  unfold completionShare
  split
  · rfl
  · rw [settleLift_dlm, settleEngage_dlm]

theorem failLost_dlm (lost : List Chan) (s : State) : (failLost lost s).dlm = s.dlm := by
  unfold failLost
  split <;> simp

theorem captureShare_dlm (apart : Bool) (s : State) : (captureShare apart s).dlm = s.dlm := by
  have counted : (countCapture s).dlm = s.dlm := rfl
  unfold captureShare
  cases apart <;> simp [counted]

theorem monitorShare_dlm (apart : Bool) (s : State) : (monitorShare apart s).dlm = s.dlm := by
  unfold monitorShare
  cases apart <;> simp [applyCutoff_dlm]

/-- A window that has not counted 50 sample sets is not due (R110). -/
theorem settleDue_dlm {s : State} (h : s.dlm.winCount < 50) : (settleDue s).dlm = s.dlm := by
  unfold settleDue
  rw [settleLift_dlm, settleEngage_dlm, applyCutoff_dlm, settleLowClear_dlm, settleLowSet_dlm, closeClassWindow,
    if_neg (by rw [completeCapture_dlm]; omega), completeCapture_dlm]

section
variable {scan : Scan} {o : SampleOrder} {s : State}

theorem scanned_dlm (h : s.dlm.winCount < 50) : (scanned scan o s).dlm = s.dlm := by
  have start : (captureStart scan o s).dlm = s.dlm := by
    unfold captureStart
    split
    · rw [scanChannels_dlm, settleDue_dlm h]
    · rw [failLost_dlm, scanChannels_dlm, settleDue_dlm h]
  rw [scanned_eq]
  split
  · rw [monitorShare_dlm, start]
  · exact start

/-- R114: where the DLM acts first, the loops are updated with the class that the sample set leaves. -/
theorem updateReady_dlm_first (h : o.loadFirst = true) : (updateReady scan o s).dlm = (sampleSet scan o s).dlm := by
  have shared : (sideShare o (scanned scan o s)).dlm = (updateReady scan o s).dlm := by
    rw [sideShare_eq, afterLoops, if_pos h, completionShare_dlm]
    split
    · rfl
    · rw [applyLoss_dlm]
      rfl
  have ended : (captureEnd scan o s).dlm = (updateReady scan o s).dlm := by
    unfold captureEnd
    dsimp only
    split
    · rw [failLost_dlm, captureShare_dlm, shared]
    · rw [captureShare_dlm, shared]
  rw [sampleSet_eq_captureEnd, ← ended]
  split
  · rfl
  · rw [monitorShare_dlm]

/-- R114: where the DLM acts later, the loops are updated with the class of before. -/
theorem updateReady_dlm_later (h : o.loadFirst = false) (hw : s.dlm.winCount < 50) :
    (updateReady scan o s).dlm = s.dlm := by
  rw [← scanned_dlm (scan := scan) (o := o) hw, updateReady, beforeLoops, h, if_neg Bool.false_ne_true]
  split
  · rw [applyLoss_dlm, readSides_dlm]
  · exact readSides_dlm _

/-! ### What the loop updates find of the other blocks -/

theorem beforeLoops_frame (o : SampleOrder) (s : State) : ShareFrame s (beforeLoops o s) := by
  have loaded := (readSides_frame s).optional o.loadFirst (sampleLoad_frame o.apart)
  exact .ite (fun _ => loaded.trans (applyLoss_frame _ _)) fun _ => loaded

theorem updateReady_frame : SampleFrame s (updateReady scan o s) := by
  have early : ShareFrame (scanChannels scan (settleDue s)) (scanned scan o s) :=
    .optional _ (.deferred _ .rfl (failLost_frame _)) (monitorShare_frame _)
  exact ((settleDue_frame s).toSampleFrame.trans (scanChannels_frame scan _)).trans
    (early.trans (beforeLoops_frame o _)).toSampleFrame

/-- The loops are updated with the readings that the sample set leaves. -/
theorem updateReady_sru : (updateReady scan o s).sru = (sampleSet scan o s).sru := by
  have read : ChannelsStand (readSides (scanned scan o s)) (readSides (scanned scan o s)) := .rfl
  have loaded := read.optional o.loadFirst (sampleLoad_stands o.apart)
  have ready : ChannelsStand (readSides (scanned scan o s)) (updateReady scan o s) :=
    .ite (fun _ => loaded.trans (applyLoss_stands _ _)) fun _ => loaded
  rw [ready.sru, (sampleSet_readings scan o s).sru]

/-- R61: a sample set does not move the targets. -/
theorem SampleFrame.targets_eq {s t : State} (h : SampleFrame s t) : targets t = targets s := by
  unfold targets
  rw [h.pcu, h.pt, h.cfg]

/-! ### The loops after a sample set (R89 to R97, R186) -/

theorem CutState.timed_iff (c : CutState) : c.timed = true ↔ c = .engaging ∨ c = .lifting := by cases c <;> decide

theorem CutState.loops_iff (c : CutState) :
    c.loops = true ↔ c.timed = true ∨ c = .cutting ∨ c = .holdSoft := by cases c <;> decide

variable (scan o s)

/-- The loop update of a side at a sample set. -/
theorem updated_dlu (i : Side) :
    (updateLoops (updateReady scan o s)).dlu.get i =
      loopSide (updateReady scan o s).csc.state s.cfg.plan (s.cfg.side.get i) (updateReady scan o s).dlm.material
        ((targets s).map fun x => x.get i) ((sampleSet scan o s).sru.sides.get i)
        (lawRuns (updateReady scan o s).csc.state ((updateReady scan o s).vos.legs.get i))
        ((updateReady scan o s).dlu.get i) := by
  rw [updateLoops_dlu, updateReady_frame.cfg, updateReady_sru, targetOf, updateReady_frame.targets_eq]

/-- R89: the error and the far mark, in every cut state. -/
theorem sampleSet_error (i : Side) :
    ((sampleSet scan o s).dlu.get i).err =
        ((sampleSet scan o s).dlu.get i).sp - ((sampleSet scan o s).sru.sides.get i).depth ∧
      ((sampleSet scan o s).dlu.get i).far =
        decide ((s.cfg.side.get i).farTol < ((sampleSet scan o s).dlu.get i).err.natAbs) := by
  have alike := sampleSet_loops (scan := scan) (o := o) (s := s) |>.alike i
  rw [alike.err, alike.far, alike.sp, updated_dlu]
  exact loopSide_error _ _ _ _ _ _ _ _

variable {scan o s}

/-- R80, R84: the setpoints stand outside ENGAGING and LIFTING. -/
theorem sampleSet_sp_stands (h : s.csc.state.timed = false) (i : Side) :
    ((sampleSet scan o s).dlu.get i).sp = (s.dlu.get i).sp := by
  have before := updateReady_loops (scan := scan) (o := o) (s := s)
  have untimed : (updateReady scan o s).csc.state.timed = false := by
    by_contra ht
    rw [Bool.not_eq_false] at ht
    rw [before.approach ht, h] at ht
    cases ht
  rw [(sampleSet_loops.alike i).sp, updated_dlu, loopSide_setpoint, moveSetpoint_stands _ _ _ _ untimed,
    (before.alike i).sp]

/-- R90, R96: where the law runs for no output, the integrator stands, but for its reset. -/
theorem sampleSet_integ_idle (h : s.csc.state.loops = false) (i : Side) :
    ((sampleSet scan o s).dlu.get i).integ =
      if ((sampleSet scan o s).sru.sides.get i).leftLost then 0 else (s.dlu.get i).integ := by
  have before := updateReady_loops (scan := scan) (o := o) (s := s)
  have idle : lawRuns (updateReady scan o s).csc.state ((updateReady scan o s).vos.legs.get i) = false := by
    by_contra hr
    rw [Bool.not_eq_false, lawRuns_iff] at hr
    rw [before.loops hr.loops] at h
    cases h
  rw [(sampleSet_loops.alike i).integ, updated_dlu, idle, (loopSide_idle _ _ _ _ _ _ _).1, (before.alike i).integ]

/-- What a sample set leaves of a side that the law runs for, of gain set k. -/
structure LawTaken (s t : State) (i : Side) (k : GainSet) : Prop where
  under : UnderLoop t i
  held : (t.vos.legs.get i).held = (t.dlu.get i).drive
  gain : (t.dlu.get i).gain = k
  obeys : ObeysLaw (s.cfg.side.get i) ((s.cfg.side.get i).gains k) (t.sru.sides.get i).ref
    (limitInteg ((s.cfg.side.get i).gains k) (if (t.sru.sides.get i).leftLost then 0 else (s.dlu.get i).integ))
    (t.dlu.get i)

/-- R90 to R97, R186: a side under LOOP comes to rest in READY, or takes the law's command. -/
theorem sampleSet_law (h : Uncut scan o s) {i : Side} (ho : (s.vos.legs.get i).owner = .loop) :
    AtRest (sampleSet scan o s) i ∨
      LawTaken s (sampleSet scan o s) i (gainFor (updateReady scan o s).dlm.material) := by
  have before := updateReady_loops (scan := scan) (o := o) (s := s)
  have after := sampleSet_loops (scan := scan) (o := o) (s := s)
  rcases before.runs h i ⟨h.2, ho⟩ with rested | ⟨under, -⟩
  · exact .inl (after.rest h i (updateLoops_rest rested))
  · obtain ⟨runs, held⟩ := updateLoops_runs under
    refine (after.runs h i runs).imp_right fun ⟨still, same⟩ => ?_
    have loop := updated_dlu scan o s i
    rw [(lawRuns_iff _ i).2 under] at loop
    have law := loopSide_obeys (updateReady scan o s).csc.state s.cfg.plan (s.cfg.side.get i)
      (updateReady scan o s).dlm.material ((targets s).map fun x => x.get i) ((sampleSet scan o s).sru.sides.get i)
      ((updateReady scan o s).dlu.get i)
    rw [← loop, (before.alike i).integ] at law
    exact ⟨still, by rw [same.held, held, same.drive], by rw [(after.alike i).gain, law.1],
      law.2.congr (after.alike i) same.u same.drive⟩

end

/-- R97: the drive of a loop command, by its sign. -/
theorem deadZone_cases (vmin : Nat) (u : Int) :
    (u = 0 → deadZone vmin u = 0) ∧
      (0 < u → deadZone vmin u = (vmin : Int) + (u.natAbs : Int) * (1000 - (vmin : Int)) / 1000) ∧
      (u < 0 → deadZone vmin u = -((vmin : Int) + (u.natAbs : Int) * (1000 - (vmin : Int)) / 1000)) := by
  unfold deadZone
  refine ⟨fun h => if_pos h, fun h => ?_, fun h => ?_⟩
  · rw [if_neg h.ne', if_neg (not_lt.2 h.le)]
  · rw [if_neg h.ne, if_pos h]

/-- Settles O12: the rest of a sample set leaves the loop update as it was, or brings the side to rest in READY. -/
theorem loopUpdateFollowsLaw : Obligations.LoopUpdateFollowsLaw := by
  intro scan o s hs
  refine ⟨_, exec_sampleSet scan o hs, fun side => ?_⟩
  dsimp only
  rw [arbitrate_dlu, arbitrate_sru, arbitrate_vos, arbitrate_csc, arbitrate_dlm]
  obtain ⟨err, far⟩ := sampleSet_error scan o s side
  rw [← CutState.timed_iff, ← CutState.loops_iff]
  refine ⟨err, far, fun h => sampleSet_sp_stands (Bool.not_eq_true _ ▸ h) side,
    fun h => sampleSet_integ_idle (Bool.not_eq_true _ ▸ h) side, fun hl hn ho => ?_⟩
  rcases sampleSet_law ⟨hn, hl⟩ ho with rested | taken
  · exact ⟨fun _ => ⟨rested.u, rested.drive, rested.held, rested.owner⟩, fun h => absurd rested.state h⟩
  · refine ⟨fun h => ?_, fun _ => ?_⟩
    · have := taken.under.loops
      rw [h] at this
      cases this
    · obtain ⟨lost, deadband, within, limited, drive⟩ := taken.obeys
      obtain ⟨zero, lower, lift⟩ := deadZone_cases (s.cfg.side.get side).vmin ((sampleSet scan o s).dlu.get side).u
      rw [← drive] at zero lower lift
      simp only [← SideRec.gains_eq, ← limitInteg_eq, taken.gain]
      refine ⟨fun hf => ?_, fun hf hw => ?_, lost, deadband, within, fun h he hu => ?_, zero, lower, lift, taken.held,
        taken.under.owner⟩
      · rw [gainFor_eq, updateReady_dlm_first hf]
      · rw [gainFor_eq, updateReady_dlm_later hf hw]
      · obtain ⟨u, integ⟩ := limited h he hu
        exact ⟨u, fun hne => integ.trans (if_pos hne), fun heq => integ.trans (if_neg (not_not.2 heq))⟩

end Sys2Proof.Machine

namespace Sys2Proof.Machine

/-! ### The setpoints by time (R78, R80, R84) -/

/-- R45, R171: no side enters LOST at a sample set that leaves none LOST. -/
theorem entersLost_none {before after : Sides SideRef} (hl : after.left.ref ≠ .lost) (hr : after.right.ref ≠ .lost) :
    entersLost before after = false := by simp [entersLost, hl, hr]

theorem beforeLoops_state {o : SampleOrder} {s : State} (hl : (readSides s).sru.sides.left.ref ≠ .lost)
    (hr : (readSides s).sru.sides.right.ref ≠ .lost) : (beforeLoops o s).csc.state = s.csc.state := by
  have loaded : (if o.loadFirst then sampleLoad o.apart (readSides s) else readSides s).csc.state = s.csc.state := by
    split
    · rw [sampleLoad_csc, readSides_csc]
    · rw [readSides_csc]
  unfold beforeLoops
  dsimp only
  rw [entersLost_none hl hr]
  split
  · exact loaded
  · exact loaded

section
variable {scan : Scan} {o : SampleOrder} {s : State} (h : Uncut scan o s)
  (hb : ¬(10 ≤ s.dlu.left.settle ∧ 10 ≤ s.dlu.right.settle))
  (hl : (sampleSet scan o s).sru.sides.left.ref ≠ .lost) (hr : (sampleSet scan o s).sru.sides.right.ref ≠ .lost)
include h hb hl hr

/-- With no cutoff, no completion due and no side LOST, the loops are updated in the state that the sample set found. -/
theorem updateReady_state : (updateReady scan o s).csc.state = s.csc.state := by
  rw [(sampleSet_readings scan o s).sru] at hl hr
  rw [updateReady, beforeLoops_state hl hr, (scanned_untouched h hb).state]

/-- The setpoint of a side is the one of before, moved once (R80, R84). -/
theorem sampleSet_setpoint (i : Side) :
    ((sampleSet scan o s).dlu.get i).sp =
      (moveSetpoint s.csc.state s.cfg.plan ((targets s).map fun x => x.get i) (s.dlu.get i)).sp := by
  rw [(sampleSet_loops.alike i).sp, updated_dlu, loopSide_setpoint, updateReady_state h hb hl hr]
  exact moveSetpoint_sp_congr _ _ _ _ (updateReady_loops.alike i).sp

end

/-- R78: a setpoint that moves toward a goal by at most one rate, then limited, in each of its cases. -/
theorem limitSetpoint_moveToward (maxDepth rate : Nat) (goal old : Int) :
    ((goal - old).natAbs ≤ rate →
      limitSetpoint maxDepth (moveToward goal rate old) = max (-500) (min (maxDepth : Int) goal)) ∧
    (rate < (goal - old).natAbs → old < goal →
      limitSetpoint maxDepth (moveToward goal rate old) = max (-500) (min (maxDepth : Int) (old + rate))) ∧
    (rate < (goal - old).natAbs → goal < old →
      limitSetpoint maxDepth (moveToward goal rate old) = max (-500) (min (maxDepth : Int) (old - rate))) := by
  rw [limitSetpoint_eq]
  exact ⟨fun near => by rw [moveToward_near near], fun far below => by rw [moveToward_up far below],
    fun far above => by rw [moveToward_down far above]⟩

/-- Settles O13: in ENGAGING and LIFTING the one loop update of the sample set moves the setpoint of before. -/
theorem setpointsMoveByTime : Obligations.SetpointsMoveByTime := by
  intro scan o s hs hn hb
  refine ⟨_, exec_sampleSet scan o hs, fun hl hr side => ?_⟩
  rw [arbitrate_sru] at hl hr
  dsimp only
  rw [arbitrate_dlu]
  have moved (runs : s.csc.state.loops = true) := sampleSet_setpoint ⟨hn, runs⟩ hb hl hr side
  refine ⟨fun he ht => ?_, fun goal he ht => ?_, fun hlift => ?_⟩
  · rw [moved (by rw [he]; rfl), he, ht]
    rfl
  · rw [moved (by rw [he]; rfl), he, ht]
    exact limitSetpoint_moveToward _ _ _ _
  · rw [moved (by rw [hlift]; rfl), hlift]
    exact limitSetpoint_moveToward _ _ _ _

end Sys2Proof.Machine

namespace Sys2Proof.Machine

/-! ### The conditions of the level sources over the shares of a sample set (R209) -/

@[simp] theorem completeCapture_cond (s : State) : (completeCapture s).li.events.cond = s.li.events.cond := by
  unfold completeCapture
  split
  · rfl
  · split
    · rw [raise_cond, State.mapSfe_li]
    · rfl

@[simp] theorem failCapture_cond (s : State) : (failCapture s).li.events.cond = s.li.events.cond := by
  unfold failCapture
  split
  · rfl
  · split
    · exact completeCapture_cond s
    · rw [raise_cond, State.mapSfe_li]

theorem failLost_cond (lost : List Chan) (s : State) : (failLost lost s).li.events.cond = s.li.events.cond := by
  unfold failLost
  split
  · exact failCapture_cond s
  · rfl

/-- A change of the cut state but into ENGAGING, at which the PT works out its conditions, and into CONFIG. -/
theorem changeState_cond {new : CutState} (he : new ≠ .engaging) (hc : new ≠ .config) (s : State) :
    (changeState new s).li.events.cond = s.li.events.cond := by
  rw [changeState_eq]
  unfold highChange sfeChange
  rw [if_neg fun h => he h.2]
  dsimp only
  rw [if_neg hc]
  split
  · rw [failCapture_cond, turned_li]
  · rw [turned_li]

theorem enterHold_cond {new : CutState} (he : new ≠ .engaging) (hc : new ≠ .config) (cause : HoldCause) (s : State) :
    (enterHold new cause s).li.events.cond = s.li.events.cond :=
  (raise_cond _ _).trans (changeState_cond he hc s)

theorem settleEngage_cond (s : State) : (settleEngage s).li.events.cond = s.li.events.cond := by
  unfold settleEngage
  split
  · exact (raise_cond _ _).trans (changeState_cond (by decide) (by decide) s)
  · rfl

theorem settleLift_cond (s : State) : (settleLift s).li.events.cond = s.li.events.cond := by
  unfold settleLift
  split
  · exact (raise_cond _ _).trans (changeState_cond (by decide) (by decide) s)
  · rfl

theorem applyLoss_cond (lost : Bool) (s : State) : (applyLoss lost s).li.events.cond = s.li.events.cond := by
  unfold applyLoss
  split
  · split
    case h_1 | h_2 | h_3 => exact enterHold_cond (by decide) (by decide) _ s
    all_goals rfl
  · rfl

theorem applyCutoff_cond (s : State) : (applyCutoff s).li.events.cond = s.li.events.cond := by
  unfold applyCutoff
  split
  · dsimp only
    split
    case h_6 | h_7 => rfl
    all_goals exact enterHold_cond (by decide) (by decide) _ _
  · rfl

theorem completionShare_cond (apart : Bool) (s : State) :
    (completionShare apart s).li.events.cond = s.li.events.cond := by
  unfold completionShare
  split
  · rfl
  · rw [settleLift_cond, settleEngage_cond]

theorem captureShare_cond (apart : Bool) (s : State) : (captureShare apart s).li.events.cond = s.li.events.cond := by
  have counted : (countCapture s).li = s.li := rfl
  unfold captureShare
  cases apart <;> simp [counted]

/-- The supply monitor judges its own source alone (R191). -/
theorem monitorShare_condition {e : EventSrc} (he : e.id ≠ EventSrc.supplyLow.id) (apart : Bool) (s : State) :
    condition e (monitorShare apart s) = condition e s := by
  have lowSet (u : State) : SourceStands e u (settleLowSet u) := .ite (setCond_source he _ _).after (.of_events rfl)
  have lowClear (u : State) : SourceStands e u (settleLowClear u) := .ite (setCond_source he _ _).after (.of_events rfl)
  have counted : condition e (countCutoff (s.mapVos (Vos.countSupply s.cfg.lowLevel))) = condition e s := by
    rw [condition, countCutoff_li]
    rfl
  unfold monitorShare
  dsimp only
  split
  · exact counted
  · rw [condition, applyCutoff_cond]
    exact (lowClear _).cond.trans ((lowSet _).cond.trans counted)

end Sys2Proof.Machine

namespace Sys2Proof.Machine

/-! ### The pressure that the DLM reads (R106, R107) -/

/-- A zero is neither a role nor a published value. -/
theorem Channel.SameButZero.published {c d : Channel} (h : c.SameButZero d) :
    c.cfg.role = d.cfg.role ∧ c.usable = d.usable ∧ c.pubValue = d.pubValue := by
  rw [h]
  exact ⟨Eq.refl _, Eq.refl _, Eq.refl _⟩

theorem pressure_congr {c d : Chans Channel} (h : SameButZeros c d) : pressure c = pressure d := by
  have same : (channelsWith c fun x => x.cfg.role == .pressure) = channelsWith d fun x => x.cfg.role == .pressure :=
    List.filter_congr fun i _ => congrArg (· == Role.pressure) (h i).published.1
  unfold pressure
  rw [same]
  split
  · rename_i i _
    rw [(h i).published.2.1, (h i).published.2.2]
  · rfl

theorem pressure_usable {cs : Chans Channel} {c : Chan} (hc : channelsWith cs (fun x => x.cfg.role == .pressure) = [c])
    (hu : (cs.get c).pubState ≠ .unqualified) : pressure cs = some (cs.get c).pubValue := by
  unfold pressure
  rw [hc]
  exact if_pos (bne_iff_ne.2 hu)

theorem pressure_unusable {cs : Chans Channel}
    (h : ∀ c, channelsWith cs (fun x => x.cfg.role == .pressure) = [c] → (cs.get c).pubState = .unqualified) :
    pressure cs = none := by
  unfold pressure
  split
  · rename_i c hc
    exact if_neg fun hu => bne_iff_ne.1 hu (h c hc)
  · rfl

theorem loadIndex_eq (p : Int) (offset gain : Nat) :
    loadIndex p offset gain = (max 0 (min 1000 ((p - (offset : Int)) * (gain : Int) / 16))).toNat := by
  rw [loadIndex, clamp_eq (by decide)]

/-! ### The classification window (R109 to R112) -/

theorem Dlm.material_isHard (d : Dlm) :
    (d.material == .hard) = decide ((if d.mode = .auto then d.auto else d.manual) = .hard) := by
  rw [beq_eq_decide]
  unfold Dlm.material
  cases d.mode <;> rfl

/-- R110, R111: the counters and the class as the rules give them. -/
theorem Dlm.closeWindow_eq (l : LimitsRec) (d : Dlm) :
    d.closeWindow l =
      let mean := d.winSum / 50
      let hard := if l.hardOn ≤ mean then min 15 (d.hardCount + 1) else 0
      let soft := if l.hardOn ≤ mean then 0 else if mean < l.hardOff then min 7 (d.softCount + 1) else 0
      { d with
        winSum := 0, winCount := 0, lastMean := mean, hardCount := hard, softCount := soft,
        auto := if l.classLock ≤ hard then .hard else if l.classUnlock ≤ soft then .soft else d.auto } := by
  have judged (e : Dlm) : judgeClass l e =
      { e with auto := if l.classLock ≤ e.hardCount then .hard else if l.classUnlock ≤ e.softCount then .soft
                       else e.auto } := by
    unfold judgeClass
    split
    · rfl
    · split <;> rfl
  unfold Dlm.closeWindow
  dsimp only
  rw [judged]
  unfold moveCounters
  by_cases hon : l.hardOn ≤ d.winSum / 50
  · simp only [if_pos hon]
  · by_cases hoff : d.winSum / 50 < l.hardOff
    · simp only [if_neg hon, if_pos hoff]
    · simp only [if_neg hon, if_neg hoff]

theorem closeClassWindow_young {s : State} (h : s.dlm.winCount < 50) : closeClassWindow s = s :=
  if_neg (Nat.not_le.2 h)

theorem closeClassWindow_due {s : State} (h : 50 ≤ s.dlm.winCount) :
    closeClassWindow s = judgeMaterial (s.mapDlm (Dlm.closeWindow s.cfg.limits)) := if_pos h

theorem exec_classWindowClose {s : State} (h : s.pins.resetHeld = false) :
    exec .classWindowClose s = .next (arbitrate (closeClassWindow s)) := act_free _ h

/-! ### The DLM's share of a sample set (R106 to R111) -/

/-- The DLM after its share: the sample taken, and a window that has counted 50 closed unless its close is left due. -/
def Dlm.share (apart : Bool) (p : Option Int) (l : LimitsRec) (d : Dlm) : Dlm :=
  if apart = false ∧ 50 ≤ (d.sample p l).winCount then (d.sample p l).closeWindow l else d.sample p l

/-- What the DLM's share made of s is still there in t. -/
structure LoadTaken (apart : Bool) (s t : State) : Prop where
  dlm : t.dlm = s.dlm.share apart (pressure s.sfe.chans) s.cfg.limits
  judged : apart = false → 50 ≤ (s.dlm.sample (pressure s.sfe.chans) s.cfg.limits).winCount →
    condition .materialHard t = (t.dlm.material == .hard)

theorem sampleLoad_taken (apart : Bool) (s : State) : LoadTaken apart s (sampleLoad apart s) := by
  cases apart with
  | true => exact ⟨(if_neg (by simp)).symm, by simp⟩
  | false =>
    have taken : sampleLoad false s =
        closeClassWindow (s.mapDlm (Dlm.sample (pressure s.sfe.chans) s.cfg.limits)) := rfl
    rw [taken]
    by_cases h : 50 ≤ (s.dlm.sample (pressure s.sfe.chans) s.cfg.limits).winCount
    · rw [closeClassWindow_due h]
      refine ⟨?_, fun _ _ => ?_⟩
      · rw [judgeMaterial_dlm, Dlm.share, if_pos ⟨rfl, h⟩]
        rfl
      · rw [judgeMaterial_dlm]
        exact setCond_condition_self _ _ _
    · rw [closeClassWindow_young (Nat.not_le.1 h)]
      exact ⟨(if_neg fun k => h k.2).symm, fun _ k => absurd k h⟩

/-- The share reads the DLM, the channels but for their zeros, and the records. -/
theorem LoadTaken.of_before {apart : Bool} {s t u : State} (h : LoadTaken apart t u) (dlm : t.dlm = s.dlm)
    (chans : SameButZeros t.sfe.chans s.sfe.chans) (cfg : t.cfg = s.cfg) : LoadTaken apart s u := by
  obtain ⟨taken, judged⟩ := h
  rw [dlm, pressure_congr chans, cfg] at taken judged
  exact ⟨taken, judged⟩

theorem LoadTaken.stands {apart : Bool} {s t u : State} (h : LoadTaken apart s t) (dlm : u.dlm = t.dlm)
    (cond : condition .materialHard u = condition .materialHard t) : LoadTaken apart s u :=
  ⟨dlm.trans h.dlm, fun ha hw => by rw [cond, dlm, h.judged ha hw]⟩

/-- What the DLU and the CSC do in the share of the side readings: the loops, the loss of a side and the completions. -/
def lossShare (o : SampleOrder) (lost : Bool) (s : State) : State :=
  completionShare o.apart (if o.lossFirst then updateLoops (applyLoss lost s) else applyLoss lost (updateLoops s))

theorem sideShare_eq_lossShare (o : SampleOrder) (s : State) :
    sideShare o s =
      let lost := entersLost s.sru.sides (readSides s).sru.sides
      if o.loadFirst then lossShare o lost (sampleLoad o.apart (readSides s))
      else sampleLoad o.apart (lossShare o lost (readSides s)) := by
  unfold sideShare
  cases o.loadFirst <;> rfl

section
variable (o : SampleOrder) (lost : Bool) (s : State)

theorem lossShare_dlm : (lossShare o lost s).dlm = s.dlm := by
  unfold lossShare
  rw [completionShare_dlm]
  split
  · rw [updateLoops_dlm, applyLoss_dlm]
  · rw [applyLoss_dlm, updateLoops_dlm]

theorem lossShare_cond : (lossShare o lost s).li.events.cond = s.li.events.cond := by
  unfold lossShare
  rw [completionShare_cond]
  split
  · rw [updateLoops_li, applyLoss_cond]
  · rw [applyLoss_cond, updateLoops_li]

theorem lossShare_cfg : (lossShare o lost s).cfg = s.cfg := by
  unfold lossShare
  rw [(completionShare_frame _ _).cfg]
  split
  · rw [(updateLoops_frame _).cfg, (applyLoss_frame _ _).cfg]
  · rw [(applyLoss_frame _ _).cfg, (updateLoops_frame _).cfg]

theorem lossShare_chans : SameButZeros (lossShare o lost s).sfe.chans s.sfe.chans := by
  refine (completionShare_chans _ _).trans ?_
  split
  · rw [updateLoops_sfe]
    exact applyLoss_chans _ _
  · exact (applyLoss_chans _ _).trans (.of_eq (by rw [updateLoops_sfe]))

theorem sideShare_load : LoadTaken o.apart s (sideShare o s) := by
  have read : SameButZeros (readSides s).sfe.chans s.sfe.chans := .of_eq (by rw [readSides_sfe])
  rw [sideShare_eq_lossShare]
  generalize entersLost s.sru.sides (readSides s).sru.sides = lost
  dsimp only
  split
  · refine ((sampleLoad_taken o.apart (readSides s)).stands (lossShare_dlm _ _ _) ?_).of_before (readSides_dlm s) read
      (readSides_frame s).cfg
    rw [condition, lossShare_cond]
    rfl
  · exact (sampleLoad_taken o.apart _).of_before ((lossShare_dlm _ _ _).trans (readSides_dlm s))
      ((lossShare_chans _ _ _).trans read) ((lossShare_cfg _ _ _).trans (readSides_frame s).cfg)

end

/-- A sample set that finds no close due leaves the DLM as its share made it of the channels that the set leaves. -/
theorem sampleSet_load (scan : Scan) (o : SampleOrder) {s : State} (h : s.dlm.winCount < 50) :
    let t := sampleSet scan o s
    t.dlm = s.dlm.share o.apart (pressure t.sfe.chans) s.cfg.limits ∧
      (o.apart = false → 50 ≤ (s.dlm.sample (pressure t.sfe.chans) s.cfg.limits).winCount →
        condition .materialHard t = (t.dlm.material == .hard)) := by
  have failed (u : State) : (if o.captureFirst then failLost (lostAt scan s) u else u).dlm = u.dlm ∧
      condition .materialHard (if o.captureFirst then failLost (lostAt scan s) u else u) =
        condition .materialHard u := by
    split
    · exact ⟨failLost_dlm _ _, by rw [condition, failLost_cond]; rfl⟩
    · exact ⟨rfl, rfl⟩
  have monitored (u : State) : (if o.monitorFirst then u else monitorShare o.apart u).dlm = u.dlm ∧
      condition .materialHard (if o.monitorFirst then u else monitorShare o.apart u) = condition .materialHard u := by
    split
    · exact ⟨rfl, rfl⟩
    · exact ⟨monitorShare_dlm _ _, monitorShare_condition (by decide) _ _⟩
  have captured : LoadTaken o.apart (scanned scan o s) (captureShare o.apart (sideShare o (scanned scan o s))) :=
    (sideShare_load o _).stands (captureShare_dlm _ _) (by rw [condition, captureShare_cond]; rfl)
  have taken : LoadTaken o.apart (scanned scan o s) (sampleSet scan o s) := by
    rw [sampleSet_eq]
    exact (captured.stands (failed _).1 (failed _).2).stands (monitored _).1 (monitored _).2
  obtain ⟨dlm, judged⟩ := taken
  rw [scanned_dlm h, scanned_cfg, ← pressure_congr (sampleSet_chans_scanned scan o s)] at dlm judged
  exact ⟨dlm, judged⟩

/-- Settles O14: the DLM's share of a sample set reads the pressure that the set leaves, and nothing after it touches
the DLM or its condition. -/
theorem loadMonitorFollowsPressure : Obligations.LoadMonitorFollowsPressure := by
  refine ⟨fun scan o s hs hw => ⟨_, exec_sampleSet scan o hs, ?_⟩, fun s hs => ⟨fun hw => ?_, fun hw => ?_⟩⟩
  · obtain ⟨dlm, judged⟩ := sampleSet_load scan o hw
    have material : condition .materialHard (arbitrate (sampleSet scan o s)) =
        condition .materialHard (sampleSet scan o s) := by rw [condition, arbitrate_events]; rfl
    dsimp only
    rw [arbitrate_sfe, arbitrate_dlm, material]
    refine ⟨fun c hc hu => ?_, fun hu => ?_⟩
    · rw [pressure_usable hc hu] at dlm judged
      rw [← loadIndex_eq]
      refine ⟨fun hopen => ?_, fun hfull ha => ?_⟩
      · exact dlm.trans (if_neg fun ⟨ha, hc⟩ => hopen.elim (Nat.not_lt.2 hc) fun hp => by simp [hp] at ha)
      · have closes := dlm.trans (if_pos ⟨ha, hfull.ge⟩)
        rw [judged ha hfull.ge, closes, Dlm.material_isHard, Dlm.closeWindow_eq]
        exact ⟨rfl, rfl⟩
    · rw [pressure_unusable hu] at dlm
      exact dlm.trans (if_neg fun k => absurd k.2 (Nat.not_succ_le_zero 49))
  · rw [exec_classWindowClose hs, closeClassWindow_young hw]
  · rw [exec_classWindowClose hs, closeClassWindow_due hw, judgeMaterial, State.mapDlm_dlm, Dlm.material_isHard,
      State.mapDlm, Dlm.closeWindow_eq]

end Sys2Proof.Machine

namespace Sys2Proof.Machine

/-! ### The LIMITS record (R116) -/

/-- Section 6.7: the fields of a LIMITS record in range. -/
structure LimitsRec.InRange (r : LimitsRec) : Prop where
  vmax : 10 ≤ r.vmax ∧ r.vmax ≤ 600
  vminAdv : r.vminAdv ≤ 600
  creep : r.creep ≤ 600
  ls : r.ls ≤ 1000
  lh : r.lh ≤ 1000
  gain : 1 ≤ r.gain ∧ r.gain ≤ 64
  offset : r.offset ≤ 4000
  hardOn : r.hardOn ≤ 1000
  hardOff : r.hardOff ≤ 1000
  classLock : 1 ≤ r.classLock ∧ r.classLock ≤ 15
  classUnlock : 1 ≤ r.classUnlock ∧ r.classUnlock ≤ 7
  width : 500 ≤ r.width ∧ r.width ≤ 4400

/-- Section 6.7: the fields of a LIMITS record in field order, the index 0 first. -/
def limitsFields (r : LimitsRec) : List Nat :=
  [0, r.vmax, r.vminAdv, r.creep, r.ls, r.lh, r.gain, r.offset, r.hardOn, r.hardOff, r.classLock, r.classUnlock,
   r.width]

/-- R116: the bytes of a LIMITS record in range; its structural field is the drum width. -/
theorem setLimits_good {r : LimitsRec} (h : r.InRange) (s : State) :
    setLimits ((limitsFields r).flatMap (le 2)) s =
      if s.csc.state ≠ .config ∧ s.cfg.limits.width ≠ r.width then (s, replyMode) else (writeLimits r s, replyOk []) := by
  obtain ⟨hvmax, hvmin, hcreep, hls, hlh, hgain, hoffset, hon, hoff, hlock, hunlock, hwidth⟩ := h
  have small : ∀ v ∈ limitsFields r, v < 65536 := by
    simp only [limitsFields, List.forall_mem_cons, List.not_mem_nil, false_implies, implies_true, and_true]
    omega
  have fields : readFields (List.replicate 13 false) ((limitsFields r).flatMap (le 2)) =
      (limitsFields r).map Int.ofNat := readFields_naturals small
  unfold setLimits
  rw [fields]
  simp only [limitsFields, List.map_cons, List.map_nil, Int.ofNat_eq_natCast]
  rw [writeRecord_good]
  · simp only [Int.toNat_natCast, bne_iff_ne]
  · simp only [List.forall_mem_cons, within_eq_true, List.not_mem_nil, false_implies, implies_true, and_true]
    omega

/-! ### The OUTPUT record (R194) -/

/-- R199: the code of a polarity. -/
theorem Polarity.ofField_code (p : Polarity) :
    Polarity.ofField ((if p = .normal then 0 else 1 : Nat) : Int) = p := by cases p <;> decide

/-- Section 10.5: the fields of the OUTPUT record of a leg drive in field order. -/
def outputFields (i : Side) (r : OutRec) : List Nat :=
  [if i = .left then 0 else 1, r.imax, if r.polarity = .normal then 0 else 1]

/-- R194: the bytes of an OUTPUT record of three fields in range; the polarity of a leg drive is structural. -/
theorem setOutput_good {n imax polarity : Nat} (hn : n ≤ 2) (himax : 100 ≤ imax ∧ imax ≤ 2000)
    (hpolarity : polarity ≤ if n = 2 then 0 else 1) (s : State) :
    setOutput ([n, imax, polarity].flatMap (le 2)) s =
      if s.csc.state ≠ .config ∧ n ≠ 2 ∧ (s.cfg.out.get (Side.ofField n)).polarity ≠ Polarity.ofField polarity then
        (s, replyMode)
      else (writeOutput n imax polarity s, replyOk []) := by
  have bit : polarity ≤ 1 := hpolarity.trans (by split <;> decide)
  have bound : (polarity : Int) ≤ if (n : Int) = 2 then 0 else 1 := by
    by_cases h : n = 2
    · rw [if_pos h] at hpolarity
      rw [if_pos (by omega)]
      omega
    · rw [if_neg (by omega)]
      omega
  have fields : readFields (List.replicate 3 false) ([n, imax, polarity].flatMap (le 2)) =
      [n, imax, polarity].map Int.ofNat := by
    refine readFields_naturals (vs := [n, imax, polarity]) ?_
    simp only [List.forall_mem_cons, List.not_mem_nil, false_implies, implies_true, and_true]
    omega
  unfold setOutput
  rw [fields]
  simp only [List.map_cons, List.map_nil, Int.ofNat_eq_natCast]
  rw [writeRecord_good]
  · have belt : ((n : Int) != 2) = true ↔ n ≠ 2 := by
      rw [bne_iff_ne]
      omega
    simp only [Bool.and_eq_true, belt, bne_iff_ne]
  · simp only [List.forall_mem_cons, within_eq_true, List.not_mem_nil, false_implies, implies_true, and_true]
    exact ⟨by omega, by omega, by omega, bound⟩

theorem setOutput_side {i : Side} {r : OutRec} (himax : 100 ≤ r.imax ∧ r.imax ≤ 2000) (s : State) :
    setOutput ((outputFields i r).flatMap (le 2)) s =
      if s.csc.state ≠ .config ∧ (s.cfg.out.get i).polarity ≠ r.polarity then (s, replyMode)
      else ({ s with cfg := { s.cfg with out := s.cfg.out.set i r } }, replyOk []) := by
  have hside : (if i = .left then 0 else 1 : Nat) ≠ 2 := by split <;> decide
  have hpolarity : (if r.polarity = .normal then 0 else 1 : Nat) ≤ 1 := by split <;> decide
  have written : writeOutput (if i = .left then 0 else 1 : Nat) r.imax (if r.polarity = .normal then 0 else 1 : Nat) s =
      { s with cfg := { s.cfg with out := s.cfg.out.set i r } } := by
    unfold writeOutput
    rw [if_neg (by omega), Side.ofField_code, Polarity.ofField_code]
    rfl
  unfold outputFields
  rw [setOutput_good (by split <;> decide) himax (by rw [if_neg hside]; exact hpolarity), written, Side.ofField_code,
    Polarity.ofField_code]
  simp only [ne_eq, hside, not_false_eq_true, true_and]

theorem setOutput_belt {imax : Nat} (himax : 100 ≤ imax ∧ imax ≤ 2000) (s : State) :
    setOutput ([2, imax, 0].flatMap (le 2)) s =
      ({ s with cfg := { s.cfg with beltImax := imax } }, replyOk []) := by
  rw [setOutput_good (by decide) himax (by decide), if_neg fun h => h.2.1 rfl]
  rfl

/-! ### The LINK and SUPPLY records (R194, R205) -/

theorem goodPeriod_of {p : Nat} (h : p = 0 ∨ (20 ≤ p ∧ p ≤ 1000 ∧ p % 10 = 0)) : goodPeriod p = true := by
  unfold goodPeriod
  simp only [Bool.or_eq_true, Bool.and_eq_true, beq_iff_eq, within_eq_true]
  omega

/-- R205: the bytes of a LINK record in range; no field of it is structural. -/
theorem setLink_good {k period : Nat} (hk : 2 ≤ k ∧ k ≤ 9)
    (hp : period = 0 ∨ (20 ≤ period ∧ period ≤ 1000 ∧ period % 10 = 0)) (s : State) :
    setLink ([0, k, period].flatMap (le 2)) s = (writeLink k period s, replyOk []) := by
  have fields : readFields (List.replicate 3 false) ([0, k, period].flatMap (le 2)) =
      [0, k, period].map Int.ofNat := by
    refine readFields_naturals (vs := [0, k, period]) ?_
    simp only [List.forall_mem_cons, List.not_mem_nil, false_implies, implies_true, and_true]
    omega
  unfold setLink
  rw [fields]
  simp only [List.map_cons, List.map_nil, Int.ofNat_eq_natCast]
  rw [writeRecord_good]
  · simp only [Int.toNat_natCast, Bool.false_eq_true, and_false, if_false]
  · simp only [List.forall_mem_cons, within_eq_true, goodPeriod_of hp, List.not_mem_nil, false_implies, implies_true,
      and_true]
    omega

/-- R194: the bytes of a SUPPLY record in range; no field of it is structural. -/
theorem setSupply_good {level : Nat} (h : level ≤ 3) (s : State) :
    setSupply ([0, level].flatMap (le 2)) s =
      ({ s with cfg := { s.cfg with lowLevel := level } }, replyOk []) := by
  have fields : readFields (List.replicate 2 false) ([0, level].flatMap (le 2)) = [0, level].map Int.ofNat := by
    refine readFields_naturals (vs := [0, level]) ?_
    simp only [List.forall_mem_cons, List.not_mem_nil, false_implies, implies_true, and_true]
    omega
  unfold setSupply
  rw [fields]
  simp only [List.map_cons, List.map_nil, Int.ofNat_eq_natCast]
  rw [writeRecord_good]
  · simp only [Int.toNat_natCast, Bool.false_eq_true, and_false, if_false]
    rfl
  · simp only [List.forall_mem_cons, within_eq_true, List.not_mem_nil, false_implies, implies_true, and_true]
    omega

/-- Settles O47: the bytes of each record read back as its fields, and the write goes by its structural fields. -/
theorem otherRecordsAreWritten : Obligations.OtherRecordsAreWritten := by
  intro tag s hfree
  refine ⟨fun r hvmax10 hvmax600 hvmin hcreep hls hlh hgain1 hgain64 hoffset hon hoff hlock1 hlock15 hunlock1 hunlock7
      hwidth500 hwidth4400 => ?_, fun i r himax100 himax2000 => ?_, fun imax himax100 himax2000 => ?_,
    fun k period hk2 hk9 hp => ?_, fun level hlevel => ?_⟩
  · have inRange : r.InRange := ⟨⟨hvmax10, hvmax600⟩, hvmin, hcreep, hls, hlh, ⟨hgain1, hgain64⟩, hoffset, hon, hoff,
      ⟨hlock1, hlock15⟩, ⟨hunlock1, hunlock7⟩, ⟨hwidth500, hwidth4400⟩⟩
    have run := setForm_good (p := .limits) (tag := tag) (rest := (limitsFields r).flatMap (le 2)) rfl
      (by simp [limitsFields]) hfree
    rw [setLimits_good inRange] at run
    refine ⟨fun hs hw => ?_, fun hs => ?_⟩
    · rw [if_pos ⟨hs, hw⟩] at run
      exact run
    · rw [if_neg fun k => hs.elim (· k.1) k.2] at run
      exact run
  · have run := setForm_good (p := .output) (tag := tag) (rest := (outputFields i r).flatMap (le 2)) rfl
      (by simp [outputFields]) hfree
    rw [setOutput_side ⟨himax100, himax2000⟩] at run
    refine ⟨fun hs hp => ?_, fun hs => ?_⟩
    · rw [if_pos ⟨hs, hp⟩] at run
      exact run
    · rw [if_neg fun k => hs.elim (· k.1) k.2] at run
      exact run
  · have run := setForm_good (p := .output) (tag := tag) (rest := [2, imax, 0].flatMap (le 2)) rfl (by simp) hfree
    rw [setOutput_belt ⟨himax100, himax2000⟩] at run
    exact run
  · have run := setForm_good (p := .link) (tag := tag) (rest := [0, k, period].flatMap (le 2)) rfl (by simp) hfree
    rw [setLink_good ⟨hk2, hk9⟩ hp] at run
    exact run
  · have run := setForm_good (p := .supply) (tag := tag) (rest := [0, level].flatMap (le 2)) rfl (by simp) hfree
    rw [setSupply_good hlevel] at run
    exact run

end Sys2Proof.Machine

namespace Sys2Proof.Machine

/-! ### MATERIAL_SET (R112, R113) -/

theorem toNat_eq_zero_iff (b : Byte) : b.toNat = 0 ↔ b = 0#8 := by rw [← BitVec.toNat_inj]; rfl

/-- R113: the class is checked after the mode. -/
theorem materialSet_badClass {mode cls : Byte} (hm : mode.toNat ≤ 1) (hc : 1 < cls.toNat) (s : State) :
    materialSet [mode, cls] s = (s, replyField 1) := by
  simp only [materialSet, firstBad, decide_eq_true hm, decide_eq_false (Nat.not_le.2 hc), if_true, Bool.false_eq_true,
    if_false]

section
variable {cls : Byte} (h : cls.toNat ≤ 1) (s : State)
include h

/-- R113: the checks of MATERIAL_SET pass. -/
theorem materialSet_good {mode : Byte} (hm : mode.toNat ≤ 1) :
    materialSet [mode, cls] s =
      (judgeMaterial (s.mapDlm fun d =>
        if mode.toNat = 0 then { d with mode := .auto }
        else { d with mode := .manual, manual := if cls = 0#8 then .soft else .hard }), replyOk []) := by
  simp only [materialSet, firstBad, decide_eq_true hm, decide_eq_true h, if_true, toNat_eq_zero_iff cls]

/-- R112: in AUTO the class is the automatic one. -/
theorem materialSet_auto :
    materialSet [0#8, cls] s =
      (setCond .materialHard (decide (s.dlm.auto = .hard)) { s with dlm := { s.dlm with mode := .auto } },
        replyOk []) := by
  rw [materialSet_good h s (by decide), judgeMaterial, beq_eq_decide]
  rfl

/-- R112: in MANUAL the class is the one that was set. -/
theorem materialSet_manual :
    let m : Material := if cls = 0#8 then .soft else .hard
    materialSet [1#8, cls] s =
      (setCond .materialHard (decide (m = .hard)) { s with dlm := { s.dlm with mode := .manual, manual := m } },
        replyOk []) := by
  rw [materialSet_good h s (by decide), judgeMaterial, beq_eq_decide]
  rfl

end

/-! ### BELT_MODE (R132 to R134) -/

theorem latch_mapBtq (i : Nat) (f : Btq → Btq) (s : State) : (latch i s).mapBtq f = latch i (s.mapBtq f) :=
  apply_ite (State.mapBtq f) _ _ _

/-- An update of the BTQ and a judgement of a level source do not meet. -/
theorem setCond_mapBtq (e : EventSrc) (b : Bool) (f : Btq → Btq) (s : State) :
    (setCond e b s).mapBtq f = setCond e b (s.mapBtq f) := by
  unfold setCond
  dsimp only
  rw [apply_ite (State.mapBtq f), latch_mapBtq]
  rfl

/-- R199: the belt mode of a code. -/
def beltModeOf (n : Byte) : BeltMode := if n = 0#8 then .stop else if n = 1#8 then .fixed else .follow

theorem BeltMode.ofNat?_code {n : Byte} (h : n.toNat ≤ 2) : BeltMode.ofNat? n.toNat = some (beltModeOf n) := by
  have codes : n = 0#8 ∨ n = 1#8 ∨ n = 2#8 := by simp only [← BitVec.toNat_inj, BitVec.toNat_ofNat]; omega
  rcases codes with rfl | rfl | rfl <;> rfl

theorem BeltMode.ofNat?_none {n : Nat} (h : 2 < n) : BeltMode.ofNat? n = none := by
  unfold BeltMode.ofNat?
  split
  case h_4 => rfl
  all_goals omega

theorem beltMode_bad {n : Byte} (h : 2 < n.toNat) (s : State) : beltMode [n] s = (s, replyField 0) := by
  simp only [beltMode, BeltMode.ofNat?_none h]

theorem beltMode_code {n : Byte} (h : n.toNat ≤ 2) (s : State) :
    beltMode [n] s = if s.csc.state = .config then (s, replyMode) else (takeBeltMode (beltModeOf n) s, replyOk []) := by
  simp only [beltMode, BeltMode.ofNat?_code h]

theorem takeBeltMode_below {s : State} (h : s.btq.stall < 20) (m : BeltMode) :
    takeBeltMode m s =
      setCond .beltStall false { s with btq := { s.btq with mode := m, stalled := false, stall := 0 } } := by
  rw [takeBeltMode, settleBeltStall_below h]
  rfl

/-- R132, R133: a stall that is due is called, and then cleared by the mode. -/
theorem takeBeltMode_due {s : State} (h : 20 ≤ s.btq.stall) (m : BeltMode) :
    takeBeltMode m s =
      setCond .beltStall false (setCond .beltStall true
        { s with
          btq := { s.btq with mode := m, stalled := false, stall := 0, spB := 0, drive := 0 },
          vos := { s.vos with beltHeld := 0 } }) := by
  rw [takeBeltMode, settleBeltStall_due h, callBeltStall, setCond_mapBtq]
  rfl

/-! ### TRUCK_NEXT (R142) -/

theorem truckNext_eq {number target : Nat} (hn : number < 65536) (ht : target < 2 ^ 32) (s : State) :
    truckNext (le 2 number ++ le 4 target) s =
      if number = 0 then (s, replyField 0)
      else if target < 10 ∨ 200000 < target then (s, replyField 1)
      else if s.tlu.next.isSome then (s, replyBusy)
      else ({ s with tlu := { s.tlu with next := some { number := number, target := target } } }, replyOk []) := by
  have htarget : target % 4294967296 = target := Nat.mod_eq_of_lt ht
  simp only [le_two, le_four, List.cons_append, List.nil_append, truckNext, u16_le, u32_le, Nat.mod_eq_of_lt hn,
    htarget]
  rfl

/-- Settles O55: each request is its bytes read back, its checks in order, and one update of its owner. -/
theorem materialBeltAndTruckNext : Obligations.MaterialBeltAndTruckNext := by
  intro tag s hfree
  refine ⟨fun cls => ?_, fun n => ?_, fun number target hn ht => ?_⟩
  · have auto := takeRequest_good (k := .materialSet) (tag := tag) (payload := [0#8, cls]) rfl rfl hfree.1
      (.inl hfree.2)
    have manual := takeRequest_good (k := .materialSet) (tag := tag) (payload := [1#8, cls]) rfl rfl hfree.1
      (.inl hfree.2)
    refine ⟨fun hbig => ?_, fun hsmall => ?_⟩
    · rw [materialSet_badClass (by decide) hbig] at auto manual
      exact ⟨auto, manual⟩
    · rw [materialSet_auto hsmall] at auto
      rw [materialSet_manual hsmall] at manual
      exact ⟨auto, manual⟩
  · have run := takeRequest_good (k := .beltMode) (tag := tag) (payload := [n]) rfl rfl hfree.1 (.inl hfree.2)
    refine ⟨fun hbig => ?_, fun hsmall hs => ?_, fun hsmall hs hstall => ?_, fun hsmall hs hstall => ?_⟩
    · rw [beltMode_bad hbig] at run
      exact run
    · rw [beltMode_code hsmall, if_pos (show (heard s).csc.state = .config from hs)] at run
      exact run
    · rw [beltMode_code hsmall, if_neg (show (heard s).csc.state ≠ .config from hs),
        takeBeltMode_below (s := heard s) hstall] at run
      exact run
    · rw [beltMode_code hsmall, if_neg (show (heard s).csc.state ≠ .config from hs),
        takeBeltMode_due (s := heard s) hstall] at run
      exact run
  · have run := takeRequest_good (k := .truckNext) (tag := tag) (payload := le 2 number ++ le 4 target) rfl (by simp)
      hfree.1 (.inl hfree.2)
    rw [truckNext_eq hn ht] at run
    refine ⟨fun hzero => ?_, fun hpos hout => ?_, fun hpos hlow hhigh => ⟨fun hnext => ?_, fun hnext => ?_⟩⟩
    · rw [if_pos hzero] at run
      exact run
    · rw [if_neg hpos.ne', if_pos hout] at run
      exact run
    · rw [if_neg hpos.ne', if_neg (by omega), if_pos (show (heard s).tlu.next.isSome = true from
        Option.isSome_iff_ne_none.2 hnext)] at run
      exact run
    · rw [if_neg hpos.ne', if_neg (by omega), if_neg (show ¬(heard s).tlu.next.isSome = true by simp [hnext])] at run
      exact run

end Sys2Proof.Machine

namespace Sys2Proof.Machine

/-! ### The pause mark worked out (R128, R131) -/

theorem isLoading_some (x : Truck) : isLoading (some x) = true ↔ x.state = .loading := beq_iff_eq

theorem isClosing_some (x : Truck) : isClosing (some x) = true ↔ x.state = .closing := beq_iff_eq

theorem TruckState.closing_iff (st : TruckState) : st = .closing ↔ st ≠ .loading := by cases st <;> decide

theorem Tag.next_iff (t : Tag) : t = .next ↔ t ≠ .current := by cases t <;> decide

/-- R128: the belt pauses while material lies at the discharge that no truck takes: there is none, or it is CLOSING and
the material is not its own. -/
theorem pauseMark_iff (t : Option Truck) {segs : List Segment} {z : Segment} (h : segs.getLast? = some z) :
    pauseMark t segs = true ↔ 0 < z.vol ∧ ∀ x, t = some x → x.state = .closing ∧ z.tag = .next := by
  cases t with
  | none => simp [pauseMark, h, isLoading, isClosing]
  | some x =>
    simp only [pauseMark, h, Bool.and_eq_true, Bool.not_eq_true', decide_eq_true_eq, ← Bool.not_eq_true,
      isLoading_some, isClosing_some, beq_iff_eq, TruckState.closing_iff, Tag.next_iff, and_assoc]
    refine and_congr_right fun _ => ⟨?_, fun k => ⟨(k x rfl).1, fun hc => (k x rfl).2 hc.2⟩⟩
    rintro ⟨hl, ht⟩ y hy
    obtain rfl := Option.some.inj hy
    exact ⟨hl, fun hc => ht ⟨hl, hc⟩⟩

/-- R128: a LOADING truck lets no pause stand. -/
theorem pauseMark_loading {x : Truck} (h : x.state = .loading) (segs : List Segment) :
    pauseMark (some x) segs = false := by
  unfold pauseMark
  split
  · rfl
  · rw [(isLoading_some x).2 h, Bool.not_true, Bool.and_false, Bool.false_and]

/-- Of the BTQ, at most the pause mark and the drive differ. -/
def Btq.PauseOnly (b c : Btq) : Prop := c = { b with paused := c.paused, drive := c.drive }

theorem Btq.PauseOnly.rfl {b : Btq} : b.PauseOnly b := Eq.refl _

theorem Btq.PauseOnly.trans {a b c : Btq} (h : a.PauseOnly b) (k : b.PauseOnly c) : a.PauseOnly c := by
  unfold Btq.PauseOnly at *
  rw [k, h]

theorem workOutPause_pauseOnly (s : State) : s.btq.PauseOnly (workOutPause s).btq := by
  unfold workOutPause Btq.PauseOnly
  dsimp only
  split <;> simp [setBeltDrive]

/-- R128, R131: what the working out of the pause mark leaves of a part whose drive stood as in s: the mark follows the
discharge segment and the current truck, with its condition, and while it is set it holds the drive at 0. -/
structure PauseJudged (s t : State) : Prop where
  paused : t.btq.paused = pauseMark t.tlu.current t.btq.segs
  cond : condition .beltPaused t = t.btq.paused
  held : t.btq.paused = true → t.btq.drive = 0 ∧ t.vos.beltHeld = 0
  free : t.btq.paused = false → t.btq.drive = s.btq.drive ∧ t.vos.beltHeld = s.vos.beltHeld

theorem workOutPause_judged (s : State) : PauseJudged s (workOutPause s) := by
  unfold workOutPause
  dsimp only
  split
  · rename_i hp
    refine ⟨?_, ?_, fun _ => ⟨rfl, rfl⟩, fun h => ?_⟩
    · simp [setBeltDrive]
    · exact (setCond_condition_self .beltPaused _ _).trans (by simp [setBeltDrive])
    · simp [setBeltDrive, hp] at h
  · rename_i hp
    refine ⟨by simp, (setCond_condition_self .beltPaused _ _).trans (by simp), fun h => ?_, fun _ => by simp⟩
    simp [hp] at h

theorem PauseJudged.of_start {s s' t : State} (h : PauseJudged s' t) (hd : s'.btq.drive = s.btq.drive)
    (hv : s'.vos.beltHeld = s.vos.beltHeld) : PauseJudged s t :=
  ⟨h.paused, h.cond, h.held, by rw [← hd, ← hv]; exact h.free⟩

/-- Worked out again with nothing changed, the mark stands. -/
theorem PauseJudged.again {s u : State} (h : PauseJudged s u) : PauseJudged s (workOutPause u) := by
  obtain ⟨paused, cond, held, free⟩ := workOutPause_judged u
  have same : (workOutPause u).btq.paused = u.btq.paused := by
    rw [paused, workOutPause_tlu, workOutPause_pauseOnly u, h.paused]
  refine ⟨paused, cond, held, fun hf => ?_⟩
  obtain ⟨drive, beltHeld⟩ := free hf
  obtain ⟨drive', beltHeld'⟩ := h.free (same.symm.trans hf)
  exact ⟨drive.trans drive', beltHeld.trans beltHeld'⟩

/-- R209: of the events, a pause worked out judges BELT_PAUSED alone. -/
theorem workOutPause_source_of_ne {e : EventSrc} (h : e.id ≠ 23) (s : State) : SourceStands e s (workOutPause s) := by
  have judged : SourceStands e s (setCond .beltPaused (pauseMark s.tlu.current s.btq.segs)
      (s.mapBtq fun b => { b with paused := pauseMark s.tlu.current s.btq.segs })) :=
    (setCond_source (f := .beltPaused) h _ _).after
  exact .ite (judged.trans (.of_events rfl)) judged

/-! ### Volume lost (R122, R126, R137) -/

theorem spillVolume_btq (v : Nat) (s : State) :
    (spillVolume v s).btq = { s.btq with lostTotal := s.btq.lostTotal + v } := by
  unfold spillVolume
  dsimp only
  split
  · rw [raise_btq, State.mapBtq_btq]
  · rfl

theorem spillVolume_spills {v : Nat} {s : State} (hv : 0 < v) (h : marked s.li.events.enable 24 = true) :
    isPending .spill (spillVolume v s) = true := by
  have raised : spillVolume v s = raise .spill (s.mapBtq fun b => { b with lostTotal := b.lostTotal + v }) := if_pos hv
  rw [raised]
  exact raise_pending_self h

/-! ### The closing prediction (R146) -/

/-- R146: the prediction turns the current truck to CLOSING. -/
def callClosing (x : Truck) (s : State) : State :=
  workOutPause (raise .truckClosing (s.mapTlu fun b => { b with current := some { x with state := .closing } }))

section
variable {s : State} {x : Truck}

theorem predictClosing_due (hx : s.tlu.current = some x) (hl : x.state = .loading)
    (hd : x.target ≤ x.delivered + currentHolding s.btq.segs) : predictClosing s = callClosing x s := by
  unfold predictClosing
  rw [hx]
  exact if_pos ⟨hl, hd⟩

theorem predictClosing_idle (h : ∀ x, s.tlu.current = some x → x.state = .loading →
    x.delivered + currentHolding s.btq.segs < x.target) : predictClosing s = s := by
  unfold predictClosing
  split
  · rfl
  · rename_i x hx
    exact if_neg fun k => Nat.not_le.2 (h x hx k.1) k.2

/-- R146: the prediction calls a LOADING truck whose target the belt and the truck hold, or changes nothing. -/
theorem predictClosing_cases (s : State) :
    (∃ x, s.tlu.current = some x ∧ x.state = .loading ∧ predictClosing s = callClosing x s) ∨ predictClosing s = s := by
  by_cases h : ∃ x, s.tlu.current = some x ∧ x.state = .loading ∧ x.target ≤ x.delivered + currentHolding s.btq.segs
  · obtain ⟨x, hx, hl, hd⟩ := h
    exact .inl ⟨x, hx, hl, predictClosing_due hx hl hd⟩
  · exact .inr (predictClosing_idle fun x hx hl => Nat.not_le.1 fun hd => h ⟨x, hx, hl, hd⟩)

theorem callClosing_tlu : (callClosing x s).tlu = { s.tlu with current := some { x with state := .closing } } := by
  simp [callClosing]

theorem callClosing_pauseOnly : s.btq.PauseOnly (callClosing x s).btq := by
  refine Btq.PauseOnly.trans ?_ (workOutPause_pauseOnly _)
  rw [raise_btq]
  exact .rfl

theorem callClosing_pending (h : marked s.li.events.enable 21 = true) :
    isPending .truckClosing (callClosing x s) = true := by
  rw [callClosing, (workOutPause_source_of_ne (by decide) _).waits]
  exact raise_pending_self h

theorem callClosing_judged : PauseJudged s (callClosing x s) :=
  (workOutPause_judged _).of_start (by rw [raise_btq]; rfl) (by rw [raise_vos]; rfl)

end

theorem predictClosing_pauseOnly (s : State) : s.btq.PauseOnly (predictClosing s).btq := by
  rcases predictClosing_cases s with ⟨x, -, -, h⟩ | h
  · rw [h]
    exact callClosing_pauseOnly
  · rw [h]
    exact .rfl

/-- R128, R146: a pause that is worked out ahead of the prediction follows it. -/
theorem PauseJudged.predicted {s u : State} (h : PauseJudged s u) : PauseJudged s (predictClosing u) := by
  rcases predictClosing_cases u with ⟨x, hx, hl, called⟩ | idle
  · rw [called]
    obtain ⟨paused, cond, held, free⟩ := callClosing_judged (s := u) (x := x)
    refine ⟨paused, cond, held, fun hf => ?_⟩
    have unpaused : u.btq.paused = false := by rw [h.paused, hx, pauseMark_loading hl]
    obtain ⟨drive, beltHeld⟩ := free hf
    obtain ⟨drive', beltHeld'⟩ := h.free unpaused
    exact ⟨drive.trans drive', beltHeld.trans beltHeld'⟩
  · rw [idle]
    exact h

/-- A source beside TRUCK_CLOSING and BELT_PAUSED stands over the prediction. -/
theorem predictClosing_source_of_ne {e : EventSrc} (h21 : e.id ≠ 21) (h23 : e.id ≠ 23) (s : State) :
    SourceStands e s (predictClosing s) := by
  rcases predictClosing_cases s with ⟨x, -, -, h⟩ | h
  · rw [h]
    exact ((raise_source (f := .truckClosing) h21 _).trans (workOutPause_source_of_ne h23 _)).after
  · rw [h]
    exact .of_events rfl

/-! ### What the belt and truck operations leave of the other blocks -/

/-- Of the part, at most the BTQ, the TLU, the belt drive in force and the LI differ. -/
structure BeltFrame (s t : State) : Prop extends AdvanceFrame s t where
  pt : t.pt = s.pt := by simp
  dlu : t.dlu = s.dlu := by simp

/-- The frame as one equation between the states. -/
theorem BeltFrame.eq {s t : State} (h : BeltFrame s t) :
    t = { s with btq := t.btq, tlu := t.tlu, vos := { s.vos with beltHeld := t.vos.beltHeld }, li := t.li } := by
  have frame := h.toAdvanceFrame.eq
  rw [h.pt, h.dlu] at frame
  exact frame

/-! ### The close FULL of a truck (R147, R152, R154) -/

section
variable {s : State} {x : Truck}

/-- R152, R154: the TLU after the close of its current truck. -/
theorem closeTruck_tlu (hx : s.tlu.current = some x) (reason : CloseReason) :
    (closeTruck reason s).tlu = { s.tlu with
      current := none, closedTotal := s.tlu.closedTotal + x.delivered,
      log := ({ number := x.number, target := x.target, delivered := x.delivered, opened := x.opened,
                closed := s.pcu.station, reason := reason } :: s.tlu.log).take 8 } := by
  unfold closeTruck
  rw [hx]
  rfl

/-- R147: material of the current truck lies on the belt. -/
def HoldsCurrent (segs : List Segment) : Prop := ∃ y ∈ segs, y.tag = .current ∧ 0 < y.vol

theorem holdsCurrent_iff (segs : List Segment) :
    (segs.any fun g => g.tag == .current && decide (0 < g.vol)) = true ↔ HoldsCurrent segs := by
  simp [HoldsCurrent]

/-- R147: the close FULL of the current truck. -/
def closeFull (s : State) : State := workOutPause (raise .truckClosed (closeTruck .full s))

theorem judgeClose_closes (hx : s.tlu.current = some x) (hc : x.state = .closing) (h : ¬HoldsCurrent s.btq.segs) :
    judgeClose s = closeFull s := by
  refine if_pos ?_
  rw [hx, (isClosing_some x).2 hc, Bool.true_and, Bool.not_eq_true', ← Bool.not_eq_true, holdsCurrent_iff]
  exact h

theorem judgeClose_stays (h : ∀ x, s.tlu.current = some x → x.state = .closing → HoldsCurrent s.btq.segs) :
    judgeClose s = s := by
  refine if_neg ?_
  rw [Bool.and_eq_true, Bool.not_eq_true', ← Bool.not_eq_true, holdsCurrent_iff]
  rintro ⟨hc, hn⟩
  cases hx : s.tlu.current with
  | none => rw [hx] at hc; exact Bool.false_ne_true hc
  | some x => exact hn (h x hx ((isClosing_some x).1 (hx ▸ hc)))

/-- R147: a shift closes a CLOSING truck of which nothing is left on the belt, or changes nothing. -/
theorem judgeClose_cases (s : State) :
    (∃ x, s.tlu.current = some x ∧ x.state = .closing ∧ ¬HoldsCurrent s.btq.segs ∧ judgeClose s = closeFull s) ∨
      judgeClose s = s := by
  by_cases h : ∃ x, s.tlu.current = some x ∧ x.state = .closing ∧ ¬HoldsCurrent s.btq.segs
  · obtain ⟨x, hx, hc, hn⟩ := h
    exact .inl ⟨x, hx, hc, hn, judgeClose_closes hx hc hn⟩
  · exact .inr (judgeClose_stays fun x hx hc => by_contra fun hn => h ⟨x, hx, hc, hn⟩)

theorem closeFull_tlu (s : State) : (closeFull s).tlu = (closeTruck .full s).tlu := by simp [closeFull]

theorem closeFull_pauseOnly (s : State) : s.btq.PauseOnly (closeFull s).btq := by
  refine Btq.PauseOnly.trans ?_ (workOutPause_pauseOnly _)
  rw [raise_btq, closeTruck_btq]
  exact .rfl

theorem closeFull_pending (h : marked s.li.events.enable 22 = true) : isPending .truckClosed (closeFull s) = true := by
  rw [closeFull, (workOutPause_source_of_ne (by decide) _).waits]
  exact raise_pending_self (by rw [closeTruck_li]; exact h)

theorem closeFull_judged (s : State) : PauseJudged s (closeFull s) :=
  (workOutPause_judged _).of_start (by rw [raise_btq, closeTruck_btq]) (by rw [raise_vos, closeTruck_vos])

end

theorem judgeClose_pauseOnly (s : State) : s.btq.PauseOnly (judgeClose s).btq := by
  rcases judgeClose_cases s with ⟨x, -, -, -, h⟩ | h
  · rw [h]
    exact closeFull_pauseOnly s
  · rw [h]
    exact .rfl

/-- R128, R147: the pause mark is worked out once more after a close. -/
theorem judgeClose_judged (s : State) : PauseJudged s (workOutPause (judgeClose s)) := by
  rcases judgeClose_cases s with ⟨x, -, -, -, h⟩ | h
  · rw [h]
    exact (closeFull_judged s).again
  · rw [h]
    exact workOutPause_judged s

/-! ### One shift (R125, R126) -/

/-- R125 steps 1 to 3: the discharge and the move, before a close is judged. -/
def moved (s : State) : State :=
  (discharge s).mapBtq fun b => { b with segs := moveSegments (discharge s).tlu.current b.segs }

theorem shift_eq (s : State) : shift s = workOutPause (judgeClose (moved s)) := rfl

section
variable {s : State} {x : Truck}

theorem discharge_truck (hx : s.tlu.current = some x) : discharge s =
    s.mapTlu fun b => { b with current := some { x with delivered := x.delivered + lastVolume s.btq.segs } } := by
  unfold discharge
  rw [hx]

theorem discharge_lost (h : s.tlu.current = none) : discharge s = spillVolume (lastVolume s.btq.segs) s := by
  unfold discharge
  rw [h]

/-- R126: the discharge leaves the state of the current truck, and the queue, as they are. -/
theorem discharge_isLoading (s : State) : isLoading (discharge s).tlu.current = isLoading s.tlu.current := by
  cases hx : s.tlu.current with
  | none => rw [discharge_lost hx, spillVolume_tlu, hx]
  | some x => rw [discharge_truck hx]; rfl

theorem discharge_btq (s : State) :
    (discharge s).btq = { s.btq with lostTotal := (discharge s).btq.lostTotal } := by
  cases hx : s.tlu.current with
  | none => rw [discharge_lost hx, spillVolume_btq]
  | some x => rw [discharge_truck hx]; rfl

theorem moved_tlu (s : State) : (moved s).tlu = (discharge s).tlu := rfl

theorem moved_btq (s : State) : (moved s).btq =
    { (discharge s).btq with segs := moveSegments s.tlu.current s.btq.segs } := by
  rw [moved, State.mapBtq_btq, discharge_btq]
  simp only [moveSegments, discharge_isLoading]

theorem shift_pauseOnly (s : State) : (moved s).btq.PauseOnly (shift s).btq :=
  (judgeClose_pauseOnly _).trans (workOutPause_pauseOnly _)

theorem shift_tlu (s : State) : (shift s).tlu = (judgeClose (moved s)).tlu := workOutPause_tlu _

theorem shift_segs (s : State) : (shift s).btq.segs = moveSegments s.tlu.current s.btq.segs := by
  rw [shift_pauseOnly, moved_btq]

end

/-! ### Segments cut and segments turned (R127, R137) -/

/-- R137: every segment cut to a limit. -/
def cutSegments (limit : Nat) (segs : List Segment) : List Segment :=
  segs.map fun g => { g with vol := min g.vol limit }

theorem Tag.eq_of_ne {a b c : Tag} (h : a ≠ b) (hc : c ≠ a) : c = b := by
  cases a <;> cases b <;> cases c <;> simp_all

/-- R127: with two tags, a turn leaves one. -/
theorem retag_eq {a b : Tag} (h : a ≠ b) (segs : List Segment) :
    retag a b segs = segs.map fun g => { g with tag := b } := by
  refine List.map_congr_left fun g _ => ?_
  split
  · rfl
  · rename_i hg
    rw [← Tag.eq_of_ne h hg]

/-! ### The BELT record written (R136, R137) -/

/-- R136: the record in the part; a new length returns the accumulator to 0. -/
def beltWritten (r : BeltRec) (s : State) : State :=
  { s with cfg := { s.cfg with belt := r },
           btq := { s.btq with acc := if s.cfg.belt.length = r.length then s.btq.acc else 0 } }

theorem writeBelt_eq (r : BeltRec) (s : State) : writeBelt r s =
    if s.cfg.belt.cap ≠ r.cap then applyCapacity (beltWritten r s) else beltWritten r s := by
  unfold writeBelt beltWritten
  dsimp only
  by_cases h : s.cfg.belt.length = r.length
  · rw [if_pos h, if_neg (not_not.2 h)]
    rfl
  · rw [if_neg h, if_pos h]
    rfl

/-- R137: a new C is applied; the same one changes nothing more. -/
theorem writeBelt_cap_same {r : BeltRec} {s : State} (h : s.cfg.belt.cap = r.cap) : writeBelt r s = beltWritten r s :=
  (writeBelt_eq r s).trans (if_neg (not_not.2 h))

theorem writeBelt_cap_changed {r : BeltRec} {s : State} (h : s.cfg.belt.cap ≠ r.cap) :
    writeBelt r s = applyCapacity (beltWritten r s) := (writeBelt_eq r s).trans (if_pos h)

end Sys2Proof.Machine

namespace Sys2Proof.Machine

/-! ### What one shift leaves of the part -/

theorem shift_beltFrame (s : State) : BeltFrame s (shift s) where
  vos := by
    have closed : (moved s).vos.BeltOnly (judgeClose (moved s)).vos := by
      rcases judgeClose_cases (moved s) with ⟨x, -, -, -, h⟩ | h
      · have paused := workOutPause_beltOnly (raise .truckClosed (closeTruck .full (moved s)))
        rw [raise_vos, closeTruck_vos] at paused
        rw [h]
        exact paused
      · rw [h]
        exact .rfl
    have start : (moved s).vos = s.vos := by rw [moved, State.mapBtq_vos, discharge_vos]
    rw [← start]
    exact closed.trans (workOutPause_beltOnly _)

/-- R128: a shift works the pause mark out. -/
theorem shift_judged (s : State) : PauseJudged s (shift s) :=
  (judgeClose_judged (moved s)).of_start (by rw [moved_btq, discharge_btq])
    (by rw [moved, State.mapBtq_vos, discharge_vos])

section
variable {s : State} {front : List Segment} {g : Segment} (hs : s.btq.segs = front ++ [g])
include hs

theorem lastVolume_discharge : lastVolume s.btq.segs = g.vol := by simp [lastVolume, hs]

/-- R125, R127: the queue after a shift. -/
theorem shift_segs_eq :
    (shift s).btq.segs = ⟨0, if isLoading s.tlu.current then .current else .next⟩ :: front := by
  rw [shift_segs, hs, moveSegments, List.dropLast_concat]

/-- R126: without a truck the discharged volume is lost. -/
theorem shift_lost (h : s.tlu.current = none) :
    (shift s).tlu = s.tlu ∧ (shift s).btq.lostTotal = s.btq.lostTotal + g.vol ∧
      (0 < g.vol → marked s.li.events.enable 24 = true → isPending .spill (shift s) = true) := by
  have spilled : discharge s = spillVolume g.vol s := by rw [discharge_lost h, lastVolume_discharge hs]
  have tlu : (moved s).tlu = s.tlu := by rw [moved_tlu, spilled, spillVolume_tlu]
  have open_ : judgeClose (moved s) = moved s :=
    judgeClose_stays fun x hx => by rw [tlu, h] at hx; exact absurd hx nofun
  refine ⟨by rw [shift_tlu, open_, tlu], ?_, fun hv he => ?_⟩
  · rw [shift_pauseOnly, moved_btq, spilled, spillVolume_btq]
  · rw [shift_eq, open_, (workOutPause_source_of_ne (by decide) _).waits, moved, spilled]
    exact spillVolume_spills hv he

/-- The segments that a close judges after the move: the new segment 0 holds nothing. -/
theorem moved_holdsCurrent : HoldsCurrent (moved s).btq.segs ↔ ∃ y ∈ front, y.tag = .current ∧ 0 < y.vol := by
  rw [moved_btq, hs, moveSegments, List.dropLast_concat]
  simp [HoldsCurrent]

/-- R126: the discharged volume goes to the current truck. -/
theorem moved_truck {x : Truck} (hx : s.tlu.current = some x) :
    (moved s).tlu = { s.tlu with current := some { x with delivered := x.delivered + g.vol } } ∧
      (moved s).btq.lostTotal = s.btq.lostTotal ∧ (moved s).pcu = s.pcu ∧ (moved s).li = s.li := by
  rw [moved, discharge_truck hx, lastVolume_discharge hs]
  exact ⟨rfl, rfl, rfl, rfl⟩

/-- R147: the truck stays while it is LOADING or its material lies on the belt. -/
theorem shift_delivers {x : Truck} (hx : s.tlu.current = some x)
    (h : x.state = .closing → ∃ y ∈ front, y.tag = .current ∧ 0 < y.vol) :
    (shift s).tlu = { s.tlu with current := some { x with delivered := x.delivered + g.vol } } := by
  obtain ⟨tlu, -, -, -⟩ := moved_truck hs hx
  have open_ : judgeClose (moved s) = moved s := judgeClose_stays fun y hy hc => by
    rw [tlu] at hy
    obtain rfl := Option.some.inj hy
    exact (moved_holdsCurrent hs).2 (h hc)
  rw [shift_tlu, open_, tlu]

/-- R147, R152, R154: a CLOSING truck of which nothing is left on the belt is closed. -/
theorem shift_closes {x : Truck} (hx : s.tlu.current = some x) (hc : x.state = .closing)
    (h : ¬∃ y ∈ front, y.tag = .current ∧ 0 < y.vol) :
    (shift s).tlu = { s.tlu with
      current := none, closedTotal := s.tlu.closedTotal + (x.delivered + g.vol),
      log := ({ number := x.number, target := x.target, delivered := x.delivered + g.vol, opened := x.opened,
                closed := s.pcu.station, reason := .full } :: s.tlu.log).take 8 } ∧
    (marked s.li.events.enable 22 = true → isPending .truckClosed (shift s) = true) := by
  obtain ⟨tlu, -, pcu, li⟩ := moved_truck hs hx
  have current := congrArg Tlu.current tlu
  have closed := judgeClose_closes current hc (mt (moved_holdsCurrent hs).1 h)
  refine ⟨?_, fun he => ?_⟩
  · rw [shift_tlu, closed, closeFull_tlu, closeTruck_tlu current, tlu, pcu]
  · rw [shift_eq, closed, (workOutPause_source_of_ne (by decide) _).waits]
    exact closeFull_pending (by rw [li]; exact he)

end

theorem shift_btq (s : State) : (shift s).btq = { s.btq with
    segs := (shift s).btq.segs, lostTotal := (shift s).btq.lostTotal, paused := (shift s).btq.paused,
    drive := (shift s).btq.drive } := by
  rw [shift_pauseOnly, moved_btq, discharge_btq]

/-- Settles O25: the discharge by whether a truck takes it, the close by what is left on the belt, and the pause mark by
the segment that now lies at the discharge. -/
theorem shiftDischargesAndMoves : Obligations.ShiftDischargesAndMoves := by
  intro s front g hs
  dsimp only
  have judged := shift_judged s
  refine ⟨(shift_beltFrame s).eq, ?_, ?_, shift_lost hs, fun x hx => ⟨?_, shift_delivers hs hx, ?_⟩, fun z hz => ?_,
    shift_btq s⟩
  · rintro ⟨x, hx, hl⟩
    rw [shift_segs_eq hs, hx, (isLoading_some x).2 hl, if_pos rfl]
  · intro hn
    have unloading : isLoading s.tlu.current = false := by
      cases hx : s.tlu.current with
      | none => rfl
      | some x => exact Bool.eq_false_iff.2 (mt (isLoading_some x).1 fun hl => hn ⟨x, hx, hl⟩)
    rw [shift_segs_eq hs, unloading, if_neg Bool.false_ne_true]
  · rw [shift_pauseOnly, (moved_truck hs hx).2.1]
  · intro hn
    obtain ⟨hc, hleft⟩ := Classical.not_imp.1 hn
    exact shift_closes hs hx hc hleft
  · have mark := pauseMark_iff (shift s).tlu.current hz
    rw [← judged.paused] at mark
    refine ⟨judged.cond, fun hw => ⟨mark.2 hw, judged.held (mark.2 hw)⟩, fun hw => ?_⟩
    have free := Bool.eq_false_iff.2 (mt mark.1 hw)
    exact ⟨free, judged.free free⟩

end Sys2Proof.Machine

namespace Sys2Proof.Machine

/-! ### How the belt's queue moves -/

/-- What R119 and R155 speak of stands: the segments, the totals, the current truck and C. -/
structure BeltStands (s t : State) : Prop where
  segs : t.btq.segs = s.btq.segs := by simp
  intakeTotal : t.btq.intakeTotal = s.btq.intakeTotal := by simp
  lostTotal : t.btq.lostTotal = s.btq.lostTotal := by simp
  current : t.tlu.current = s.tlu.current := by simp
  closedTotal : t.tlu.closedTotal = s.tlu.closedTotal := by simp
  cap : t.cfg.belt.cap = s.cfg.belt.cap := by simp

/-- Every operation of the part, as far as the belt's queue and the current truck go: it leaves them alone, or it is
made of shifts, intakes, a written BELT record, the two truck requests and resets. -/
inductive BeltMoves : State → State → Prop
  | stands {s t : State} (h : BeltStands s t) : BeltMoves s t
  | shift (s : State) : BeltMoves s (Machine.shift s)
  | takeIn (v carry : Nat) (s : State) : BeltMoves s (Machine.takeIn v carry s)
  | writeBelt (r : BeltRec) (s : State) : BeltMoves s (Machine.writeBelt r s)
  | truckIn (s : State) : BeltMoves s (Machine.truckIn s).1
  | truckOut (s : State) : BeltMoves s (Machine.truckOut s).1
  | reset (p : Straps) (s : State) : BeltMoves s (resetBlocks p s)
  | trans {s t u : State} (h : BeltMoves s t) (k : BeltMoves t u) : BeltMoves s u

theorem BeltStands.rfl {s : State} : BeltStands s s := {}

theorem BeltStands.trans {s t u : State} (h : BeltStands s t) (k : BeltStands t u) : BeltStands s u where
  segs := k.segs.trans h.segs
  intakeTotal := k.intakeTotal.trans h.intakeTotal
  lostTotal := k.lostTotal.trans h.lostTotal
  current := k.current.trans h.current
  closedTotal := k.closedTotal.trans h.closedTotal
  cap := k.cap.trans h.cap

theorem BeltStands.ite {s a b : State} {p : Prop} [Decidable p] (ha : BeltStands s a) (hb : BeltStands s b) :
    BeltStands s (if p then a else b) := by
  split
  · exact ha
  · exact hb

theorem BeltMoves.rfl {s : State} : BeltMoves s s := .stands .rfl

/-- An operation on other blocks comes first. -/
theorem BeltMoves.after {s t u : State} (k : BeltMoves t u) (h : BeltStands s t) : BeltMoves s u := .trans (.stands h) k

theorem BeltMoves.ite {s a b : State} {p : Prop} [Decidable p] (ha : BeltMoves s a) (hb : BeltMoves s b) :
    BeltMoves s (if p then a else b) := by
  split
  · exact ha
  · exact hb

/-- The blocks that hold what the queue's promises speak of are left alone. -/
theorem BeltStands.of_blocks {s t : State} (hb : t.btq = s.btq) (ht : t.tlu = s.tlu) (hc : t.cfg = s.cfg) :
    BeltStands s t := by
  constructor <;> simp only [hb, ht, hc]

/-- The shares of a sample set work on the belt's drive alone. -/
theorem SampleFrame.belt {s t : State} (h : SampleFrame s t) : BeltStands s t where
  segs := by rw [h.btq]
  intakeTotal := by rw [h.btq]
  lostTotal := by rw [h.btq]
  current := by rw [h.tlu]
  closedTotal := by rw [h.tlu]
  cap := by rw [h.cfg]

/-! ### The operations that leave the queue alone -/

/-- R140, R160: of the belt, a change of the cut state reaches the drive. -/
theorem changeState_belt (new : CutState) (s : State) : BeltStands s (changeState new s) := by
  have turnedStands : BeltStands s (turned new s) :=
    .ite ⟨rfl, rfl, rfl, rfl, rfl, rfl⟩ (.of_blocks rfl rfl rfl)
  rw [changeState_eq]
  exact turnedStands.trans (.of_blocks (by simp) (by simp) (by simp))

theorem enterHold_belt (new : CutState) (cause : HoldCause) (s : State) : BeltStands s (enterHold new cause s) :=
  (changeState_belt new s).trans (.of_blocks (recordHold_btq _ _) (recordHold_tlu _ _) (recordHold_cfg _ _))

theorem applyStall_belt (s : State) : BeltStands s (applyStall s) := by
  unfold applyStall
  refine .ite ?_ .rfl
  dsimp only
  split
  · exact (mapCsc_frame _ s).belt.trans (enterHold_belt _ _ _)
  · exact (mapCsc_frame _ s).belt.trans (enterHold_belt _ _ _)
  all_goals exact (mapCsc_frame _ s).belt

theorem expireStateTimer_belt (s : State) : BeltStands s (expireStateTimer s) := by
  unfold expireStateTimer
  split
  · exact .rfl
  · exact .ite ((enterHold_belt _ _ s).trans (raise_frame _ _).belt) .rfl

theorem escalateSilence_belt (s : State) : BeltStands s (escalateSilence s) := by
  have restarted : BeltStands s (restartSilence (raise .linkSilence s)) := .of_blocks (by simp) (by simp) (by simp)
  unfold escalateSilence
  dsimp only
  split
  case h_5 => exact restarted.trans (.of_blocks (by simp) (by simp) (by simp))
  case h_6 | h_7 => exact restarted
  all_goals exact restarted.trans (enterHold_belt _ _ _)

theorem assertStop_belt (s : State) : BeltStands s (assertStop s) := by
  have driven : BeltStands s (setCond .stopActive true (s.mapPins fun p => { p with stop := true })) :=
    .of_blocks (by simp) (by simp) (by simp)
  unfold assertStop
  dsimp only
  split
  case h_6 => exact driven.trans (.of_blocks (by simp) (by simp) (by simp))
  case h_7 => exact driven
  all_goals exact driven.trans (enterHold_belt _ _ _)

theorem settleBeltStall_belt (s : State) : BeltStands s (settleBeltStall s) := by
  refine .ite ?_ .rfl
  constructor <;> simp [callBeltStall_btq]

/-- R129: the belt speed update works on the bins, the stall, the setpoint and the drive. -/
theorem beltSpeedUpdate_belt (apart : Bool) (s : State) : BeltStands s (beltSpeedUpdate apart s) := by
  have rotated : BeltStands s (rotateBins s) := ⟨rfl, rfl, rfl, rfl, rfl, rfl⟩
  have counted : BeltStands (rotateBins s) (countStall (rotateBins s)) := ⟨rfl, rfl, rfl, rfl, rfl, rfl⟩
  have tested : BeltStands s (testBeltStall apart (rotateBins s)) := by
    rw [testBeltStall_eq]
    exact .ite (rotated.trans counted) ((rotated.trans counted).trans (settleBeltStall_belt _))
  exact tested.trans ⟨rfl, rfl, rfl, rfl, rfl, rfl⟩

theorem takeBeltMode_belt (m : BeltMode) (s : State) : BeltStands s (takeBeltMode m s) := by
  refine (settleBeltStall_belt s).trans ?_
  constructor <;> simp [takeBeltMode]

theorem drumSpeedUpdate_belt (apart : Bool) (s : State) : BeltStands s (drumSpeedUpdate apart s) := by
  have tested (u : State) : BeltStands u (testDrumStall (closeDrumWindow u)) :=
    .ite (.ite (.of_blocks (by simp [closeDrumWindow]) (by simp [closeDrumWindow]) (by simp [closeDrumWindow]))
      (.of_blocks rfl rfl rfl)) (.of_blocks rfl rfl rfl)
  have before := (applyStall_belt s).trans (tested _)
  exact .ite before (before.trans (applyStall_belt _))

theorem workOutPause_belt (s : State) : BeltStands s (workOutPause s) := by
  have same := workOutPause_pauseOnly s
  exact ⟨by rw [same], by rw [same], by rw [same], by simp, by simp, by simp⟩

/-! ### The operations that move the queue -/

theorem shifts_moves (n : Nat) (s : State) : BeltMoves s (shifts n s) := by
  induction n generalizing s with
  | zero => exact .rfl
  | succ n ih => exact (BeltMoves.shift s).trans (ih _)

/-- R124: belt travel is a new accumulator and a shift for each segment length. -/
theorem beltTravel_moves (d : Nat) (s : State) : BeltMoves s (beltTravel d s) :=
  (shifts_moves _ _).after ⟨rfl, rfl, rfl, rfl, rfl, rfl⟩

theorem countedBelt_moves (s : State) : BeltMoves s (countedBelt s) :=
  .ite ((beltTravel_moves _ _).after (.of_blocks rfl rfl rfl)) (.stands (.of_blocks rfl rfl rfl))

theorem intake_moves (delta : Nat) (s : State) : BeltMoves s (intake delta s) := .ite (.takeIn _ _ s) .rfl

theorem rampSides_belt (delta : Nat) (s : State) : BeltStands s (rampSides delta s) :=
  .of_blocks (rampSides_btq _ _) (rampSides_tlu _ _) (rampSides_cfg _ _)

/-- R103: of an advance the intake moves the queue. -/
theorem advance_moves (rampFirst : Bool) (delta : Nat) (s : State) : BeltMoves s (advance rampFirst delta s) := by
  have settled : BeltMoves s (highWaterChanged s) :=
    .stands (.of_blocks (highWaterChanged_btq s) (highWaterChanged_tlu s) (highWaterChanged_cfg s))
  exact .ite ((settled.trans (.stands (rampSides_belt _ _))).trans (intake_moves _ _))
    ((settled.trans (intake_moves _ _)).trans (.stands (rampSides_belt _ _)))

theorem countedTravel_moves (dirHigh rampFirst : Bool) (s : State) : BeltMoves s (countedTravel dirHigh rampFirst s) :=
  .ite ((advance_moves _ _ _).after (.of_blocks rfl rfl rfl)) (.stands (.of_blocks rfl rfl rfl))

theorem countedEvent_moves (i : PulseInput) (dirHigh rampFirst : Bool) (s : State) :
    BeltMoves s (countedEvent i dirHigh rampFirst s) := by
  cases i with
  | travel => exact countedTravel_moves _ _ _
  | belt => exact countedBelt_moves _
  | drum => exact .stands (.of_blocks rfl rfl rfl)

theorem pinEdge_moves (i : PulseInput) (rising dirHigh rampFirst : Bool) (s : State) :
    BeltMoves s (pinEdge i rising dirHigh rampFirst s) := by
  have level : BeltMoves s (s.mapPins fun p => { p with pulse := p.pulse.set i rising }) :=
    .stands (.of_blocks rfl rfl rfl)
  exact .ite (.ite (level.trans (countedEvent_moves _ _ _ _)) (.stands (.of_blocks rfl rfl rfl))) level

/-! ### The requests -/

/-- What an owner's work does to the queue. -/
def Work.Moves (f : State → State × Reply) : Prop := ∀ s, BeltMoves s (f s).1

theorem writeRecord_moves (checks : List Bool) (structural : Bool) {write : State → State} {s : State}
    (h : BeltMoves s (write s)) : BeltMoves s (writeRecord checks structural write s).1 := by
  unfold writeRecord
  split
  · exact .rfl
  · split
    · exact .rfl
    · exact h

/-- C is a field of the BELT record alone (R136). -/
theorem mapCfg_belt {f : Records → Records} {s : State} (h : (f s.cfg).belt.cap = s.cfg.belt.cap) :
    BeltStands s (s.mapCfg f) := { cap := h }

theorem writeSensor_belt (i : Chan) (r : SensorRec) (s : State) : BeltStands s (writeSensor i r s) :=
  .ite (.of_blocks (by simp) (by simp) (by simp)) (.of_blocks (by simp) (by simp) (by simp))

theorem writeSide_belt (i : Side) (r : SideRec) (s : State) : BeltStands s (writeSide i r s) := by
  have written : BeltStands s ((s.mapCfg fun c => { c with side := c.side.set i r }).mapDlu fun d =>
      d.set i ((d.get i).limitTo r)) := ⟨rfl, rfl, rfl, rfl, rfl, rfl⟩
  exact .ite (written.trans (.of_blocks (by simp) (by simp) (by simp))) written

theorem writePlan_belt (r : PlanRec) (s : State) : BeltStands s (writePlan r s) := by
  have written : BeltStands s (s.mapCfg fun c => { c with plan := r }) := mapCfg_belt rfl
  exact written.trans (.of_blocks (by simp [writePlan]) (by simp [writePlan]) (by simp [writePlan]))

theorem writeOption_belt (i : PulseInput) (x : Int) (c : Records) : (writeOption i x c).belt = c.belt := by
  cases i <;> rfl

theorem writePulse_belt (i : PulseInput) (r : PulseRec) (opt : Int) (s : State) :
    BeltStands s (writePulse i r opt s) := by
  have written : BeltStands s (s.mapCfg fun c => writeOption i opt { c with pulse := c.pulse.set i r }) :=
    mapCfg_belt (by rw [writeOption_belt])
  have pcu (f : Pcu → Pcu) (u : State) : BeltStands u (u.mapPcu f) := .of_blocks rfl rfl rfl
  unfold writePulse
  dsimp only
  split
  · exact .trans (.ite (written.trans (pcu _ _)) written) (pcu _ _)
  · exact .ite (written.trans (pcu _ _)) written

theorem setSensor_moves (rest : List Byte) : Work.Moves (setSensor rest) := fun s => by
  unfold setSensor
  split
  · exact writeRecord_moves _ _ (.stands (writeSensor_belt _ _ s))
  · exact .rfl

theorem setSide_moves (rest : List Byte) : Work.Moves (setSide rest) := fun s => by
  unfold setSide
  split
  · exact writeRecord_moves _ _ (.stands (writeSide_belt _ _ s))
  · exact .rfl

theorem setPlan_moves (rest : List Byte) : Work.Moves (setPlan rest) := fun s => by
  unfold setPlan
  split
  · exact writeRecord_moves _ _ (.stands (writePlan_belt _ s))
  · exact .rfl

theorem setPulse_moves (rest : List Byte) : Work.Moves (setPulse rest) := fun s => by
  unfold setPulse
  split
  · exact writeRecord_moves _ _ (.stands (writePulse_belt _ _ _ s))
  · exact .rfl

theorem setBelt_moves (rest : List Byte) : Work.Moves (setBelt rest) := fun s => by
  unfold setBelt
  split
  · exact writeRecord_moves _ _ (.writeBelt _ s)
  · exact .rfl

theorem setLimits_moves (rest : List Byte) : Work.Moves (setLimits rest) := fun s => by
  unfold setLimits
  split
  · exact writeRecord_moves _ _ (.stands (mapCfg_belt rfl))
  · exact .rfl

theorem setOutput_moves (rest : List Byte) : Work.Moves (setOutput rest) := fun s => by
  unfold setOutput
  split
  · exact writeRecord_moves _ _ (.stands (.ite (mapCfg_belt rfl) (mapCfg_belt rfl)))
  · exact .rfl

theorem setLink_moves (rest : List Byte) : Work.Moves (setLink rest) := fun s => by
  unfold setLink
  split
  · exact writeRecord_moves _ _ (.stands ⟨rfl, rfl, rfl, rfl, rfl, rfl⟩)
  · exact .rfl

theorem setSupply_moves (rest : List Byte) : Work.Moves (setSupply rest) := fun s => by
  unfold setSupply
  split
  · exact writeRecord_moves _ _ (.stands (mapCfg_belt rfl))
  · exact .rfl

theorem setForm_moves (p : Part) (rest : List Byte) : Work.Moves (setForm p rest).carryOut := by
  cases p
  case sensor => exact setSensor_moves rest
  case side => exact setSide_moves rest
  case plan => exact setPlan_moves rest
  case pulse => exact setPulse_moves rest
  case belt => exact setBelt_moves rest
  case limits => exact setLimits_moves rest
  case output => exact setOutput_moves rest
  case link => exact setLink_moves rest
  case supply => exact setSupply_moves rest

/-- A request whose owner leaves the BTQ, the TLU and the records alone. -/
theorem Work.Moves.of_blocks {f : State → State × Reply}
    (h : ∀ s, (f s).1.btq = s.btq ∧ (f s).1.tlu = s.tlu ∧ (f s).1.cfg = s.cfg) : Work.Moves f := fun s => by
  obtain ⟨btq, tlu, cfg⟩ := h s
  exact .stands (.of_blocks btq tlu cfg)

theorem lintabLoad_moves (payload : List Byte) : Work.Moves (lintabLoad payload) := .of_blocks fun s => by
  unfold lintabLoad
  dsimp only
  repeat' split
  all_goals simp

theorem substitute_moves (payload : List Byte) : Work.Moves (substitute payload) := .of_blocks fun s => by
  unfold substitute
  dsimp only
  repeat' split
  all_goals simp

theorem release_moves (payload : List Byte) : Work.Moves (release payload) := .of_blocks fun s => by
  unfold release
  repeat' split
  all_goals simp

theorem zeroRequest_moves (payload : List Byte) : Work.Moves (zeroRequest payload) := .of_blocks fun s => by
  unfold zeroRequest
  dsimp only
  repeat' split
  all_goals simp

theorem stationSet_moves (payload : List Byte) : Work.Moves (stationSet payload) := .of_blocks fun s => by
  unfold stationSet
  dsimp only
  repeat' split
  all_goals simp

theorem planAppend_moves (payload : List Byte) : Work.Moves (planAppend payload) := .of_blocks fun s => by
  unfold planAppend
  dsimp only
  split <;> simp

theorem planClear_moves : Work.Moves planClear := .of_blocks fun s => by
  unfold planClear
  dsimp only
  repeat' split
  all_goals simp

theorem windowSet_moves (payload : List Byte) : Work.Moves (windowSet payload) := .of_blocks fun s => by
  unfold windowSet
  dsimp only
  repeat' split
  all_goals simp

theorem windowClear_moves (payload : List Byte) : Work.Moves (windowClear payload) := .of_blocks fun s => by
  unfold windowClear
  repeat' split
  all_goals simp

theorem jog_moves (payload : List Byte) : Work.Moves (jog payload) := .of_blocks fun s => by
  unfold jog
  repeat' split
  all_goals simp

theorem materialSet_moves (payload : List Byte) : Work.Moves (materialSet payload) := .of_blocks fun s => by
  unfold materialSet
  repeat' split
  all_goals simp

theorem eventRoute_moves (payload : List Byte) : Work.Moves (eventRoute payload) := .of_blocks fun s => by
  unfold eventRoute writeRoute
  dsimp only
  repeat' split
  all_goals simp

theorem eventAck_moves (payload : List Byte) : Work.Moves (eventAck payload) := .of_blocks fun s => by
  unfold eventAck
  split <;> simp

theorem commission_moves : Work.Moves commission := fun s => by
  unfold commission
  split
  · exact .rfl
  · split
    · exact .rfl
    · exact .stands ((changeState_belt .ready s).trans (.of_blocks rfl rfl rfl))

theorem decommission_moves : Work.Moves decommission := fun s => by
  unfold decommission
  split
  · exact .rfl
  · exact .stands ((changeState_belt .config s).trans (.of_blocks rfl rfl rfl))

theorem engage_moves : Work.Moves engage := fun s => by
  unfold engage
  repeat' split
  case isFalse.isFalse.isFalse => exact .stands (changeState_belt .engaging s)
  all_goals exact .rfl

theorem lift_moves : Work.Moves lift := fun s => by
  unfold lift
  split
  case h_1 | h_2 | h_3 => exact .stands (changeState_belt .lifting s)
  all_goals exact .rfl

theorem holdSoft_moves : Work.Moves holdSoft := fun s => by
  unfold holdSoft
  split
  case h_1 | h_2 | h_3 => exact .stands (enterHold_belt .holdSoft .request s)
  all_goals exact .rfl

theorem holdHard_moves : Work.Moves holdHard := fun s => by
  unfold holdHard
  split
  case h_6 | h_7 => exact .rfl
  all_goals exact .stands (enterHold_belt .holdHard .request s)

theorem hold_moves (payload : List Byte) : Work.Moves (hold payload) := fun s => by
  unfold hold
  split
  · split
    · exact holdSoft_moves s
    · split
      · exact holdHard_moves s
      · exact .rfl
  · exact .rfl

theorem resume_moves : Work.Moves resume := fun s => by
  unfold resume
  split
  case h_1 =>
    split
    · exact .rfl
    · exact .stands (changeState_belt .engaging s)
  case h_2 =>
    split
    · exact .rfl
    · exact .stands (changeState_belt .ready s)
  all_goals exact .rfl

theorem beltMode_moves (payload : List Byte) : Work.Moves (beltMode payload) := fun s => by
  unfold beltMode
  split
  · split
    · exact .rfl
    · split
      · exact .rfl
      · exact .stands (takeBeltMode_belt _ s)
  · exact .rfl

/-- R142: the announced truck is not yet the current one. -/
theorem truckNext_moves (payload : List Byte) : Work.Moves (truckNext payload) := fun s => by
  unfold truckNext
  dsimp only
  repeat' split
  case h_1.isFalse.isFalse.isFalse => exact .stands ⟨rfl, rfl, rfl, rfl, rfl, rfl⟩
  all_goals exact .rfl

theorem Work.Moves.of_read {f : State → State × Reply} (h : ∀ s, (f s).1 = s) : Work.Moves f :=
  fun s => by rw [h s]; exact .rfl

theorem planRead_moves (payload : List Byte) : Work.Moves (planRead payload) := .of_read fun s => by
  unfold planRead
  split <;> rfl

theorem tallyRead_moves (payload : List Byte) : Work.Moves (tallyRead payload) := .of_read fun s => by
  unfold tallyRead
  repeat' split
  all_goals rfl

/-! ### Every request -/

theorem sectionForm_moves {form : Part → List Byte → Request} (readOnly : Bool) (payload : List Byte)
    (h : ∀ p rest, Work.Moves (form p rest).carryOut) : Work.Moves (sectionForm readOnly form payload).carryOut := by
  unfold sectionForm
  split
  · exact fun _ => .rfl
  · split
    · exact fun _ => .rfl
    · exact h _ _

theorem kindForm_moves (k : ReqKind) (payload : List Byte) : Work.Moves (kindForm k payload).carryOut := by
  cases k
  case identify | poll => exact fun _ => .rfl
  case restart => exact fun _ => .stands (.of_blocks rfl rfl rfl)
  case configSet => exact sectionForm_moves _ _ setForm_moves
  case configGet => exact sectionForm_moves _ _ fun _ _ _ => .rfl
  case lintabLoad => exact lintabLoad_moves payload
  case commission => exact commission_moves
  case decommission => exact decommission_moves
  case planAppend => exact planAppend_moves payload
  case planClear => exact planClear_moves
  case planRead => exact planRead_moves payload
  case windowSet => exact windowSet_moves payload
  case windowClear => exact windowClear_moves payload
  case stationSet => exact stationSet_moves payload
  case engage => exact engage_moves
  case lift => exact lift_moves
  case hold => exact hold_moves payload
  case resume => exact resume_moves
  case jog => exact jog_moves payload
  case zero => exact zeroRequest_moves payload
  case substitute => exact substitute_moves payload
  case release => exact release_moves payload
  case materialSet => exact materialSet_moves payload
  case beltMode => exact beltMode_moves payload
  case truckNext => exact truckNext_moves payload
  case truckIn => exact .truckIn
  case truckOut => exact .truckOut
  case tallyRead => exact tallyRead_moves payload
  case eventRoute => exact eventRoute_moves payload
  case eventAck => exact eventAck_moves payload

theorem requestForm_moves (kind : Byte) (payload : List Byte) : Work.Moves (requestForm kind payload).carryOut := by
  unfold requestForm
  split
  · exact fun _ => .rfl
  · exact kindForm_moves _ _

theorem Request.answer_moves {r : Request} (h : Work.Moves r.carryOut) (s : State) : BeltMoves s (r.answer s).1 := by
  unfold Request.answer
  split
  · exact .rfl
  · split
    · exact .rfl
    · split
      · exact .rfl
      · exact h s

/-- R198: a telegram moves the queue as its owner's work does. -/
theorem takeTelegram_moves (kind tag : Byte) {r : Request} (hr : Work.Moves r.carryOut) (s : State) :
    BeltMoves s (takeTelegram kind tag r s) := by
  have heardMoves : BeltMoves s (hearTelegram (s.mapLi fun l => { l with rx := .hunt })) :=
    .stands (.of_blocks rfl rfl rfl)
  unfold takeTelegram
  refine .ite heardMoves (.ite (heardMoves.trans (.stands (.of_blocks rfl rfl rfl))) ?_)
  exact (heardMoves.trans (Request.answer_moves hr _)).trans (.stands (.of_blocks rfl rfl rfl))

theorem takeByte_moves (b : Byte) (s : State) : BeltMoves s (takeByte b s) := by
  have li (f : Li → Li) : BeltMoves s (s.mapLi f) := .stands (.of_blocks rfl rfl rfl)
  unfold takeByte
  split
  · exact .ite (li _) .rfl
  · exact .ite (li _) (li _)
  · exact .ite (li _) (li _)
  · exact li _
  · exact .ite (li _) (.ite (takeTelegram_moves _ _ (requestForm_moves _ _) s) (li _))

/-! ### Every command and every step -/

/-- The arbiter looks at the line alone. -/
theorem BeltMoves.act {f : State → State} {s t : State} (hf : BeltMoves s (f s)) (h : Machine.act f s = .next t) :
    BeltMoves s t := by
  unfold Machine.act at h
  split at h
  · cases h
    exact .rfl
  · cases h
    exact hf.trans (.stands (arbitrate_frame _).belt)

theorem BeltStands.act {f : State → State} {s t : State} (hf : BeltStands s (f s)) (h : Machine.act f s = .next t) :
    BeltMoves s t := BeltMoves.act (.stands hf) h

theorem takeRequest_moves {k : ReqKind} {tag : Byte} {payload : List Byte} {s t : State}
    (h : act (takeRequest k tag payload) s = .next t) : BeltMoves s t :=
  (takeTelegram_moves _ _ (kindForm_moves _ _) s).act h

theorem driveStop_belt (s : State) : BeltStands s (driveStop s) :=
  .ite .rfl (.ite (.of_blocks rfl rfl rfl) ((assertStop_belt s).trans (arbitrate_frame _).belt))

theorem undriveStop_belt (s : State) : BeltStands s (undriveStop s) := by
  have released : BeltStands s (releaseStop s) := .of_blocks (setCond_btq _ _ _) (setCond_tlu _ _ _) (setCond_cfg _ _ _)
  exact .ite .rfl (.ite (.of_blocks rfl rfl rfl) (released.trans (arbitrate_frame _).belt))

theorem endTransmission_moves (s : State) : BeltMoves s (endTransmission s) := by
  unfold endTransmission
  split
  · exact .rfl
  · exact .ite (.reset _ s) (.stands (.of_blocks rfl rfl rfl))

/-- What a command can do to the queue and the current truck. -/
theorem exec_moves (c : Instr) {s t : State} (h : exec c s = .next t) : BeltMoves s t := by
  cases c with
  | powerOnReset p => cases h; exact (BeltMoves.reset p _).after (.of_blocks rfl rfl rfl)
  | resetnAsserted => cases h; exact .stands (.of_blocks rfl rfl rfl)
  | stopAsserted => cases h; exact .stands (driveStop_belt s)
  | stopReleased => cases h; exact .stands (undriveStop_belt s)
  | restartReset => exact (BeltMoves.ite (.reset _ s) .rfl).act h
  | sampleSet scan o => exact (sampleSet_frame scan o s).belt.act h
  | channelUnlock ch raw =>
    refine BeltStands.act (f := unlockChannel ch raw.toNat) (.ite (.ite ?_ ?_) .rfl) h
    all_goals exact .of_blocks (by simp) (by simp) (by simp)
  | channelLock ch raw =>
    exact BeltStands.act (f := lockChannel ch raw.toNat)
      (.ite (.of_blocks (by simp) (by simp) (by simp)) .rfl) h
  | zeroCaptureComplete => exact (completeCapture_frame s).belt.act h
  | engageDone => exact (settleEngage_frame s).belt.act h
  | liftDone => exact (settleLift_frame s).belt.act h
  | classWindowClose => exact (closeClassWindow_frame s).belt.act h
  | supplyLowSet => exact (settleLowSet_frame s).belt.act h
  | supplyLowClear => exact (settleLowClear_frame s).belt.act h
  | supplyCutoff => exact (applyCutoff_frame s).belt.act h
  | qualifyingEdge i r d f => exact (pinEdge_moves i r d f s).act h
  | countedTravelEvent d f => exact (countedTravel_moves d f s).act h
  | countedBeltEvent => exact (countedBelt_moves s).act h
  | countedDrumEvent => exact BeltStands.act (f := countedDrum) (.of_blocks rfl rfl rfl) h
  | speedWindowClose apart =>
    have closed : BeltStands (settleBeltStall s) (closeSpeedWindow (settleBeltStall s)) := .of_blocks rfl rfl rfl
    exact BeltStands.act (f := fun u => beltSpeedUpdate apart (closeSpeedWindow (settleBeltStall u)))
      (((settleBeltStall_belt s).trans closed).trans (beltSpeedUpdate_belt apart _)) h
  | beltStall => exact (settleBeltStall_belt s).act h
  | drumSpeedUpdate apart => exact (drumSpeedUpdate_belt apart s).act h
  | drumStall => exact (applyStall_belt s).act h
  | stateTimerExpiry => exact (expireStateTimer_belt s).act h
  | silenceTimerExpiry => exact (BeltStands.ite (escalateSilence_belt s) .rfl).act h
  | jogExpiry i => exact BeltStands.act (f := endJog i) (.ite (.of_blocks rfl rfl rfl) .rfl) h
  | statusPeriodExpiry =>
    refine BeltStands.act (f := expireStatusPeriod) ?_ h
    unfold expireStatusPeriod
    split
    · exact .rfl
    · exact .ite (.of_blocks rfl rfl rfl) .rfl
  | transmitComplete => exact (endTransmission_moves s).act h
  | telegramBadCrc b => exact BeltStands.act (f := takeBadCrc b) (.ite (.of_blocks rfl rfl rfl) .rfl) h
  | telegramOverlength b => exact BeltStands.act (f := takeOverlength b) (.ite (.of_blocks rfl rfl rfl) .rfl) h
  | framingError => exact BeltStands.act (f := takeFramingError) (.of_blocks rfl rfl rfl) h
  | receiveGapTimeout => exact BeltStands.act (f := takeGap) (.of_blocks rfl rfl rfl) h
  | receiverByteTaken b => exact (takeByte_moves b s).act h
  | unknownRequest kind tag payload => exact (takeTelegram_moves _ _ (requestForm_moves _ _) s).act h
  | configSetSensor tag rest | configSetSide tag rest | configSetPlan tag rest | configSetPulse tag rest
  | configSetBelt tag rest | configSetLimits tag rest | configSetOutput tag rest | configSetLink tag rest
  | configSetSupply tag rest => exact (takeTelegram_moves _ _ (setForm_moves _ _) s).act h
  | configGetSensor tag rest | configGetSide tag rest | configGetPlan tag rest | configGetPulse tag rest
  | configGetBelt tag rest | configGetLimits tag rest | configGetOutput tag rest | configGetLink tag rest
  | configGetSupply tag rest => exact (takeTelegram_moves _ _ (fun _ => .rfl) s).act h
  | identify tag rest | poll tag rest | restart tag rest | lintabLoad tag rest | commission tag rest
  | decommission tag rest | planAppend tag rest | planClear tag rest | planReadWaypoints tag rest
  | planReadWindows tag rest | windowSet tag rest | windowClear tag rest | stationSet tag rest | engage tag rest
  | lift tag rest | holdSoft tag rest | holdHard tag rest | resume tag rest | jog tag rest | zero tag rest
  | substitute tag rest | release tag rest | materialSetManual tag rest | materialSetAuto tag rest
  | beltMode tag rest | truckNext tag rest | truckIn tag rest | truckOut tag rest | tallyRead tag rest
  | eventRoute tag rest | eventAck tag rest => exact takeRequest_moves h

/-- What a step can do to the queue and the current truck. -/
theorem step_moves {s t : State} (h : step s = .next t) : BeltMoves s t := by
  unfold step at h
  split at h
  · cases h
    exact .stands (.ite .rfl (.of_blocks rfl rfl rfl))
  · rename_i c rest _
    exact (exec_moves c h).after (.of_blocks rfl rfl rfl)

end Sys2Proof.Machine

namespace Sys2Proof.Machine

/-! ### The queue's promises on the segments and the current truck (R119) -/

/-- R119, with the model's promises on the tags of empty segments: what holds of the segments under a volume limit and a
current truck. -/
structure QueueSound (limit : Nat) (truck : Option Truck) (segs : List Segment) : Prop where
  length : segs.length = 32
  within : ∀ g ∈ segs, g.vol ≤ limit
  ordered : TagsOrdered segs
  loading : isLoading truck = true → ∀ g ∈ segs, g.tag = .current
  emptied : truck = none → ∀ g ∈ segs, g.tag = .current → g.vol = 0
  intake : truck = none → (segs.head?.all fun g => g.tag == .next) = true

/-- The queue of a state. -/
abbrev QueueKept (s : State) : Prop := QueueSound (2 * s.cfg.belt.cap) s.tlu.current s.btq.segs

theorem queueKept_iff (s : State) : QueueKept s ↔ QueueShape s ∧ TagsOrdered s.btq.segs ∧ TagsFollowTruck s :=
  ⟨fun h => ⟨⟨h.length, h.within⟩, h.ordered, h.loading, fun hn => ⟨h.emptied hn, h.intake hn⟩⟩,
    fun ⟨⟨length, within⟩, ordered, loading, absent⟩ =>
      ⟨length, within, ordered, loading, fun hn => (absent hn).1, fun hn => (absent hn).2⟩⟩

section
variable {limit : Nat} {truck : Option Truck} {segs : List Segment} (h : QueueSound limit truck segs)
include h

/-- R125, R127: the move of a shift; under a LOADING truck every tag is CURRENT, and a NEXT one fits in anywhere. -/
theorem QueueSound.move : QueueSound limit truck (moveSegments truck segs) := by
  have rest {g : Segment} (hg : g ∈ segs.dropLast) : g ∈ segs := List.mem_of_mem_dropLast hg
  unfold moveSegments
  refine ⟨?_, ?_, List.pairwise_cons.2 ⟨fun g hg hc => ?_, h.ordered.sublist (List.dropLast_sublist _)⟩, fun hl => ?_,
    fun hn => ?_, fun hn => ?_⟩
  · rw [List.length_cons, List.length_dropLast, h.length]
  · exact List.forall_mem_cons.2 ⟨Nat.zero_le _, fun g hg => h.within g (rest hg)⟩
  · by_cases hl : isLoading truck = true
    · exact h.loading hl g (rest hg)
    · rw [if_neg hl] at hc
      exact absurd hc (by decide)
  · exact List.forall_mem_cons.2 ⟨if_pos hl, fun g hg => h.loading hl g (rest hg)⟩
  · exact List.forall_mem_cons.2 ⟨fun _ => rfl, fun g hg => h.emptied hn g (rest hg)⟩
  · rw [hn]
    rfl

/-- R122: a volume offered to segment 0, which is tagged NEXT without a truck. -/
theorem QueueSound.offer (v : Nat) : QueueSound limit truck (offerVolume limit v segs).1 := by
  cases segs with
  | nil => exact h
  | cons g rest =>
    obtain ⟨length, within, ordered, loading, emptied, intake⟩ := h
    rw [List.forall_mem_cons] at within
    refine ⟨length, List.forall_mem_cons.2 ⟨Nat.min_le_right _ _, within.2⟩, ?_, fun hl => ?_, fun hn => ?_, intake⟩
    · exact List.pairwise_cons.2 (List.pairwise_cons.1 ordered)
    · exact List.forall_mem_cons.2 (List.forall_mem_cons.1 (loading hl))
    · refine List.forall_mem_cons.2 ⟨fun hc => ?_, (List.forall_mem_cons.1 (emptied hn)).2⟩
      have hnext : g.tag = .next := by simpa using intake hn
      exact absurd (hnext.symm.trans hc) (by decide)

/-- R137: every segment cut to a new limit. -/
theorem QueueSound.cut (limit' : Nat) :
    QueueSound limit' truck (cutSegments limit' segs) := by
  unfold cutSegments
  refine ⟨by rw [List.length_map, h.length], ?_, List.pairwise_map.2 h.ordered, fun hl => ?_, fun hn => ?_,
    fun hn => ?_⟩
  · exact List.forall_mem_map.2 fun g _ => Nat.min_le_right _ _
  · exact List.forall_mem_map.2 (h.loading hl)
  · exact List.forall_mem_map.2 fun g hg hc => by rw [h.emptied hn g hg hc, Nat.zero_min]
  · rw [List.head?_map, Option.all_map]
    exact h.intake hn

/-- A truck that is not newly LOADING asks nothing more of the tags. -/
theorem QueueSound.turn {y : Truck} (hl : y.state = .loading → isLoading truck = true) :
    QueueSound limit (some y) segs :=
  ⟨h.length, h.within, h.ordered, fun k => h.loading (hl ((isLoading_some y).1 k)), nofun, nofun⟩

/-- R127: every tag turned to CURRENT, for a truck that comes in. -/
theorem QueueSound.turnedCurrent (y : Truck) :
    QueueSound limit (some y) (segs.map fun g => { g with tag := .current }) :=
  ⟨by rw [List.length_map, h.length], List.forall_mem_map.2 h.within,
    List.pairwise_map.2 (List.pairwise_of_forall fun _ _ _ => rfl), fun _ => List.forall_mem_map.2 fun _ _ => rfl,
    nofun, nofun⟩

/-- R127: every tag turned to NEXT, once the truck has gone. -/
theorem QueueSound.turnedNext : QueueSound limit none (segs.map fun g => { g with tag := .next }) := by
  refine ⟨by rw [List.length_map, h.length], List.forall_mem_map.2 h.within,
    List.pairwise_map.2 (List.pairwise_of_forall fun _ _ => nofun), nofun,
    fun _ => List.forall_mem_map.2 fun _ _ => nofun, fun _ => ?_⟩
  rw [List.head?_map, Option.all_map]
  cases segs <;> rfl

end

/-! ### Each move of the queue keeps them -/

theorem BeltStands.queueKept {s t : State} (m : BeltStands s t) (h : QueueKept s) : QueueKept t := by
  unfold QueueKept
  rw [m.cap, m.current, m.segs]
  exact h

/-- R146: a truck that turns to CLOSING asks less of the tags. -/
theorem predictClosing_queueKept {s : State} (h : QueueKept s) : QueueKept (predictClosing s) := by
  unfold QueueKept
  rw [predictClosing_pauseOnly s, predictClosing_cfg]
  rcases predictClosing_cases s with ⟨x, hx, -, called⟩ | idle
  · rw [called, callClosing_tlu]
    exact h.turn nofun
  · rw [idle]
    exact h

theorem moved_queueKept {s : State} (h : QueueKept s) :
    QueueSound (2 * s.cfg.belt.cap) (moved s).tlu.current (moved s).btq.segs := by
  have sound := h.move
  rw [moved_btq, moved_tlu]
  cases hx : s.tlu.current with
  | none =>
    rw [hx] at sound
    rw [discharge_lost hx, spillVolume_tlu, hx]
    exact sound
  | some x =>
    rw [hx] at sound
    rw [discharge_truck hx]
    exact sound.turn (isLoading_some x).2

/-- R147: a CLOSING truck goes once no material is tagged CURRENT, and the new segment 0 is NEXT then. -/
theorem shift_queueKept {s : State} (h : QueueKept s) : QueueKept (shift s) := by
  have sound := moved_queueKept h
  unfold QueueKept
  rw [shift_cfg, shift_tlu, shift_pauseOnly]
  rcases judgeClose_cases (moved s) with ⟨x, hx, hc, hleft, closed⟩ | stays
  · rw [closed, closeFull_tlu, closeTruck_tlu hx]
    have unloading : isLoading s.tlu.current = false := by
      rw [← discharge_isLoading, ← moved_tlu, hx, Bool.eq_false_iff, Ne, isLoading_some, hc]
      decide
    refine ⟨sound.length, sound.within, sound.ordered, nofun, fun _ g hg ht => ?_, fun _ => ?_⟩
    · exact Nat.eq_zero_of_not_pos fun hv => hleft ⟨g, hg, ht, hv⟩
    · rw [moved_btq, moveSegments, unloading]
      rfl
  · rw [stays]
    exact sound

theorem takeIn_queueKept (v carry : Nat) {s : State} (h : QueueKept s) : QueueKept (takeIn v carry s) := by
  refine predictClosing_queueKept ?_
  unfold QueueKept
  rw [spillVolume_cfg, spillVolume_tlu, spillVolume_btq]
  exact h.offer v

theorem applyCapacity_queueKept {limit : Nat} {s : State} (h : QueueSound limit s.tlu.current s.btq.segs) :
    QueueKept (applyCapacity s) := by
  refine predictClosing_queueKept ((workOutPause_belt _).queueKept ?_)
  unfold QueueKept
  rw [spillVolume_cfg, spillVolume_tlu, spillVolume_btq]
  exact h.cut _

/-- R137: a new C cuts the segments; the same C leaves the limit. -/
theorem writeBelt_queueKept (r : BeltRec) {s : State} (h : QueueKept s) : QueueKept (writeBelt r s) := by
  by_cases hc : s.cfg.belt.cap = r.cap
  · rw [writeBelt_cap_same hc]
    exact BeltStands.queueKept (s := s) ⟨rfl, rfl, rfl, rfl, rfl, hc.symm⟩ h
  · rw [writeBelt_cap_changed hc]
    exact applyCapacity_queueKept (s := beltWritten r s) h

theorem retagQueue_queueKept {a b : Tag} (hab : a ≠ b) {s : State} (h : QueueSound (2 * s.cfg.belt.cap) s.tlu.current
    (s.btq.segs.map fun g => { g with tag := b })) : QueueKept (retagQueue a b s) := by
  refine (workOutPause_belt _).queueKept ?_
  unfold QueueKept
  rw [State.mapBtq_cfg, State.mapBtq_tlu, State.mapBtq_btq, retag_eq hab]
  exact h

theorem truckIn_queueKept {s : State} (h : QueueKept s) : QueueKept (truckIn s).1 := by
  unfold truckIn
  split
  · exact h
  · exact h
  · exact predictClosing_queueKept (retagQueue_queueKept (by decide) (h.turnedCurrent _))

theorem truckOut_queueKept {s : State} (h : QueueKept s) : QueueKept (truckOut s).1 := by
  unfold truckOut
  split
  · exact h
  · rename_i x hx
    refine retagQueue_queueKept (by decide) ?_
    rw [closeTruck_cfg, closeTruck_btq, closeTruck_tlu hx]
    exact h.turnedNext

/-- R119, R140: after a reset 32 empty segments tagged NEXT wait for a truck. -/
theorem resetBlocks_queueKept (p : Straps) (s : State) : QueueKept (resetBlocks p s) := by
  have empty : ∀ g ∈ List.replicate 32 (⟨0, .next⟩ : Segment), g = ⟨0, .next⟩ := fun g => List.eq_of_mem_replicate
  have sound (limit : Nat) : QueueSound limit none (List.replicate 32 ⟨0, .next⟩) :=
    ⟨List.length_replicate, fun g hg => by rw [empty g hg]; exact Nat.zero_le _,
      List.pairwise_replicate.2 (.inr id), nofun, fun _ g hg _ => by rw [empty g hg], fun _ => rfl⟩
  unfold QueueKept resetBlocks
  rw [setCond_tlu, setCond_btq]
  exact sound _

/-- R119: whatever a step does to the queue, its promises are kept. -/
theorem BeltMoves.queueKept {s t : State} (m : BeltMoves s t) (h : QueueKept s) : QueueKept t := by
  induction m with
  | stands same => exact same.queueKept h
  | shift s => exact shift_queueKept h
  | takeIn v carry s => exact takeIn_queueKept v carry h
  | writeBelt r s => exact writeBelt_queueKept r h
  | truckIn s => exact truckIn_queueKept h
  | truckOut s => exact truckOut_queueKept h
  | reset p s => exact resetBlocks_queueKept p s
  | trans _ _ first second => exact second (first h)

/-! ### R119 as the manual words it -/

theorem TagsOrdered.material {segs : List Segment} (h : TagsOrdered segs) : MaterialOrdered segs :=
  h.imp fun {a b} hab ⟨ha, _, hb, _⟩ => absurd (hb.symm.trans (hab ha)) (by decide)

theorem TagsFollowTruck.takesAll {s : State} (h : TagsFollowTruck s) : LoadingTakesAll s := fun hl g hg _ => h.1 hl g hg

/-- Settles O59: a step is made of moves of the queue, and each of them keeps its promises. -/
theorem queueOrderKept : Obligations.QueueOrderKept := by
  intro s t shape ordered follows run
  obtain ⟨shape', ordered', follows'⟩ :=
    (queueKept_iff t).1 ((step_moves run).queueKept ((queueKept_iff s).2 ⟨shape, ordered, follows⟩))
  exact ⟨shape', ordered', follows', TagsOrdered.material ordered', TagsFollowTruck.takesAll follows'⟩

end Sys2Proof.Machine

namespace Sys2Proof.Machine

/-! ### What the intake of an advance finds (R103) -/

/-- The sources beside the PT's own stand over a new h. -/
theorem highWaterChanged_source {e : EventSrc} (h : 10 < e.id) (s : State) : SourceStands e s (highWaterChanged s) :=
  (((judgeWindows_source (by omega) (by omega) _).trans (judgePlanEnd_source (by omega) _)).trans
    (judgePlanLow_source (by omega) _)).after

/-- R103: the part that the intake of an advance finds: at the new h, and ramped where the ramp comes first. -/
def beforeIntake (rampFirst : Bool) (delta : Nat) (s : State) : State :=
  if rampFirst then rampSides delta (highWaterChanged s) else highWaterChanged s

section
variable (rampFirst : Bool) (delta : Nat) (s : State)

@[simp] theorem beforeIntake_btq : (beforeIntake rampFirst delta s).btq = s.btq := by
  cases rampFirst <;> simp [beforeIntake]
@[simp] theorem beforeIntake_tlu : (beforeIntake rampFirst delta s).tlu = s.tlu := by
  cases rampFirst <;> simp [beforeIntake]
@[simp] theorem beforeIntake_vos : (beforeIntake rampFirst delta s).vos = s.vos := by
  cases rampFirst <;> simp [beforeIntake]
@[simp] theorem beforeIntake_cfg : (beforeIntake rampFirst delta s).cfg = s.cfg := by
  cases rampFirst <;> simp [beforeIntake]
@[simp] theorem beforeIntake_csc : (beforeIntake rampFirst delta s).csc = s.csc := by
  cases rampFirst <;> simp [beforeIntake]
@[simp] theorem beforeIntake_sru : (beforeIntake rampFirst delta s).sru = s.sru := by
  cases rampFirst <;> simp [beforeIntake]

theorem beforeIntake_dlu :
    (beforeIntake rampFirst delta s).dlu = if rampFirst then (advance rampFirst delta s).dlu else s.dlu := by
  cases rampFirst
  · exact highWaterChanged_dlu s
  · exact (advance_dlu true delta s).symm

@[simp] theorem beforeIntake_enable :
    (beforeIntake rampFirst delta s).li.events.enable = s.li.events.enable := by
  have high := (highWaterChanged_source (e := .spill) (by decide) s).enable
  cases rampFirst
  · exact high
  · exact (congrArg (Events.enable ∘ Li.events) (rampSides_li _ _)).trans high

/-- R103: what the intake does to the belt, the trucks and the events stands at the end of the advance. -/
theorem advance_intake :
    let y := intake delta (beforeIntake rampFirst delta s)
    let t := advance rampFirst delta s
    t.btq = y.btq ∧ t.tlu = y.tlu ∧ t.vos = y.vos ∧ t.li = y.li := by
  cases rampFirst
  · exact ⟨rampSides_btq _ _, rampSides_tlu _ _, rampSides_vos _ _, rampSides_li _ _⟩
  · exact ⟨rfl, rfl, rfl, rfl⟩

end

/-! ### What the intake takes in (R121, R122) -/

theorem CutState.takesIn_iff (c : CutState) : c.takesIn = true ↔ c = .cutting ∨ c = .lifting ∨ c = .holdSoft := by
  cases c <;> decide

/-- R122: a volume at segment 0 before the closing prediction. -/
def offered (v carry : Nat) (s : State) : State :=
  let o := offerVolume (2 * s.cfg.belt.cap) v s.btq.segs
  spillVolume o.2 (s.mapBtq fun b =>
    { b with segs := o.1, carry := carry, intakeTotal := b.intakeTotal + v, openBin := b.openBin + v })

theorem takeIn_eq (v carry : Nat) (s : State) : takeIn v carry s = predictClosing (offered v carry s) := rfl

@[simp] theorem offered_tlu (v carry : Nat) (s : State) : (offered v carry s).tlu = s.tlu := spillVolume_tlu _ _
@[simp] theorem offered_vos (v carry : Nat) (s : State) : (offered v carry s).vos = s.vos := spillVolume_vos _ _

theorem offered_enable (v carry : Nat) (s : State) :
    (offered v carry s).li.events.enable = s.li.events.enable :=
  (spillVolume_source (e := .planLow) (by decide) _ _).enable

section
variable {s : State} {g : Segment} {rest : List Segment} (hs : s.btq.segs = g :: rest) (v carry : Nat)
include hs

theorem offered_btq : (offered v carry s).btq = { s.btq with
    segs := { g with vol := min (g.vol + v) (2 * s.cfg.belt.cap) } :: rest, carry := carry,
    intakeTotal := s.btq.intakeTotal + v, openBin := s.btq.openBin + v,
    lostTotal := s.btq.lostTotal + (g.vol + v - 2 * s.cfg.belt.cap) } := by
  rw [offered, spillVolume_btq, hs]
  rfl

/-- R122: the volume taken in, and what the closing prediction may do to the pause mark and the drive. -/
theorem takeIn_btq : (takeIn v carry s).btq = { s.btq with
    segs := { g with vol := min (g.vol + v) (2 * s.cfg.belt.cap) } :: rest, carry := carry,
    intakeTotal := s.btq.intakeTotal + v, openBin := s.btq.openBin + v,
    lostTotal := s.btq.lostTotal + (g.vol + v - 2 * s.cfg.belt.cap), paused := (takeIn v carry s).btq.paused,
    drive := (takeIn v carry s).btq.drive } := by
  have same := predictClosing_pauseOnly (offered v carry s)
  rw [← takeIn_eq, offered_btq hs] at same
  exact same

theorem takeIn_spills (hv : 2 * s.cfg.belt.cap < g.vol + v) (he : marked s.li.events.enable 24 = true) :
    isPending .spill (takeIn v carry s) = true := by
  rw [takeIn_eq, (predictClosing_source_of_ne (by decide) (by decide) _).waits, offered, hs]
  exact spillVolume_spills (Nat.sub_pos_of_lt hv) he

end

/-- The prediction of an intake works on the segments that the intake leaves. -/
theorem takeIn_currentHolding (v carry : Nat) (s : State) :
    currentHolding (takeIn v carry s).btq.segs = currentHolding (offered v carry s).btq.segs := by
  rw [takeIn_eq, predictClosing_pauseOnly]

section
variable {s : State} {v carry : Nat}

theorem takeIn_closes {x : Truck} (hx : s.tlu.current = some x) (hl : x.state = .loading)
    (hd : x.target ≤ x.delivered + currentHolding (takeIn v carry s).btq.segs) :
    (takeIn v carry s).tlu = { s.tlu with current := some { x with state := .closing } } ∧
      (marked s.li.events.enable 21 = true → isPending .truckClosing (takeIn v carry s) = true) := by
  rw [takeIn_currentHolding] at hd
  rw [takeIn_eq, predictClosing_due (by rw [offered_tlu, hx]) hl hd]
  exact ⟨by rw [callClosing_tlu, offered_tlu], fun he => callClosing_pending (by rw [offered_enable, he])⟩

theorem takeIn_stays (h : ∀ x, s.tlu.current = some x → x.state = .loading →
    x.delivered + currentHolding (takeIn v carry s).btq.segs < x.target) :
    takeIn v carry s = offered v carry s := by
  rw [takeIn_currentHolding] at h
  rw [takeIn_eq]
  exact predictClosing_idle (by rwa [offered_tlu])

end

/-- R28, R29: a counted TRAVEL event that raises h hands on an advance to the new station. -/
theorem countedTravel_hands {dirHigh rampFirst : Bool} {s t : State} (hs : s.pins.resetHeld = false)
    (run : exec (.countedTravelEvent dirHigh rampFirst) s = .next t) (hup : s.pcu.high < t.pcu.high) :
    t = arbitrate (advance rampFirst (t.pcu.high - s.pcu.high)
      ((pcuTravel dirHigh s).mapPcu fun p => { p with high := p.station })) := by
  have high := congrArg Pcu.high (countedTravel_advanced hs run hup).pcu
  rw [exec_countedTravelEvent dirHigh rampFirst hs, Host.Outcome.next.injEq] at run
  have ahead : s.pcu.high < (pcuTravel dirHigh s).pcu.station := by rw [high] at hup; exact hup
  have handed : countedTravel dirHigh rampFirst s = advance rampFirst _ _ := if_pos ahead
  rw [high, ← run, handed]
  rfl

/-- R121: the quantity of an advance in the words of its rule. -/
theorem intakeQuantity_eq {delta : Nat} {s y : State} {sp : Side → Int} (hcfg : y.cfg = s.cfg) (hsru : y.sru = s.sru)
    (hbtq : y.btq = s.btq) (hsp : ∀ i, (y.dlu.get i).sp = sp i) :
    let m (i : Side) : Int :=
      max 0 (if (s.sru.sides.get i).ref = .lost then sp i else (s.sru.sides.get i).depth)
    intakeQuantity delta y = s.cfg.limits.width * ((m .left + m .right) / 2).toNat * delta + s.btq.carry := by
  rw [intakeQuantity, meanDepth, hcfg, hsru, hbtq]
  dsimp only
  rw [← hsp, ← hsp]
  rfl

/-- Settles O23: the event hands on an advance, and what the advance does to the belt is what its intake does, in the
part that the order of ramp and intake lets it find. -/
theorem advanceTakesInMaterial : Obligations.AdvanceTakesInMaterial := by
  intro dirHigh rampFirst s t hs run hup
  have handed := countedTravel_hands hs run hup
  dsimp only
  generalize t.pcu.high - s.pcu.high = delta at handed ⊢
  let x := (pcuTravel dirHigh s).mapPcu fun p => { p with high := p.station }
  let y := beforeIntake rampFirst delta x
  obtain ⟨btq, tlu, vos, li⟩ := advance_intake rampFirst delta x
  have dlu := beforeIntake_dlu rampFirst delta x
  rw [← arbitrate_btq, ← handed] at btq
  rw [← arbitrate_tlu, ← handed] at tlu
  rw [← arbitrate_vos, ← handed] at vos
  rw [← arbitrate_dlu (advance rampFirst delta x), ← handed] at dlu
  have pending (e : EventSrc) : isPending e t = isPending e (intake delta y) := by
    rw [handed]
    exact (SourceStands.of_events ((arbitrate_events _).trans (congrArg Li.events li))).waits
  have ybtq : y.btq = s.btq := beforeIntake_btq _ _ _
  have ytlu : y.tlu = s.tlu := beforeIntake_tlu _ _ _
  have yvos : y.vos = s.vos := beforeIntake_vos _ _ _
  have ycfg : y.cfg = s.cfg := beforeIntake_cfg _ _ _
  have takes : y.csc.state.takesIn = true ↔
      s.csc.state = .cutting ∨ s.csc.state = .lifting ∨ s.csc.state = .holdSoft := by
    rw [← CutState.takesIn_iff]
    exact Iff.of_eq (congrArg (fun c : Csc => c.state.takesIn = true) (beforeIntake_csc _ _ _))
  have enable : y.li.events.enable = s.li.events.enable := beforeIntake_enable _ _ _
  have quantity := intakeQuantity_eq (delta := delta) (y := y)
    (sp := fun i => if rampFirst then (t.dlu.get i).sp else (s.dlu.get i).sp) ycfg (beforeIntake_sru _ _ _) ybtq
    fun i => by rw [dlu]; cases rampFirst <;> rfl
  dsimp only at quantity
  rw [btq, tlu, vos, pending, pending, ← quantity, ← takes]
  refine ⟨fun hn => ?_, fun g rest htakes hg => ?_⟩
  · have idle : intake delta y = y := if_neg hn
    rw [idle, ybtq, ytlu, yvos]
    exact ⟨rfl, rfl, rfl⟩
  · have taken : intake delta y = takeIn _ _ y := if_pos htakes
    rw [taken, ← ycfg, ← enable, ← ytlu, ← yvos]
    rw [← ybtq] at hg ⊢
    refine ⟨takeIn_btq hg _ _, takeIn_spills hg _ _, fun x hx hl hd => takeIn_closes hx hl hd, fun hopen => ?_⟩
    rw [takeIn_stays hopen, offered_btq hg]
    exact ⟨offered_tlu _ _ _, rfl, rfl, offered_vos _ _ _⟩

end Sys2Proof.Machine

namespace Sys2Proof.Machine

/-! ### A new C (R137) -/

/-- R137: what is cut off and what stays make up what lay on the belt. -/
theorem excessVolume_add_holding (limit : Nat) (segs : List Segment) :
    excessVolume limit segs + beltHolding (cutSegments limit segs) = beltHolding segs := by
  unfold excessVolume beltHolding cutSegments
  induction segs with
  | nil => rfl
  | cons g rest ih =>
    simp only [List.map_cons, List.sum_cons] at ih ⊢
    omega

/-- R137: the segments cut, before the pause mark and the closing prediction are worked out. -/
def capped (s : State) : State :=
  spillVolume (excessVolume (2 * s.cfg.belt.cap) s.btq.segs)
    (s.mapBtq fun b => { b with segs := cutSegments (2 * s.cfg.belt.cap) b.segs })

theorem applyCapacity_eq (s : State) : applyCapacity s = predictClosing (workOutPause (capped s)) := rfl

theorem capped_btq (s : State) : (capped s).btq = { s.btq with
    segs := cutSegments (2 * s.cfg.belt.cap) s.btq.segs,
    lostTotal := s.btq.lostTotal + excessVolume (2 * s.cfg.belt.cap) s.btq.segs } := spillVolume_btq _ _

theorem capped_tlu (s : State) : (capped s).tlu = s.tlu := spillVolume_tlu _ _

theorem capped_enable (s : State) : (capped s).li.events.enable = s.li.events.enable :=
  (spillVolume_source (e := .planLow) (by decide) _ _).enable

theorem applyCapacity_pauseOnly (s : State) : (capped s).btq.PauseOnly (applyCapacity s).btq :=
  (workOutPause_pauseOnly _).trans (predictClosing_pauseOnly _)

theorem applyCapacity_segs (s : State) :
    (applyCapacity s).btq.segs = cutSegments (2 * s.cfg.belt.cap) s.btq.segs := by
  rw [applyCapacity_pauseOnly, capped_btq]

theorem applyCapacity_lostTotal (s : State) :
    (applyCapacity s).btq.lostTotal = s.btq.lostTotal + excessVolume (2 * s.cfg.belt.cap) s.btq.segs := by
  rw [applyCapacity_pauseOnly, capped_btq]

theorem applyCapacity_btq (s : State) : (applyCapacity s).btq = { s.btq with
    segs := cutSegments (2 * s.cfg.belt.cap) s.btq.segs, lostTotal := (applyCapacity s).btq.lostTotal,
    paused := (applyCapacity s).btq.paused, drive := (applyCapacity s).btq.drive } := by
  have same := applyCapacity_pauseOnly s
  rw [capped_btq] at same
  rw [applyCapacity_lostTotal]
  exact same

theorem applyCapacity_beltFrame (s : State) : BeltFrame s (applyCapacity s) where
  vos := by
    have same : (capped s).vos = s.vos := spillVolume_vos _ _
    rw [← same]
    exact (workOutPause_beltOnly _).trans (predictClosing_beltOnly _)

theorem applyCapacity_judged (s : State) : PauseJudged s (applyCapacity s) :=
  (workOutPause_judged (capped s)).predicted.of_start (by rw [capped_btq]) (congrArg Vos.beltHeld (spillVolume_vos _ _))

theorem applyCapacity_spills {s : State} (h : s.btq.lostTotal < (applyCapacity s).btq.lostTotal)
    (he : marked s.li.events.enable 24 = true) : isPending .spill (applyCapacity s) = true := by
  rw [applyCapacity_lostTotal] at h
  rw [applyCapacity_eq, (predictClosing_source_of_ne (by decide) (by decide) _).waits,
    (workOutPause_source_of_ne (by decide) _).waits]
  exact spillVolume_spills (Nat.pos_of_lt_add_right h) he

/-- The prediction of a new C works on the segments that it leaves. -/
theorem applyCapacity_currentHolding (s : State) :
    currentHolding (applyCapacity s).btq.segs = currentHolding (workOutPause (capped s)).btq.segs := by
  rw [applyCapacity_eq, predictClosing_pauseOnly]

theorem applyCapacity_closes {s : State} {x : Truck} (hx : s.tlu.current = some x) (hl : x.state = .loading)
    (hd : x.target ≤ x.delivered + currentHolding (applyCapacity s).btq.segs) :
    (applyCapacity s).tlu = { s.tlu with current := some { x with state := .closing } } ∧
      (marked s.li.events.enable 21 = true → isPending .truckClosing (applyCapacity s) = true) := by
  have enable : (workOutPause (capped s)).li.events.enable = s.li.events.enable :=
    (workOutPause_source_of_ne (e := .spill) (by decide) _).enable.trans (capped_enable s)
  rw [applyCapacity_currentHolding] at hd
  rw [applyCapacity_eq, predictClosing_due (by rw [workOutPause_tlu, capped_tlu, hx]) hl hd]
  exact ⟨by rw [callClosing_tlu, workOutPause_tlu, capped_tlu], fun he => callClosing_pending (by rw [enable, he])⟩

theorem applyCapacity_stays {s : State} (h : ∀ x, s.tlu.current = some x → x.state = .loading →
    x.delivered + currentHolding (applyCapacity s).btq.segs < x.target) : (applyCapacity s).tlu = s.tlu := by
  rw [applyCapacity_currentHolding] at h
  rw [applyCapacity_eq, predictClosing_idle (by rwa [workOutPause_tlu, capped_tlu]), workOutPause_tlu, capped_tlu]

/-! ### The BELT record (R136, R203) -/

/-- Section 7.8: the fields of the BELT record in range. -/
structure BeltRec.InRange (r : BeltRec) : Prop where
  length : 3200 ≤ r.length ∧ r.length ≤ 25600
  cap : 10 ≤ r.cap ∧ r.cap ≤ 5000
  fill : 20 ≤ r.fill ∧ r.fill ≤ 100
  vmin : 100 ≤ r.vmin ∧ r.vmin ≤ 6000
  vmax : 100 ≤ r.vmax ∧ r.vmax ≤ 6000
  vfull : 100 ≤ r.vfull ∧ r.vfull ≤ 6000
  kb : r.kb ≤ 255
  fixed : 100 ≤ r.fixed ∧ r.fixed ≤ 6000

/-- The fields of the BELT record in field order, the index 0 first. -/
def beltFields (r : BeltRec) : List Nat := [0, r.length, r.cap, r.fill, r.vmin, r.vmax, r.vfull, r.kb, r.fixed]

/-- R136: the bytes of a BELT record in range; the belt length is its structural field. -/
theorem setBelt_good {r : BeltRec} (h : r.InRange) (s : State) :
    setBelt ((beltFields r).flatMap (le 2)) s =
      if s.csc.state ≠ .config ∧ s.cfg.belt.length ≠ r.length then (s, replyMode) else (writeBelt r s, replyOk []) := by
  obtain ⟨hlength, hcap, hfill, hvmin, hvmax, hvfull, hkb, hfixed⟩ := h
  have small : ∀ v ∈ beltFields r, v < 65536 := by
    simp only [beltFields, List.forall_mem_cons, List.not_mem_nil, false_implies, implies_true, and_true]
    omega
  have fields : readFields (List.replicate 9 false) ((beltFields r).flatMap (le 2)) = (beltFields r).map Int.ofNat :=
    readFields_naturals small
  unfold setBelt
  rw [fields]
  simp only [beltFields, List.map_cons, List.map_nil, Int.ofNat_eq_natCast]
  rw [writeRecord_good]
  · simp only [Int.toNat_natCast, bne_iff_ne]
  · simp only [List.forall_mem_cons, within_eq_true, List.not_mem_nil, false_implies, implies_true, and_true]
    omega

/-- Settles O46: the record judged and written, and with a new C the segments cut to it. -/
theorem beltRecordIsWritten : Obligations.BeltRecordIsWritten := by
  intro tag r s hfree hlength3200 hlength25600 hcap10 hcap5000 hfill20 hfill100 hvmin100 hvmin6000 hvmax100 hvmax6000
    hvfull100 hvfull6000 hkb hfixed100 hfixed6000
  have inRange : r.InRange := ⟨⟨hlength3200, hlength25600⟩, ⟨hcap10, hcap5000⟩, ⟨hfill20, hfill100⟩,
    ⟨hvmin100, hvmin6000⟩, ⟨hvmax100, hvmax6000⟩, ⟨hvfull100, hvfull6000⟩, hkb, ⟨hfixed100, hfixed6000⟩⟩
  have run := setForm_good (p := .belt) (tag := tag) (rest := (beltFields r).flatMap (le 2)) rfl (by simp [beltFields])
    hfree
  rw [setBelt_good inRange] at run
  refine ⟨fun hs hl => ?_, fun hs hc => ?_, fun hs hc => ?_⟩
  · rw [if_pos ⟨hs, hl⟩] at run
    exact run
  · rw [if_neg fun k => hs.elim k.1 k.2, writeBelt_cap_same (s := heard s) hc] at run
    exact run
  · rw [if_neg fun k => hs.elim k.1 k.2, writeBelt_cap_changed (s := heard s) hc] at run
    let w := beltWritten r (heard s)
    have judged := applyCapacity_judged w
    refine ⟨applyCapacity w, run, (applyCapacity_beltFrame w).eq, applyCapacity_btq w, ?_, judged.paused, judged.cond,
      judged.held, judged.free, ⟨fun _ => applyCapacity_closes (s := w), applyCapacity_stays (s := w)⟩,
      applyCapacity_spills (s := w)⟩
    rw [applyCapacity_lostTotal, applyCapacity_segs, Nat.add_assoc, excessVolume_add_holding]
    rfl

end Sys2Proof.Machine

namespace Sys2Proof.Machine

/-! ### Volume over the moves of the queue (R155) -/

/-- What has gone to trucks: the closed total and the delivered total of the current one. -/
def truckVolume (t : Tlu) : Nat := t.closedTotal + deliveredNow t

theorem volumeBalanced_iff (s : State) : VolumeBalanced s ↔
    s.btq.intakeTotal = truckVolume s.tlu + beltHolding s.btq.segs + s.btq.lostTotal := Iff.rfl

theorem truckVolume_of_current {t : Tlu} {x : Truck} (h : t.current = some x) :
    truckVolume t = t.closedTotal + x.delivered := by
  unfold truckVolume deliveredNow
  rw [h]

theorem truckVolume_absent {t : Tlu} (h : t.current = none) : truckVolume t = t.closedTotal := by
  unfold truckVolume deliveredNow
  rw [h]
  rfl

theorem beltHolding_cons (g : Segment) (rest : List Segment) :
    beltHolding (g :: rest) = g.vol + beltHolding rest := List.sum_cons

/-- R125: what leaves the queue at a move is the discharge segment; the new segment 0 is empty. -/
theorem moveSegments_holding (t : Option Truck) (segs : List Segment) :
    beltHolding (moveSegments t segs) + lastVolume segs = beltHolding segs := by
  rw [moveSegments, beltHolding_cons, Nat.zero_add]
  cases segs using List.reverseRecOn with
  | nil => rfl
  | append_singleton front g => simp [beltHolding, lastVolume]

/-- R122: an offered volume joins segment 0 or does not fit. -/
theorem offerVolume_holding (limit v : Nat) (segs : List Segment) :
    beltHolding (offerVolume limit v segs).1 + (offerVolume limit v segs).2 = beltHolding segs + v := by
  cases segs with
  | nil => rfl
  | cons g rest =>
    simp only [offerVolume, beltHolding_cons]
    omega

/-- R127: a turned tag leaves the volumes. -/
theorem turnedTags_holding (tag : Tag) (segs : List Segment) :
    beltHolding (segs.map fun g => { g with tag := tag }) = beltHolding segs := by
  rw [beltHolding, List.map_map]
  rfl

section
variable {s t : State}

theorem BeltStands.truckVolume (m : BeltStands s t) : Machine.truckVolume t.tlu = Machine.truckVolume s.tlu := by
  simp only [Machine.truckVolume, deliveredNow, m.closedTotal, m.current]

theorem BeltStands.balanced (m : BeltStands s t) (h : VolumeBalanced s) : VolumeBalanced t := by
  rw [volumeBalanced_iff] at h ⊢
  rw [m.truckVolume, m.segs, m.intakeTotal, m.lostTotal, h]

/-- An operation that works on the pause alone, and moves volume from one truck total to the other. -/
theorem VolumeBalanced.paused (h : VolumeBalanced s) (belt : s.btq.PauseOnly t.btq)
    (trucks : truckVolume t.tlu = truckVolume s.tlu) : VolumeBalanced t := by
  rw [volumeBalanced_iff] at h ⊢
  rw [trucks, belt]
  exact h

end

/-! ### Each move of the queue keeps the volume equation -/

theorem predictClosing_truckVolume (s : State) : truckVolume (predictClosing s).tlu = truckVolume s.tlu := by
  rcases predictClosing_cases s with ⟨x, hx, -, called⟩ | idle
  · rw [called, callClosing_tlu, truckVolume_of_current rfl, truckVolume_of_current hx]
  · rw [idle]

theorem predictClosing_balanced {s : State} (h : VolumeBalanced s) : VolumeBalanced (predictClosing s) :=
  VolumeBalanced.paused h (predictClosing_pauseOnly s) (predictClosing_truckVolume s)

/-- R154: the delivered total of a truck that is closed joins the closed total. -/
theorem closeTruck_truckVolume (reason : CloseReason) (s : State) :
    truckVolume (closeTruck reason s).tlu = truckVolume s.tlu := by
  cases hx : s.tlu.current with
  | none => simp only [closeTruck, hx]
  | some x => rw [closeTruck_tlu hx, truckVolume_absent rfl, truckVolume_of_current hx]

theorem judgeClose_truckVolume (s : State) : truckVolume (judgeClose s).tlu = truckVolume s.tlu := by
  rcases judgeClose_cases s with ⟨x, -, -, -, closed⟩ | stays
  · rw [closed, closeFull_tlu, closeTruck_truckVolume]
  · rw [stays]

/-- R126: the volume discharged goes to the current truck or is lost. -/
theorem discharge_volume (s : State) :
    truckVolume (discharge s).tlu + (discharge s).btq.lostTotal =
      truckVolume s.tlu + lastVolume s.btq.segs + s.btq.lostTotal := by
  cases hx : s.tlu.current with
  | none =>
    rw [discharge_lost hx, spillVolume_tlu, spillVolume_btq]
    dsimp only
    omega
  | some x =>
    rw [discharge_truck hx, State.mapTlu_tlu, State.mapTlu_btq, truckVolume_of_current rfl, truckVolume_of_current hx,
      ← Nat.add_assoc]

theorem moved_balanced {s : State} (h : VolumeBalanced s) : VolumeBalanced (moved s) := by
  have discharged := discharge_volume s
  have left := moveSegments_holding s.tlu.current s.btq.segs
  rw [volumeBalanced_iff] at h ⊢
  rw [moved_tlu, moved_btq, discharge_btq]
  dsimp only
  omega

theorem shift_balanced {s : State} (h : VolumeBalanced s) : VolumeBalanced (shift s) :=
  VolumeBalanced.paused (moved_balanced h) (shift_pauseOnly s) (by rw [shift_tlu, judgeClose_truckVolume])

/-- R122: a volume taken in joins the intake total, and the belt or the lost total. -/
theorem takeIn_balanced (v carry : Nat) {s : State} (h : VolumeBalanced s) : VolumeBalanced (takeIn v carry s) := by
  refine predictClosing_balanced (s := offered v carry s) ?_
  have joined := offerVolume_holding (2 * s.cfg.belt.cap) v s.btq.segs
  rw [volumeBalanced_iff] at h ⊢
  rw [offered_tlu, offered, spillVolume_btq]
  simp only [State.mapBtq_btq]
  omega

/-- R137: what a new C cuts off joins the lost total. -/
theorem applyCapacity_balanced {s : State} (h : VolumeBalanced s) : VolumeBalanced (applyCapacity s) := by
  refine predictClosing_balanced (s := workOutPause (capped s)) ((workOutPause_belt _).balanced ?_)
  have cut := excessVolume_add_holding (2 * s.cfg.belt.cap) s.btq.segs
  rw [volumeBalanced_iff] at h ⊢
  rw [capped_tlu, capped_btq]
  dsimp only
  omega

theorem writeBelt_balanced (r : BeltRec) {s : State} (h : VolumeBalanced s) : VolumeBalanced (writeBelt r s) := by
  by_cases hc : s.cfg.belt.cap = r.cap
  · rw [writeBelt_cap_same hc]
    exact h
  · rw [writeBelt_cap_changed hc]
    exact applyCapacity_balanced (s := beltWritten r s) h

/-- R127: a retagging moves no volume. -/
theorem retagQueue_balanced {a b : Tag} (hab : a ≠ b) {s : State} (h : VolumeBalanced s) :
    VolumeBalanced (retagQueue a b s) := by
  refine (workOutPause_belt _).balanced ?_
  rw [volumeBalanced_iff] at h ⊢
  rw [State.mapBtq_tlu, State.mapBtq_btq, retag_eq hab, turnedTags_holding]
  exact h

/-- R143: a truck comes in with nothing delivered. -/
theorem truckIn_balanced {s : State} (h : VolumeBalanced s) : VolumeBalanced (truckIn s).1 := by
  unfold truckIn
  split
  · exact h
  · exact h
  · rename_i hx _
    refine predictClosing_balanced (retagQueue_balanced (by decide) ?_)
    rw [volumeBalanced_iff, truckVolume_absent hx] at h
    exact h

theorem truckOut_balanced {s : State} (h : VolumeBalanced s) : VolumeBalanced (truckOut s).1 := by
  unfold truckOut
  split
  · exact h
  · refine retagQueue_balanced (by decide) (VolumeBalanced.paused h ?_ (closeTruck_truckVolume _ _))
    rw [closeTruck_btq]
    exact .rfl

theorem reset_balanced : VolumeBalanced State.reset := by decide

theorem resetBlocks_balanced (p : Straps) (s : State) : VolumeBalanced (resetBlocks p s) := by
  unfold resetBlocks VolumeBalanced
  rw [setCond_tlu, setCond_btq]
  exact reset_balanced

/-- R155: whatever a step does to the belt and the trucks, the volume equation is kept. -/
theorem BeltMoves.balanced {s t : State} (m : BeltMoves s t) (h : VolumeBalanced s) : VolumeBalanced t := by
  induction m with
  | stands same => exact same.balanced h
  | shift s => exact shift_balanced h
  | takeIn v carry s => exact takeIn_balanced v carry h
  | writeBelt r s => exact writeBelt_balanced r h
  | truckIn s => exact truckIn_balanced h
  | truckOut s => exact truckOut_balanced h
  | reset p s => exact resetBlocks_balanced p s
  | trans _ _ first second => exact second (first h)

/-- Settles O58: a step is made of moves of the queue, and each of them puts a volume from one total into another. -/
theorem volumeEquationKept : Obligations.VolumeEquationKept :=
  ⟨reset_balanced, fun _ _ h run => (step_moves run).balanced h⟩

end Sys2Proof.Machine

namespace Sys2Proof.Machine

/-! ### What a truck request does to the belt (R127, R131) -/

theorem BeltFrame.trans {s t u : State} (h : BeltFrame s t) (k : BeltFrame t u) : BeltFrame s u where
  pins := k.pins.trans h.pins
  cfg := k.cfg.trans h.cfg
  sfe := k.sfe.trans h.sfe
  pcu := k.pcu.trans h.pcu
  sru := k.sru.trans h.sru
  dlm := k.dlm.trans h.dlm
  csc := k.csc.trans h.csc
  waiting := k.waiting.trans h.waiting
  vos := h.vos.trans k.vos
  pt := k.pt.trans h.pt
  dlu := k.dlu.trans h.dlu

theorem mapBtq_beltFrame (f : Btq → Btq) (s : State) : BeltFrame s (s.mapBtq f) where
  vos := .rfl

theorem mapTlu_beltFrame (f : Tlu → Tlu) (s : State) : BeltFrame s (s.mapTlu f) where
  vos := .rfl

theorem workOutPause_beltFrame (s : State) : BeltFrame s (workOutPause s) where
  vos := workOutPause_beltOnly s

theorem predictClosing_beltFrame (s : State) : BeltFrame s (predictClosing s) where
  vos := predictClosing_beltOnly s

theorem closeTruck_beltFrame (reason : CloseReason) (s : State) : BeltFrame s (closeTruck reason s) where
  vos := by rw [closeTruck_vos]; exact .rfl

/-- The part once every segment of s has been turned to one tag and the pause mark has been worked out. -/
structure Retagged (tag : Tag) (s t : State) : Prop where
  frame : BeltFrame s t
  belt : ({ s.btq with segs := s.btq.segs.map fun g => { g with tag := tag } } : Btq).PauseOnly t.btq
  judged : PauseJudged s t

section
variable {tag : Tag} {s t u : State}

theorem Retagged.segs (h : Retagged tag s t) : t.btq.segs = s.btq.segs.map fun g => { g with tag := tag } := by
  rw [h.belt]

/-- Of the BTQ, a truck request reaches the segments, the pause mark and the drive. -/
theorem Retagged.btq (h : Retagged tag s t) :
    t.btq = { s.btq with segs := t.btq.segs, paused := t.btq.paused, drive := t.btq.drive } := by
  rw [h.segs]
  exact h.belt

/-- The trucks change before the retagging. -/
theorem Retagged.after (k : Retagged tag t u) (frame : BeltFrame s t) (hb : t.btq = s.btq) (hv : t.vos = s.vos) :
    Retagged tag s u :=
  ⟨frame.trans k.frame, hb ▸ k.belt, k.judged.of_start (by rw [hb]) (by rw [hv])⟩

/-- The closing prediction follows the retagging. -/
theorem Retagged.predicted (h : Retagged tag s t) : Retagged tag s (predictClosing t) :=
  ⟨h.frame.trans (predictClosing_beltFrame t), h.belt.trans (predictClosing_pauseOnly t), h.judged.predicted⟩

theorem retagQueue_retagged {a b : Tag} (hab : a ≠ b) (s : State) : Retagged b s (retagQueue a b s) := by
  refine ⟨(mapBtq_beltFrame _ s).trans (workOutPause_beltFrame _), ?_, (workOutPause_judged _).of_start rfl rfl⟩
  rw [← retag_eq hab]
  exact workOutPause_pauseOnly _

theorem retagQueue_tlu (a b : Tag) (s : State) : (retagQueue a b s).tlu = s.tlu := workOutPause_tlu _

/-- R209: of the events, a retagging judges BELT_PAUSED alone. -/
theorem retagQueue_source_of_ne {e : EventSrc} (h : e.id ≠ 23) (a b : Tag) (s : State) :
    SourceStands e s (retagQueue a b s) := (workOutPause_source_of_ne h _).after

end

/-- R146: with every tag CURRENT the prediction counts the whole belt. -/
theorem turnedCurrent_currentHolding (segs : List Segment) :
    currentHolding (segs.map fun g => { g with tag := .current }) = beltHolding segs := by
  have own : ∀ g ∈ segs.map fun g => { g with tag := Tag.current }, (g.tag == .current) = true :=
    List.forall_mem_map.2 fun _ _ => rfl
  rw [currentHolding, List.filter_eq_self.2 own]
  exact turnedTags_holding .current segs

/-- R128: material of the current truck does not pause the belt. -/
theorem pauseMark_own {segs : List Segment} (x : Truck) (h : ∀ g ∈ segs, g.tag = .current) :
    pauseMark (some x) segs = false := by
  cases hz : segs.getLast? with
  | none => simp only [pauseMark, hz]
  | some z =>
    refine Bool.eq_false_iff.2 fun paused => ?_
    obtain ⟨-, others⟩ := (pauseMark_iff _ hz).1 paused
    have own := h z (List.mem_of_getLast? hz)
    exact absurd (own.symm.trans (others x rfl).2) (by decide)

/-- R128: without a truck material at the discharge pauses the belt. -/
theorem pauseMark_absent {segs : List Segment} {z : Segment} (h : segs.getLast? = some z) :
    pauseMark none segs = decide (0 < z.vol) := by
  simp only [pauseMark, h, isLoading, isClosing, Option.any_none, Bool.not_false, Bool.and_true, Bool.false_and]

/-! ### TRUCK_IN (R143) -/

/-- R143: the next truck comes in LOADING, with nothing delivered. -/
def arrived (x : NextTruck) (station : Nat) : Truck :=
  { state := .loading, number := x.number, target := x.target, delivered := 0, opened := station }

/-- R127, R143: the truck brought in, before the closing prediction. -/
def broughtIn (x : NextTruck) (s : State) : State :=
  retagQueue .next .current (s.mapTlu fun b => { b with next := none, current := some (arrived x s.pcu.station) })

section
variable {s : State} {x : NextTruck}

theorem truckIn_taken (hc : s.tlu.current = none) (hn : s.tlu.next = some x) :
    truckIn s = (predictClosing (broughtIn x s), replyOk []) := by
  simp only [truckIn, hc, hn]
  rfl

theorem broughtIn_retagged : Retagged .current s (broughtIn x s) :=
  (retagQueue_retagged (by decide) _).after (mapTlu_beltFrame _ s) rfl rfl

theorem broughtIn_tlu :
    (broughtIn x s).tlu = { s.tlu with next := none, current := some (arrived x s.pcu.station) } := retagQueue_tlu _ _ _

theorem broughtIn_currentHolding : currentHolding (broughtIn x s).btq.segs = beltHolding s.btq.segs := by
  rw [broughtIn_retagged.segs, turnedCurrent_currentHolding]

/-- R146: the truck is CLOSING at once where the belt holds its target, and LOADING otherwise. -/
theorem truckIn_tlu : (predictClosing (broughtIn x s)).tlu = { s.tlu with
    next := none,
    current := some { arrived x s.pcu.station with
      state := if x.target ≤ beltHolding s.btq.segs then .closing else .loading } } := by
  have current := congrArg Tlu.current (broughtIn_tlu (s := s) (x := x))
  by_cases full : x.target ≤ beltHolding s.btq.segs
  · rw [predictClosing_due current rfl (by rwa [broughtIn_currentHolding, arrived, Nat.zero_add]), callClosing_tlu,
      broughtIn_tlu, if_pos full]
  · rw [predictClosing_idle, broughtIn_tlu, if_neg full]
    · rfl
    · intro y hy _
      obtain rfl := Option.some.inj (current.symm.trans hy)
      rw [broughtIn_currentHolding, arrived, Nat.zero_add]
      exact Nat.not_le.1 full

theorem truckIn_closes (full : x.target ≤ beltHolding s.btq.segs) (he : marked s.li.events.enable 21 = true) :
    isPending .truckClosing (predictClosing (broughtIn x s)) = true := by
  have current := congrArg Tlu.current (broughtIn_tlu (s := s) (x := x))
  have enable : (broughtIn x s).li.events.enable = s.li.events.enable :=
    (retagQueue_source_of_ne (e := .truckClosing) (by decide) _ _ _).enable
  rw [predictClosing_due current rfl (by rwa [broughtIn_currentHolding, arrived, Nat.zero_add])]
  exact callClosing_pending (by rw [enable, he])

/-- R128: the belt's material is all the new truck's own, so nothing pauses. -/
theorem truckIn_unpaused : (predictClosing (broughtIn x s)).btq.paused = false := by
  have taken := (broughtIn_retagged (s := s) (x := x)).predicted
  rw [taken.judged.paused, truckIn_tlu, taken.segs]
  exact pauseMark_own _ (List.forall_mem_map.2 fun _ _ => rfl)

end

/-! ### TRUCK_OUT (R150) -/

/-- R127, R150: the current truck sent away. -/
def sentOut (s : State) : State := retagQueue .current .next (closeTruck .out s)

section
variable {s : State} {x : Truck}

theorem truckOut_sent (hx : s.tlu.current = some x) : truckOut s = (sentOut s, replyOk []) := by
  simp only [truckOut, hx]
  rfl

theorem sentOut_retagged : Retagged .next s (sentOut s) := by
  refine Retagged.after ?_ (closeTruck_beltFrame .out s) (closeTruck_btq _ _) (closeTruck_vos _ _)
  exact retagQueue_retagged (by decide) _

theorem sentOut_tlu (hx : s.tlu.current = some x) : (sentOut s).tlu = { s.tlu with
    current := none, closedTotal := s.tlu.closedTotal + x.delivered,
    log := ({ number := x.number, target := x.target, delivered := x.delivered, opened := x.opened,
              closed := s.pcu.station, reason := .out } :: s.tlu.log).take 8 } := by
  rw [sentOut, retagQueue_tlu, closeTruck_tlu hx]

theorem sentOut_paused (hx : s.tlu.current = some x) {g : Segment} (hg : s.btq.segs.getLast? = some g) :
    (sentOut s).btq.paused = decide (0 < g.vol) := by
  have sent := sentOut_retagged (s := s)
  have atDischarge : (sentOut s).btq.segs.getLast? = some { g with tag := .next } := by
    rw [sent.segs, List.getLast?_map, hg]
    rfl
  rw [sent.judged.paused, sentOut_tlu hx, pauseMark_absent atDischarge]

/-- R150: a truck sent away raises no TRUCK_CLOSED. -/
theorem sentOut_pending : isPending .truckClosed (sentOut s) = isPending .truckClosed s :=
  ((retagQueue_source_of_ne (e := .truckClosed) (by decide) _ _ _).after (by rw [closeTruck_li])).waits

end

/-- Settles O56: each request by its checks in order, a retagging with the pause mark worked out, and for TRUCK_IN the
closing prediction on a belt that is all the new truck's. -/
theorem trucksComeAndGo : Obligations.TrucksComeAndGo := by
  intro tag s hfree
  have runIn := takeRequest_good (k := .truckIn) (tag := tag) (payload := []) rfl rfl hfree.1 (.inl hfree.2)
  have runOut := takeRequest_good (k := .truckOut) (tag := tag) (payload := []) rfl rfl hfree.1 (.inl hfree.2)
  refine ⟨fun hc => ?_, fun hc hn => ?_, fun x hc hn => ?_, fun hc => ?_, fun x hx => ?_⟩
  · obtain ⟨y, hy⟩ := Option.ne_none_iff_exists'.1 hc
    simp only [truckIn, heard_tlu, hy] at runIn
    exact runIn
  · simp only [truckIn, heard_tlu, hc, hn] at runIn
    exact runIn
  · rw [truckIn_taken (s := heard s) hc hn] at runIn
    have taken := (broughtIn_retagged (s := heard s) (x := x)).predicted
    exact ⟨predictClosing (broughtIn x (heard s)), runIn,
      ⟨taken.frame.eq, taken.btq, taken.judged.cond, taken.judged.held, taken.judged.free⟩, taken.segs,
      truckIn_unpaused, truckIn_tlu, truckIn_closes (s := heard s)⟩
  · simp only [truckOut, heard_tlu, hc] at runOut
    exact runOut
  · rw [truckOut_sent (s := heard s) hx] at runOut
    have sent := sentOut_retagged (s := heard s)
    exact ⟨sentOut (heard s), runOut,
      ⟨sent.frame.eq, sent.btq, sent.judged.cond, sent.judged.held, sent.judged.free⟩, sent.segs,
      fun g hg => sentOut_paused (s := heard s) hx hg, sentOut_pending, sentOut_tlu (s := heard s) hx⟩

end Sys2Proof.Machine

namespace Sys2Proof.Machine

/-! ### The state after reset -/

/-- The state after reset is what a reset with every strap low brings any part with STOP released to. -/
theorem resetBlocks_reset : resetBlocks Straps.low State.reset = State.reset := rfl

theorem reset_queueKept : QueueKept State.reset := resetBlocks_reset ▸ resetBlocks_queueKept Straps.low State.reset

theorem reset_countersApart (i : Chan) : CountersApart (State.reset.sfe.chans.get i) := by
  cases i <;> exact ⟨fun _ => rfl, fun _ => rfl⟩

/-- R18, R21: after reset no channel has a substitute and no capture is in flight. -/
theorem reset_heldOnlyWhereAllowed : HeldOnlyWhereAllowed State.reset :=
  ⟨fun _ i => by cases i <;> rfl, fun _ => rfl⟩

/-- Settles O4: the queue's promises as after every reset, the channels' one channel at a time, and the others by
evaluating the state after reset. -/
theorem resetMeetsEveryPromise : Obligations.ResetMeetsEveryPromise := by
  obtain ⟨shape, ordered, follows⟩ := (queueKept_iff _).1 reset_queueKept
  have levels : LevelsLatched State.reset := by decide
  have station : StationInRange State.reset := by decide
  have jog : JogOnlyInReady State.reset := by decide
  have neutral : NeutralWhenHeld State.reset := by decide
  have setpoint : SetpointInRange 3500 Loop.reset := by decide
  have integ : IntegratorLimited SideRec.reset Loop.reset := by decide
  have plan : PlanOrdered State.reset.pt.list := by decide
  have windows : WindowsApart State.reset.pt.windows := by decide
  exact ⟨reset_balanced, levels, Nat.zero_le _, fun _ => ⟨rfl, rfl, rfl⟩, station, rfl, jog, neutral,
    fun _ => rfl, fun _ => rfl, shape, TagsOrdered.material ordered, ordered, TagsFollowTruck.takesAll follows, follows,
    setpoint, setpoint, integ, integ, plan, windows, reset_countersApart, reset_heldOnlyWhereAllowed, Nat.zero_le _⟩

end Sys2Proof.Machine

namespace Sys2Proof.Machine

/-! ### The idle step (R187, R188) -/

/-- R188: the time left of a JOG falls by one millisecond, and the JOG ends as it reaches 0. -/
theorem Leg.runDown_eq (l : Leg) : l.runDown =
    if l.owner = .jog then (if l.jogLeft ≤ 1 then ⟨.none, 0, 0⟩ else { l with jogLeft := l.jogLeft - 1 }) else l := by
  unfold Leg.runDown Leg.jogDue Leg.endJog expiryDue
  by_cases hj : l.owner = .jog
  · by_cases hd : l.jogLeft ≤ 1 <;> simp [hj, hd]
  · simp [hj]

theorem step_empty {s : State} (h : s.pending = []) : step s = .next (idle s) := by
  rw [step, h]

/-- Settles O2: on an empty queue the step idles, and the idle step is one millisecond unless RESETn is held. -/
theorem stepIdlesOnEmptyQueue : Obligations.StepIdlesOnEmptyQueue := by
  intro s hp
  rw [step_empty hp]
  refine ⟨fun hr => ?_, fun hr => ?_⟩
  · rw [idle, if_pos hr]
  · have runs : idle s = tick s := if_neg (by simp [hr])
    rw [runs]
    dsimp only
    rw [← Leg.runDown_eq, ← Leg.runDown_eq]
    rfl

/-! ### The held part (R180, log 9) -/

section
variable {s : State} (h : s.pins.resetHeld = true)
include h

theorem act_held (f : State → State) : act f s = .next s := if_pos h

theorem advancePermit_held : advancePermit s = false := by rw [advancePermit, h, Bool.not_true, Bool.false_and]

theorem driveStop_held : driveStop s = s.mapPins fun p => { p with stop := true } := by
  unfold driveStop
  split
  · rename_i hs
    rw [← hs]
    rfl
  · rfl

theorem undriveStop_held : undriveStop s = s.mapPins fun p => { p with stop := false } := by
  unfold undriveStop
  split
  · rename_i hs
    rw [← hs]
    rfl
  · rfl

/-- A held part follows the levels of STOP and of RESETn, and carries no other command out. -/
theorem exec_held (c : Instr) (hc : ∀ p, c ≠ .powerOnReset p) :
    ∃ f : Pins → Pins, exec c s = .next (s.mapPins f) ∧ (f s.pins).resetHeld = true := by
  cases c with
  | powerOnReset p => exact absurd rfl (hc p)
  | resetnAsserted => exact ⟨fun p => { p with resetHeld := true }, rfl, rfl⟩
  | stopAsserted => exact ⟨_, congrArg Host.Outcome.next (driveStop_held h), h⟩
  | stopReleased => exact ⟨_, congrArg Host.Outcome.next (undriveStop_held h), h⟩
  | speedWindowClose apart =>
    exact ⟨id, act_held h fun t => beltSpeedUpdate apart (closeSpeedWindow (settleBeltStall t)), h⟩
  | _ => exact ⟨id, act_held h _, h⟩

end

/-- Settles O6: a held part changes its pins alone. -/
theorem heldPartStandsStill : Obligations.HeldPartStandsStill := by
  refine fun s => ⟨rfl, fun hr => ⟨advancePermit_held hr, fun c hc => ?_⟩⟩
  obtain ⟨f, run, held⟩ := exec_held hr c hc
  exact ⟨_, run, rfl, held⟩

/-! ### The expiries of the two timers (R168, R176, R177) -/

/-- R177: LINK_SILENCE raised and the silence timer started again. -/
def silenced (s : State) : State := restartSilence (raise .linkSilence s)

theorem silenced_eq (s : State) : silenced s =
    let x := raise .linkSilence s
    { x with csc := { x.csc with silenceLeft := 16 * 2 ^ s.cfg.link.silence, overtaken := .no } } := by
  unfold silenced restartSilence silencePeriod
  rw [raise_cfg]
  rfl

@[simp] theorem silenced_state (s : State) : (silenced s).csc.state = s.csc.state := by
  simp [silenced, restartSilence]

theorem expireStateTimer_stopped {s : State} (h : s.csc.stateTimer = none) : expireStateTimer s = s := by
  simp only [expireStateTimer, h]

theorem expireStateTimer_running {s : State} {n : Nat} (h : s.csc.stateTimer = some n) :
    expireStateTimer s = if n ≤ 1 then raise .stateTimeout (enterHold .holdSoft .timeout s) else s := by
  simp only [expireStateTimer, h, expiryDue, decide_eq_true_eq]

/-- R176, R188: when an expiry of the silence timer acts (log 19, log 38). -/
theorem silenceDue_iff (c : Csc) :
    c.silenceDue = true ↔ c.silenceLeft ≤ 1 ∨ (c.state = .ready ∧ c.overtaken = .byJog) := by
  simp [Csc.silenceDue, expiryDue]

theorem expireSilence_due {s : State} (h : s.csc.silenceLeft ≤ 1 ∨ (s.csc.state = .ready ∧ s.csc.overtaken = .byJog)) :
    expireSilence s = escalateSilence s := if_pos ((silenceDue_iff _).2 h)

theorem expireSilence_undue {s : State}
    (h : ¬(s.csc.silenceLeft ≤ 1 ∨ (s.csc.state = .ready ∧ s.csc.overtaken = .byJog))) :
    expireSilence s = s := if_neg (mt (silenceDue_iff _).1 h)

/-! What a silence expiry does in each cut state (R177). -/

section
variable {s : State}

theorem escalateSilence_working (h : s.csc.state = .engaging ∨ s.csc.state = .cutting ∨ s.csc.state = .lifting) :
    escalateSilence s = enterHold .holdSoft .silence (silenced s) := by
  unfold escalateSilence
  dsimp only
  rcases h with h | h | h <;> rw [← silenced, silenced_state, h]

theorem escalateSilence_held (h : s.csc.state = .holdSoft) :
    escalateSilence s = enterHold .holdHard .silenceEscalated (silenced s) := by
  unfold escalateSilence
  dsimp only
  rw [← silenced, silenced_state, h]

theorem escalateSilence_ready (h : s.csc.state = .ready) : escalateSilence s = endJogs (silenced s) := by
  unfold escalateSilence
  dsimp only
  rw [← silenced, silenced_state, h]

theorem escalateSilence_neutral (h : s.csc.state = .config ∨ s.csc.state = .holdHard) :
    escalateSilence s = silenced s := by
  unfold escalateSilence
  dsimp only
  rcases h with h | h <;> rw [← silenced, silenced_state, h]

end

/-- Settles O29: each expiry by whether it is due and by the cut state. -/
theorem timerExpiriesHold : Obligations.TimerExpiriesHold := by
  intro s hs
  have timer : exec .stateTimerExpiry s = .next (arbitrate (expireStateTimer s)) := act_free _ hs
  have silence : exec .silenceTimerExpiry s = .next (arbitrate (expireSilence s)) := act_free _ hs
  dsimp only
  rw [timer, silence, ← silenced_eq]
  refine ⟨fun ht => ?_, fun n ht => ⟨fun hn => ?_, fun hn => ?_⟩, fun hl ho => ?_, fun hl hc => ?_, fun hl hc => ?_,
    fun hl hc => ?_, fun hl hc => ?_⟩
  · rw [expireStateTimer_stopped ht]
  · rw [expireStateTimer_running ht, if_neg (Nat.not_le.2 hn)]
  · rw [expireStateTimer_running ht, if_pos hn]
  · have undue : ¬(s.csc.silenceLeft ≤ 1 ∨ (s.csc.state = .ready ∧ s.csc.overtaken = .byJog)) := by
      rintro (short | ⟨ready, jog⟩)
      · exact Nat.not_le.2 hl short
      · exact ho.elim (· ready) (· jog)
    rw [expireSilence_undue undue]
  · rw [expireSilence_due (.inl hl), escalateSilence_working hc]
  · rw [expireSilence_due (.inl hl), escalateSilence_held hc]
  · rw [expireSilence_due (hl.imp_right fun jog => ⟨hc, jog⟩), escalateSilence_ready hc]
    simp only [endJogs, State.mapVos, silenced_eq, raise_vos]
    rfl
  · rw [expireSilence_due (.inl hl), escalateSilence_neutral hc]

/-! ### The STOP line (R173, R174) -/

/-- The STOP line at a level, with its condition. -/
def stopAt (b : Bool) (s : State) : State := setCond .stopActive b { s with pins := { s.pins with stop := b } }

@[simp] theorem stopAt_csc (b : Bool) (s : State) : (stopAt b s).csc = s.csc := setCond_csc _ _ _

section
variable {s : State}

theorem assertStop_config (h : s.csc.state = .config) : assertStop s = stopAt true s := by
  unfold assertStop
  dsimp only
  rw [setCond_csc, State.mapPins_csc, h]
  rfl

theorem assertStop_held (h : s.csc.state = .holdHard) : assertStop s = recordHold .stop (stopAt true s) := by
  unfold assertStop
  dsimp only
  rw [setCond_csc, State.mapPins_csc, h]
  rfl

theorem assertStop_holds (hc : s.csc.state ≠ .config) (hh : s.csc.state ≠ .holdHard) :
    assertStop s = enterHold .holdHard .stop (stopAt true s) := by
  unfold assertStop
  dsimp only
  rw [setCond_csc, State.mapPins_csc]
  split
  case h_6 h => exact absurd h hh
  case h_7 h => exact absurd h hc
  all_goals rfl

end

/-- Settles O30: the edge of the line, and the hold by the cut state. -/
theorem stopHoldsThePart : Obligations.StopHoldsThePart := by
  intro s hs
  have free : ¬s.pins.resetHeld = true := by simp [hs]
  refine ⟨fun hstop => ⟨?_, ?_⟩, fun hstop => ?_⟩
  · exact congrArg Host.Outcome.next (if_pos hstop)
  · exact congrArg Host.Outcome.next ((if_neg (by simp [hstop])).trans (if_neg free))
  · have asserted : exec .stopAsserted s = .next (arbitrate (assertStop s)) :=
      congrArg Host.Outcome.next ((if_neg (by simp [hstop])).trans (if_neg free))
    rw [asserted]
    refine ⟨congrArg Host.Outcome.next (if_pos hstop), fun hc => ?_, fun hc => ?_, fun hc hh => ?_⟩
    · rw [assertStop_config hc]
      rfl
    · rw [assertStop_held hc, recordHold, State.mapCsc, stopAt_csc]
      rfl
    · rw [assertStop_holds hc hh]
      rfl

end Sys2Proof.Machine

namespace Sys2Proof.Machine

/-! ### The advance ceiling (R178 to R180) -/

/-- R178, R179: the term chosen of a list is no greater than any other, and the first that is no greater. -/
theorem leastTerm_first (rest : List (CeilingReason × Nat)) : ∀ best : CeilingReason × Nat,
    (∀ x ∈ best :: rest, (leastTerm best rest).2 ≤ x.2) ∧
      ∃ before after, best :: rest = before ++ leastTerm best rest :: after ∧
        ∀ x ∈ before, (leastTerm best rest).2 < x.2 := by
  induction rest with
  | nil => exact fun best => ⟨by simp [leastTerm], [], [], rfl, by simp⟩
  | cons t rest ih =>
    intro best
    unfold leastTerm
    by_cases less : t.2 < best.2
    · rw [if_pos less]
      obtain ⟨least, before, after, split, first⟩ := ih t
      have below := (least t (by simp)).trans_lt less
      exact ⟨List.forall_mem_cons.2 ⟨below.le, least⟩, best :: before, after, congrArg (best :: ·) split,
        List.forall_mem_cons.2 ⟨below, first⟩⟩
    · rw [if_neg less]
      obtain ⟨least, before, after, split, first⟩ := ih best
      obtain ⟨atBest, others⟩ := List.forall_mem_cons.1 least
      refine ⟨List.forall_mem_cons.2 ⟨atBest, List.forall_mem_cons.2 ⟨atBest.trans (Nat.not_lt.1 less), others⟩⟩, ?_⟩
      cases before with
      | nil =>
        obtain ⟨same, tail⟩ := List.cons.inj split
        exact ⟨[], t :: rest, by rw [← same]; rfl, by simp⟩
      | cons b before =>
        obtain ⟨rfl, tail⟩ := List.cons.inj split
        obtain ⟨atB, later⟩ := List.forall_mem_cons.1 first
        exact ⟨best :: t :: before, after, congrArg (fun l => best :: t :: l) tail,
          List.forall_mem_cons.2 ⟨atB, List.forall_mem_cons.2 ⟨atB.trans_le (Nat.not_lt.1 less), later⟩⟩⟩

/-- The ceiling is chosen from the six terms; the state term, which stands first, is the first choice. -/
theorem ceilingWithReason_eq (s : State) :
    ceilingWithReason s = leastTerm (.state, stateTerm s) (ceilingTerms s).tail := by
  unfold ceilingWithReason ceilingTerms
  rw [leastTerm, if_neg (Nat.lt_irrefl _)]
  rfl

theorem ceilingWithReason_pair (s : State) : ceilingWithReason s = (ceilingReason s, ceiling s) :=
  (Prod.mk.eta (p := ceilingWithReason s)).symm

theorem beltTerm_eq (b : Btq) (cap vmax : Nat) :
    beltTerm b cap vmax = if b.stalled = true ∨ cap ≤ intakeVolume b.segs ∨ b.mode = .stop then 0 else vmax := by
  simp [beltTerm, or_assoc]

/-- R135: the intake segment is full. -/
theorem intakeFull_iff {segs : List Segment} {cap : Nat} (hc : 0 < cap) :
    cap ≤ intakeVolume segs ↔ ∃ g rest, segs = g :: rest ∧ cap ≤ g.vol := by
  cases segs with
  | nil => simp [intakeVolume, Nat.not_le.2 hc]
  | cons g rest => simp [intakeVolume]

theorem isLoading_iff (t : Option Truck) : isLoading t = true ↔ ∃ x, t = some x ∧ x.state = .loading := by
  cases t <;> simp [isLoading]

/-- R156: the truck term by whether a truck loads or waits. -/
theorem truckTerm_cases (t : Tlu) (vmax : Nat) :
    (isLoading t.current = true ∨ t.next ≠ none → truckTerm t vmax = vmax) ∧
      (isLoading t.current = false → t.next = none → truckTerm t vmax = 0) := by
  refine ⟨fun serves => if_neg ?_, fun absent next => if_pos ?_⟩
  · rintro closed
    rw [Bool.and_eq_true, Bool.not_eq_true', Option.isNone_iff_eq_none] at closed
    exact serves.elim (fun loading => Bool.false_ne_true (closed.1.symm.trans loading)) fun next => next closed.2
  · rw [absent, next]
    rfl

/-- R115: the load term by whether the load is usable. -/
theorem loadTerm_eq (d : Dlm) (l : LimitsRec) : loadTerm d l =
    if d.usable = false then l.vminAdv
    else if l.lh ≤ d.load then 0
    else if d.load ≤ l.ls then l.vmax
    else ((l.vminAdv : Int)
      + ((l.vmax : Int) - (l.vminAdv : Int)) * ((l.lh : Int) - (d.load : Int))
        / ((l.lh : Int) - (l.ls : Int))).toNat := by
  unfold loadTerm
  cases d.usable <;> rfl

theorem advancePermit_iff (s : State) : advancePermit s = true ↔ s.pins.resetHeld = false ∧ 0 < ceiling s := by
  simp [advancePermit]

/-- Settles O32: the belt and truck terms by their conditions, and the ceiling as the first of the least terms. -/
theorem ceilingIsLeastTerm : Obligations.CeilingIsLeastTerm := by
  intro s
  obtain ⟨least, before, after, split, first⟩ := leastTerm_first (ceilingTerms s).tail (.state, stateTerm s)
  rw [← ceilingWithReason_eq, ceilingWithReason_pair] at least split first
  have terms : (.state, stateTerm s) :: (ceilingTerms s).tail =
      [(.state, if s.csc.state = .cutting then s.cfg.limits.vmax else 0), (.load, loadTerm s.dlm s.cfg.limits),
       (.depth, if s.dlu.left.far = true ∨ s.dlu.right.far = true then s.cfg.limits.creep else s.cfg.limits.vmax),
       (.belt, beltTerm s.btq s.cfg.belt.cap s.cfg.limits.vmax), (.truck, truckTerm s.tlu s.cfg.limits.vmax),
       (.supply, if s.vos.low then s.cfg.limits.creep else s.cfg.limits.vmax)] := by
    simp only [ceilingTerms, List.tail_cons, stateTerm, depthTerm, supplyTerm, Bool.or_eq_true]
  have truck := truckTerm_cases s.tlu s.cfg.limits.vmax
  rw [terms, loadTerm_eq] at least split
  rw [isLoading_iff, ← Bool.not_eq_true, isLoading_iff] at truck
  refine ⟨beltTerm s.btq s.cfg.belt.cap s.cfg.limits.vmax, truckTerm s.tlu s.cfg.limits.vmax, fun stands => ?_,
    fun moving notFull running hc => ?_, truck.1, truck.2, least, ⟨before, after, split, first⟩,
    advancePermit_iff s⟩
  · rw [beltTerm_eq]
    refine if_pos (stands.imp_right (Or.imp_left ?_))
    rintro ⟨g, rest, segs, full⟩
    rwa [segs]
  · rw [beltTerm_eq, if_neg]
    rintro (stalled | full | stop)
    · exact Bool.false_ne_true (moving.symm.trans stalled)
    · exact notFull ((intakeFull_iff hc).1 full)
    · exact running stop

/-! ### COMMISSION and DECOMMISSION (R162, R163) -/

/-- A check of COMMISSION as the rule words it: the codes of its section and item, and what must hold. -/
abbrev Item := Byte × Byte × Prop

/-- A check of the model stands for an item. -/
def StandsFor (c : Nat × Nat × Bool) (x : Item) : Prop :=
  BitVec.ofNat 8 c.1 = x.1 ∧ BitVec.ofNat 8 c.2.1 = x.2.1 ∧ (c.2.2 = true ↔ x.2.2)

section
variable {cs : List (Nat × Nat × Bool)} {items : List Item} (h : List.Forall₂ StandsFor cs items)
include h

theorem firstFailing_none (all : ∀ x ∈ items, x.2.2) : firstFailing cs = none := by
  induction h with
  | nil => rfl
  | cons head _ ih =>
    obtain ⟨holds, rest⟩ := List.forall_mem_cons.1 all
    obtain ⟨-, -, iff⟩ := head
    rw [firstFailing, if_pos (iff.2 holds), ih rest]

/-- The first check that fails answers with the codes of the first item that does not hold. -/
theorem firstFailing_first {before after : List Item} {x : Item} (hx : items = before ++ x :: after) (fails : ¬x.2.2)
    (earlier : ∀ y ∈ before, y.2.2) :
    ∃ f, firstFailing cs = some f ∧ BitVec.ofNat 8 f.1 = x.1 ∧ BitVec.ofNat 8 f.2 = x.2.1 := by
  induction h generalizing before with
  | nil => simp at hx
  | @cons c y _ _ head _ ih =>
    obtain ⟨sec, item, iff⟩ := head
    cases before with
    | nil =>
      obtain ⟨rfl, -⟩ := List.cons.inj hx
      exact ⟨_, by rw [firstFailing, if_neg (mt iff.1 fails)], sec, item⟩
    | cons z before =>
      obtain ⟨rfl, tail⟩ := List.cons.inj hx
      obtain ⟨holds, rest⟩ := List.forall_mem_cons.1 earlier
      rw [firstFailing, if_pos (iff.2 holds)]
      exact ih tail rest

end

/-- How many channels have a record of a sort. -/
def recordCount (s : State) (p : SensorRec → Bool) : Nat :=
  (Chan.all.filter fun i => p (s.sfe.chans.get i).cfg).length

/-- R162: the nine items of COMMISSION in order. -/
def commissionItems (s : State) : List Item :=
  let c := s.cfg
  let heights (i : Side) : Nat := recordCount s fun r => decide (r.role = .height ∧ r.side = i)
  let slope : Prop := c.side.right.mode = .slope
  [(2#8, 1#8, c.side.left.minMembers ≤ heights .left),
   (2#8, 2#8, slope ∨ c.side.right.minMembers ≤ heights .right),
   (1#8, 3#8, slope → recordCount s (fun r => decide (r.role = .slope)) = 1),
   (1#8, 4#8, recordCount s (fun r => decide (r.role = .pressure)) = 1),
   (6#8, 5#8, c.limits.ls < c.limits.lh),
   (6#8, 6#8, c.limits.vminAdv ≤ c.limits.vmax ∧ c.limits.creep ≤ c.limits.vmax),
   (5#8, 7#8, c.belt.length % 32 = 0),
   (5#8, 8#8, c.belt.vmin ≤ c.belt.vmax ∧ c.belt.vmax ≤ c.belt.vfull),
   (6#8, 9#8, c.limits.hardOff < c.limits.hardOn)]

theorem heightSet_length (s : State) (i : Side) :
    (heightSet s.sfe.chans i).length = recordCount s fun r => decide (r.role = .height ∧ r.side = i) := by
  simp only [heightSet, channelsWith, recordCount, beq_eq_decide, Bool.decide_and]

theorem roleCount_eq (r : Role) (s : State) : roleCount r s = recordCount s fun c => decide (c.role = r) := by
  simp only [roleCount, channelsWith, recordCount, beq_eq_decide]

theorem commissionChecks_items (s : State) : List.Forall₂ StandsFor (commissionChecks s) (commissionItems s) := by
  unfold commissionChecks commissionItems
  simp only [heightSet_length, roleCount_eq, List.forall₂_cons, List.forall₂_nil_right_iff, and_true]
  refine ⟨?_, ?_, ?_, ?_, ?_, ?_, ?_, ?_, ?_⟩
  case refine_3 => exact ⟨rfl, rfl, by simp [imp_iff_not_or]⟩
  all_goals exact ⟨rfl, rfl, by simp⟩

section
variable {s : State}

theorem commission_mode (h : s.csc.state ≠ .config) : commission s = (s, replyMode) := if_pos h

theorem commission_incomplete {f : Nat × Nat} (h : s.csc.state = .config)
    (hf : firstFailing (commissionChecks s) = some f) : commission s = (s, replyIncomplete f.1 f.2) := by
  rw [commission, if_neg (not_not.2 h), hf]

theorem commission_taken (h : s.csc.state = .config) (hf : firstFailing (commissionChecks s) = none) :
    commission s = ((changeState .ready s).mapCsc fun c => { c with commissioned := true }, replyOk []) := by
  rw [commission, if_neg (not_not.2 h), hf]

theorem decommission_mode (h : s.csc.state ≠ .ready) : decommission s = (s, replyMode) := if_pos h

theorem decommission_taken (h : s.csc.state = .ready) :
    decommission s = ((changeState .config s).mapCsc fun c => { c with commissioned := false }, replyOk []) :=
  if_neg (not_not.2 h)

end

/-- Settles O51: the checks stand for the nine items, and the first that fails is answered. -/
theorem commissionAndDecommission : Obligations.CommissionAndDecommission := by
  intro tag s hfree
  have run := takeRequest_good (k := .commission) (tag := tag) (payload := []) rfl rfl hfree.1 (.inl hfree.2)
  have undo := takeRequest_good (k := .decommission) (tag := tag) (payload := []) rfl rfl hfree.1 (.inl hfree.2)
  have items : List.Forall₂ StandsFor (commissionChecks (heard s)) (commissionItems s) :=
    commissionChecks_items (heard s)
  refine ⟨fun hc => ?_, fun hc => ⟨fun before after x hx fails earlier => ?_, fun all => ?_⟩, fun hc => ?_,
    fun hc => ?_⟩
  · rw [commission_mode (s := heard s) hc] at run
    exact run
  · obtain ⟨f, hf, sec, item⟩ := firstFailing_first items hx fails earlier
    rw [commission_incomplete (s := heard s) hc hf, replyIncomplete, sec, item] at run
    exact run
  · rw [commission_taken (s := heard s) hc (firstFailing_none items all)] at run
    exact run
  · rw [decommission_mode (s := heard s) hc] at undo
    exact undo
  · rw [decommission_taken (s := heard s) hc] at undo
    exact undo

/-! ### ENGAGE, LIFT, HOLD and RESUME (R164, R166, R169, R170) -/

/-- R45: a side has no reference. -/
def SideLost (s : State) : Prop := s.sru.sides.left.ref = .lost ∨ s.sru.sides.right.ref = .lost

theorem anyLost_iff (s : State) : anyLost s = true ↔ SideLost s := by simp [anyLost, SideLost]

section
variable {s : State}

theorem engage_mode (h : s.csc.state ≠ .ready) : engage s = (s, replyMode) := if_pos h

theorem engage_busy (h : s.csc.state = .ready) (hk : s.sfe.capture ≠ none) : engage s = (s, replyBusy) := by
  rw [engage, if_neg (not_not.2 h), if_pos (Option.isSome_iff_ne_none.2 hk)]

theorem engage_prerequisite (h : s.csc.state = .ready) (hk : s.sfe.capture = none)
    (hp : SideLost s ∨ s.pcu.drumSpeed < s.cfg.drumMin ∨ s.pt.list = []) : engage s = (s, replyPrerequisite) := by
  rw [engage, if_neg (not_not.2 h), if_neg (by simp [hk]), if_pos]
  exact hp.imp (anyLost_iff s).2 (Or.imp_right .inl)

theorem engage_taken (h : s.csc.state = .ready) (hk : s.sfe.capture = none) (hl : ¬SideLost s)
    (hd : ¬s.pcu.drumSpeed < s.cfg.drumMin) (hp : s.pt.list ≠ []) (hs : s.pins.stop = false) :
    engage s = (changeState .engaging s, replyOk []) := by
  rw [engage, if_neg (not_not.2 h), if_neg (by simp [hk]), if_neg]
  rw [anyLost_iff]
  simp [hl, hd, hp, hs]

theorem lift_lifts (h : s.csc.state = .engaging ∨ s.csc.state = .cutting ∨ s.csc.state = .holdSoft) :
    lift s = (changeState .lifting s, replyOk []) := by
  unfold lift
  rcases h with h | h | h <;> rw [h]

theorem lift_lifting (h : s.csc.state = .lifting) : lift s = (s, replyOk []) := by
  unfold lift
  rw [h]

theorem lift_mode (h : s.csc.state = .config ∨ s.csc.state = .ready ∨ s.csc.state = .holdHard) :
    lift s = (s, replyMode) := by
  unfold lift
  rcases h with h | h | h <;> rw [h]

theorem holdSoft_holds (h : s.csc.state = .engaging ∨ s.csc.state = .cutting ∨ s.csc.state = .lifting) :
    holdSoft s = (enterHold .holdSoft .request s, replyOk []) := by
  unfold holdSoft
  rcases h with h | h | h <;> rw [h]

theorem holdSoft_held (h : s.csc.state = .holdSoft) : holdSoft s = (s, replyOk []) := by
  unfold holdSoft
  rw [h]

theorem holdSoft_mode (h : s.csc.state = .config ∨ s.csc.state = .ready ∨ s.csc.state = .holdHard) :
    holdSoft s = (s, replyMode) := by
  unfold holdSoft
  rcases h with h | h | h <;> rw [h]

theorem holdHard_holds (hc : s.csc.state ≠ .config) (hh : s.csc.state ≠ .holdHard) :
    holdHard s = (enterHold .holdHard .request s, replyOk []) := by
  unfold holdHard
  split
  case h_6 h => exact absurd h hc
  case h_7 h => exact absurd h hh
  all_goals rfl

theorem holdHard_mode (h : s.csc.state = .config ∨ s.csc.state = .holdHard) : holdHard s = (s, replyMode) := by
  unfold holdHard
  rcases h with h | h <;> rw [h]

theorem resume_mode (hs : s.csc.state ≠ .holdSoft) (hh : s.csc.state ≠ .holdHard) : resume s = (s, replyMode) := by
  unfold resume
  split
  case h_1 h => exact absurd h hs
  case h_2 h => exact absurd h hh
  all_goals rfl

theorem resumeSoft_prerequisite (h : s.csc.state = .holdSoft) (hp : SideLost s ∨ s.pcu.drumSpeed < s.cfg.drumMin) :
    resume s = (s, replyPrerequisite) := by
  unfold resume
  rw [h]
  exact if_pos (hp.imp (anyLost_iff s).2 .inl)

theorem resumeSoft_taken (h : s.csc.state = .holdSoft) (hl : ¬SideLost s) (hd : ¬s.pcu.drumSpeed < s.cfg.drumMin)
    (hs : s.pins.stop = false) : resume s = (changeState .engaging s, replyOk []) := by
  unfold resume
  rw [h]
  refine if_neg ?_
  rw [anyLost_iff]
  simp [hl, hd, hs]

theorem resumeHard_prerequisite (h : s.csc.state = .holdHard) (hv : s.vos.supply < 160) :
    resume s = (s, replyPrerequisite) := by
  unfold resume
  rw [h]
  exact if_pos (.inr hv)

theorem resumeHard_taken (h : s.csc.state = .holdHard) (hv : 160 ≤ s.vos.supply) (hs : s.pins.stop = false) :
    resume s = (changeState .ready s, replyOk []) := by
  unfold resume
  rw [h]
  refine if_neg ?_
  rintro (stop | low)
  · exact Bool.false_ne_true (hs.symm.trans stop)
  · exact Nat.not_lt.2 hv low

end

/-- Settles O54: each request by the cut state that the good telegram finds, which is the one before it. -/
theorem cutStateRequests : Obligations.CutStateRequests := by
  intro tag s hfree
  have stop : (heard s).pins.stop = false := hfree.2
  have runs {k : ReqKind} {payload : List Byte} {n : Nat} {f : State → State × Reply}
      (hk : kindForm k payload = Request.ofLength n payload false f) (hn : payload.length = n) {w : State} {r : Reply}
      (hf : f (heard s) = (w, r)) : act (takeRequest k tag payload) s = .next (answered k.code tag r w) := by
    rw [takeRequest_good hk hn hfree.1 (.inl hfree.2), hf]
  have engaged {w : State} {r : Reply} := runs (k := .engage) (payload := []) (w := w) (r := r) rfl rfl
  have lifted {w : State} {r : Reply} := runs (k := .lift) (payload := []) (w := w) (r := r) rfl rfl
  have soft {w : State} {r : Reply} := runs (k := .hold) (payload := [0x00#8]) (w := w) (r := r) rfl rfl
  have hard {w : State} {r : Reply} := runs (k := .hold) (payload := [0x01#8]) (w := w) (r := r) rfl rfl
  have resumed {w : State} {r : Reply} := runs (k := .resume) (payload := []) (w := w) (r := r) rfl rfl
  exact ⟨fun h => engaged (engage_mode h), fun h hk => engaged (engage_busy h hk),
    fun h hk hp => engaged (engage_prerequisite h hk hp),
    fun h hk hl hd hp => engaged (engage_taken h hk hl hd hp stop),
    fun h => lifted (lift_lifts h), fun h => lifted (lift_lifting h),
    fun h => ⟨lifted (lift_mode h), soft (holdSoft_mode h)⟩,
    fun h => soft (holdSoft_holds h), fun h => soft (holdSoft_held h),
    fun hc hh => hard (holdHard_holds hc hh), fun h => hard (holdHard_mode h),
    fun hs hh => resumed (resume_mode hs hh), fun h hp => resumed (resumeSoft_prerequisite h hp),
    fun h hl hd => resumed (resumeSoft_taken h hl hd stop), fun h hv => resumed (resumeHard_prerequisite h hv),
    fun h hv => resumed (resumeHard_taken h hv stop)⟩

end Sys2Proof.Machine

namespace Sys2Proof.Machine

/-! ### A change of the cut state in every block (R160, R161) -/

theorem turned_btq (new : CutState) (s : State) :
    (turned new s).btq = if new.neutral then { s.btq with drive := 0 } else s.btq := by
  unfold turned btqChange
  split <;> rfl

/-- Of the VOS a change of the cut state touches the leg outputs and the held belt command (R140, R185). -/
theorem turned_vos (new : CutState) (s : State) :
    (turned new s).vos = { s.vos with
      legs := s.vos.legs.map (Leg.changeState s.csc.state new)
      beltHeld := if new.neutral then 0 else s.vos.beltHeld } := by
  unfold turned btqChange
  split <;> rfl

@[simp] theorem changeState_btq (new : CutState) (s : State) :
    (changeState new s).btq = if new.neutral then { s.btq with drive := 0 } else s.btq := by
  rw [changeState_eq, highChange_btq, sfeChange_btq, turned_btq]

theorem changeState_vos (new : CutState) (s : State) :
    (changeState new s).vos = { s.vos with
      legs := s.vos.legs.map (Leg.changeState s.csc.state new)
      beltHeld := if new.neutral then 0 else s.vos.beltHeld } := by
  rw [changeState_eq, highChange_vos, sfeChange_vos, turned_vos]

theorem changeState_csc (new : CutState) (s : State) :
    (changeState new s).csc = { s.csc with
      state := new
      stateTimer := if new.timed then some (1000 * s.cfg.plan.timeLimit) else none } := by
  rw [changeState_eq, highChange_csc, sfeChange_csc, turned_csc]

/-! #### The capture and the substitutes (R18, R21) -/

theorem failCapture_none {s : State} (hk : s.sfe.capture = none) : failCapture s = s := by
  simp only [failCapture, hk]

theorem failCapture_scanLeft (s : State) : (failCapture s).sfe.scanLeft = s.sfe.scanLeft := by
  unfold failCapture completeCapture
  cases hk : s.sfe.capture with
  | none => rfl
  | some k => by_cases due : 32 ≤ k.count <;> simp [due]

/-- A capture ends by raising ZERO_DONE or ZERO_FAILED, and no other source. -/
theorem failCapture_source {e : EventSrc} (done : e.id ≠ 5) (failed : e.id ≠ 6) (s : State) :
    SourceStands e s (failCapture s) := by
  have raises (f : EventSrc) (h : e.id ≠ f.id) (g : Sfe → Sfe) : SourceStands e s (raise f (s.mapSfe g)) :=
    (raise_source h _).after
  unfold failCapture completeCapture
  cases hk : s.sfe.capture with
  | none => exact .of_events rfl
  | some k =>
    by_cases due : 32 ≤ k.count
    · simpa only [due, if_true] using raises .zeroDone done _
    · simpa only [due, if_false] using raises .zeroFailed failed _

/-- A change ends a capture in flight where it leads away from READY. -/
def leaveReady (old : CutState) (s : State) : State := if old = .ready then failCapture s else s

theorem sfeChange_eq (old new : CutState) (s : State) : sfeChange old new s =
    if new = .config then removeSubstitutes (leaveReady old s) else leaveReady old s := rfl

@[simp] theorem sfeChange_li (old new : CutState) (s : State) : (sfeChange old new s).li = (leaveReady old s).li := by
  rw [sfeChange_eq]
  split <;> rfl

theorem sfeChange_capture (old new : CutState) (s : State) :
    (sfeChange old new s).sfe.capture = (leaveReady old s).sfe.capture := by
  rw [sfeChange_eq]
  split <;> rfl

theorem sfeChange_scanLeft (old new : CutState) (s : State) : (sfeChange old new s).sfe.scanLeft = s.sfe.scanLeft := by
  have left : (leaveReady old s).sfe.scanLeft = s.sfe.scanLeft := by
    unfold leaveReady
    split
    · exact failCapture_scanLeft s
    · rfl
  rw [sfeChange_eq]
  split <;> exact left

/-- R18: a channel at a change of the cut state. -/
theorem sfeChange_get (old new : CutState) (s : State) (i : Chan) :
    (sfeChange old new s).sfe.chans.get i =
      if new = .config then { (leaveReady old s).sfe.chans.get i with subst := none }
      else (leaveReady old s).sfe.chans.get i := by
  rw [sfeChange_eq]
  split
  · simp [removeSubstitutes]
  · rfl

/-! #### The re-base of h (R30) -/

theorem highChange_other {old new : CutState} (h : ¬(old = .ready ∧ new = .engaging)) (s : State) :
    highChange old new s = s := if_neg h

theorem highChange_source {e : EventSrc} (low : e.id < 7) (old new : CutState) (s : State) :
    SourceStands e s (highChange old new s) := by
  have judged : SourceStands e s (rebaseHigh s.pcu.station s) :=
    (((judgeWindows_source (by omega) (by omega) _).trans (judgePlanEnd_source (by omega) _)).trans
      (judgePlanLow_source (by omega) _)).after
  exact judged.ite (.of_events rfl)

/-- What leaves the four sources of the PT, the plan and the limits alone before a new h changes nothing of its
events. -/
theorem PlanEventsAt.from {h : Nat} {s u t : State} (k : PlanEventsAt h u t)
    (stands : ∀ e : EventSrc, 6 < e.id → SourceStands e s u) (pt : u.pt = s.pt) (cfg : u.cfg = s.cfg) :
    PlanEventsAt h s t := by
  unfold PlanEventsAt at k
  rwa [(stands _ (by decide)).waits, (stands _ (by decide)).waits, (stands _ (by decide)).waits,
    (stands .planLow (by decide)).enable, pt, cfg] at k

theorem leaveReady_source {e : EventSrc} (h : 6 < e.id) (old : CutState) (s : State) :
    SourceStands e s (leaveReady old s) :=
  (failCapture_source (by omega) (by omega) s).ite (.of_events rfl)

/-- R30, R70, R74: the entry into ENGAGING from READY takes h to the station, and settles the plan and the windows. -/
theorem rebaseHigh_plan {s u : State} (pt : u.pt = s.pt) (cfg : u.cfg = s.cfg)
    (stands : ∀ e : EventSrc, 6 < e.id → SourceStands e s u) (h : Nat) (ordered : PlanOrdered s.pt.list) :
    PlanSettledAt h s.pt (rebaseHigh h u).pt ∧ PlanEventsAt h s (rebaseHigh h u) := by
  rw [← pt] at ordered ⊢
  have events : PlanEventsAt h (u.mapPcu fun p => { p with high := h }) (rebaseHigh h u) :=
    highWaterChanged_events (s := u.mapPcu fun p => { p with high := h }) ordered
  exact ⟨highWaterChanged_settles (s := u.mapPcu fun p => { p with high := h }) ordered,
    events.from (fun e he => (stands e he).trans (.of_events rfl)) pt cfg⟩

/-! #### The clauses of a change -/

/-- The change into a state in which the loop law is stopped. -/
theorem stops_iff (new : CutState) :
    (new.neutral || new == .ready) = true ↔ (new = .config ∨ new = .holdHard) ∨ new = .ready := by
  rw [Bool.or_eq_true, neutral_iff, beq_iff_eq]

/-- A change of the cut state leaves the pins, the configuration, the SRU, the DLM, the trucks and the queue alone. -/
theorem changeState_frozen (new : CutState) (s : State) :
    changeState new s = { s with
      pcu := (changeState new s).pcu, sfe := (changeState new s).sfe, pt := (changeState new s).pt
      dlu := (changeState new s).dlu, btq := (changeState new s).btq, csc := (changeState new s).csc
      vos := (changeState new s).vos, li := (changeState new s).li } := by
  have pins := changeState_pins new s
  have cfg := changeState_cfg new s
  have sru := changeState_sru new s
  have dlm := changeState_dlm new s
  have tlu := changeState_tlu new s
  have waiting := changeState_pending new s
  generalize changeState new s = t at *
  cases t
  simp only [State.mk.injEq, true_and]
  exact ⟨pins, cfg, sru, dlm, tlu, waiting⟩

/-- R79, R85, R86, R90, R96: what a change does to a side of the DLU. -/
theorem Loop.changeState_clauses (old new : CutState) (maxDepth : Nat) (depth : Int) (l : Loop) :
    let toLoop : Prop := old = .ready ∧ new = .engaging
    let stops : Prop := (new = .config ∨ new = .holdHard) ∨ new = .ready
    let m := l.changeState old new maxDepth depth
    m = { l with acc := 0, settle := 0, sp := m.sp, integ := m.integ, u := m.u, drive := m.drive } ∧
    (toLoop → m.sp = max (-500) (min (maxDepth : Int) depth)) ∧ (¬toLoop → m.sp = l.sp) ∧
    (new = .engaging → m.integ = 0) ∧ (new ≠ .engaging → m.integ = l.integ) ∧
    (stops → m.u = 0 ∧ m.drive = 0) ∧ (¬stops → m.u = l.u ∧ m.drive = l.drive) := by
  refine ⟨rfl, fun loop => (if_pos loop).trans (limitSetpoint_eq _ _), fun other => if_neg other,
    fun engages => if_pos engages, fun stays => if_neg stays, fun stops => ?_, fun runs => ?_⟩
  · exact ⟨if_pos ((stops_iff new).2 stops), if_pos ((stops_iff new).2 stops)⟩
  · exact ⟨if_neg (mt (stops_iff new).1 runs), if_neg (mt (stops_iff new).1 runs)⟩

/-- R185: the owner of a leg output after a change. -/
theorem ownerAfter_clauses (old new : CutState) (o : Owner) :
    let toLoop : Prop := old = .ready ∧ new = .engaging
    let freed : Prop := new = .config ∨ new = .ready ∨ (old = .ready ∧ new = .holdHard)
    (freed → ownerAfter old new o = .none) ∧ (toLoop → ownerAfter old new o = .loop) ∧
    (¬(new = .config ∨ new = .ready ∨ (old = .ready ∧ new = .holdHard) ∨ toLoop) → ownerAfter old new o = o) := by
  by_cases ready : old = .ready <;> cases new <;> simp [ownerAfter, ready]

/-- R184, R185, R188: what a change does to a leg output. -/
theorem Leg.changeState_clauses (old new : CutState) (l : Leg) :
    let neutral : Prop := new = .config ∨ new = .holdHard
    let toLoop : Prop := old = .ready ∧ new = .engaging
    let m := l.changeState old new
    m.jogLeft = 0 ∧ (new = .config ∨ new = .ready ∨ (old = .ready ∧ new = .holdHard) → m.owner = .none) ∧
    (toLoop → m.owner = .loop) ∧
    (¬(new = .config ∨ new = .ready ∨ (old = .ready ∧ new = .holdHard) ∨ toLoop) → m.owner = l.owner) ∧
    (neutral ∨ new = .ready ∨ old = .ready → m.held = 0) ∧
    (¬(neutral ∨ new = .ready ∨ old = .ready) → m.held = l.held) := by
  obtain ⟨freed, loop, kept⟩ := ownerAfter_clauses old new l.owner
  have zeroed : (new.neutral || new == .ready || old == .ready) = true ↔
      (new = .config ∨ new = .holdHard) ∨ new = .ready ∨ old = .ready := by
    rw [Bool.or_eq_true, stops_iff, beq_iff_eq, or_assoc]
  exact ⟨rfl, freed, loop, kept, fun h => if_pos (zeroed.2 h), fun h => if_neg (mt zeroed.1 h)⟩

section
variable {new : CutState} {s : State}

/-- The part when the SFE has done its share of a change, before the re-base of h. -/
theorem changeState_sfe : (changeState new s).sfe = (sfeChange s.csc.state new (turned new s)).sfe := by
  rw [changeState_eq, highChange_sfe]

/-- R21: away from READY no capture stays in flight; elsewhere the capture stands. -/
theorem changeState_capture :
    (changeState new s).sfe.capture = if s.csc.state = .ready then none else s.sfe.capture := by
  rw [changeState_sfe, sfeChange_capture, leaveReady]
  split
  · exact failCapture_capture _
  · exact congrArg Sfe.capture (turned_sfe new s)

/-- A source that a change raises, if at all, in its share of the SFE. -/
theorem changeState_waits {e : EventSrc} (low : e.id < 7) :
    isPending e (changeState new s) = isPending e (leaveReady s.csc.state (turned new s)) := by
  rw [changeState_eq, (highChange_source low _ _ _).waits]
  exact congrArg (marked · e.id) (congrArg (·.events.pending) (sfeChange_li _ _ _))

/-- R18: a channel after a change, by the channel with which the capture left it. -/
theorem changeState_get (i : Chan) :
    (changeState new s).sfe.chans.get i =
      if new = .config then { (leaveReady s.csc.state (turned new s)).sfe.chans.get i with subst := none }
      else (leaveReady s.csc.state (turned new s)).sfe.chans.get i := by
  rw [changeState_sfe, sfeChange_get]

theorem leaveReady_ready (h : s.csc.state = .ready) (u : State) : leaveReady s.csc.state u = failCapture u := if_pos h

theorem leaveReady_other (h : s.csc.state ≠ .ready) (u : State) : leaveReady s.csc.state u = u := if_neg h

/-- R21: a capture that has not counted its last sample set fails at a change away from READY. -/
theorem changeState_failsCapture {k : Capture} (ready : s.csc.state = .ready) (hk : s.sfe.capture = some k)
    (young : k.count < 32) (on : marked s.li.events.enable 6 = true) :
    isPending .zeroFailed (changeState new s) = true := by
  have hk' : (turned new s).sfe.capture = some k := by rw [turned_sfe, hk]
  rw [changeState_waits (by decide), leaveReady_ready ready]
  exact (failCapture_fails hk' young).2.2 (by rwa [turned_li])

/-- R20, log 3: a capture that has counted its last sample set completes at a change away from READY. -/
theorem changeState_completesCapture {k : Capture} (ready : s.csc.state = .ready) (hk : s.sfe.capture = some k)
    (due : 32 ≤ k.count) :
    (marked s.li.events.enable 5 = true → isPending .zeroDone (changeState new s) = true) ∧
      ((k.sums.map Prod.fst).Nodup → ∀ i, (changeState new s).sfe.chans.get i =
        if new = .config then { (captured k s).sfe.chans.get i with subst := none }
        else (captured k s).sfe.chans.get i) := by
  have hk' : (turned new s).sfe.capture = some k := by rw [turned_sfe, hk]
  have ends : leaveReady s.csc.state (turned new s) = completeCapture (turned new s) :=
    (leaveReady_ready ready _).trans (failCapture_due hk' due)
  refine ⟨fun on => ?_, fun distinct i => ?_⟩
  · rw [changeState_waits (by decide), ends]
    simp only [completeCapture, hk', if_pos due]
    exact raise_pending_self (by rwa [State.mapSfe_li, turned_li])
  · have same : (captured k (turned new s)).sfe.chans = (captured k s).sfe.chans := by simp [captured]
    rw [changeState_get, ends, completeCapture_due hk' due distinct, same]

/-- R21: where no capture completes, a change writes no zero. -/
theorem changeState_keepsZeros (h : s.csc.state ≠ .ready ∨ ∀ k, s.sfe.capture = some k → k.count < 32) (i : Chan) :
    (changeState new s).sfe.chans.get i =
      if new = .config then { s.sfe.chans.get i with subst := none } else s.sfe.chans.get i := by
  have kept : (leaveReady s.csc.state (turned new s)).sfe.chans = s.sfe.chans := by
    by_cases ready : s.csc.state = .ready
    · have young := h.resolve_left (not_not.2 ready)
      rw [leaveReady_ready ready, (failCapture_stands _).chans (by rwa [StillCounts, turned_sfe]), turned_sfe]
    · rw [leaveReady_other ready, turned_sfe]
  rw [changeState_get, kept]

/-- A change raises nothing where it neither ends a capture nor takes h to the station. -/
theorem changeState_silent (other : ¬(s.csc.state = .ready ∧ new = .engaging))
    (idle : s.csc.state ≠ .ready ∨ s.sfe.capture = none) : (changeState new s).li = s.li := by
  have kept : leaveReady s.csc.state (turned new s) = turned new s := by
    by_cases ready : s.csc.state = .ready
    · rw [leaveReady_ready ready, failCapture_none]
      rw [turned_sfe]
      exact idle.resolve_left (not_not.2 ready)
    · exact leaveReady_other ready _
  rw [changeState_eq, highChange_other other, sfeChange_li, kept, turned_li]

/-- R35: elsewhere than at the entry into ENGAGING from READY the PCU clears its stall counter alone. -/
theorem changeState_station (other : ¬(s.csc.state = .ready ∧ new = .engaging)) :
    (changeState new s).pcu = { s.pcu with stall := 0 } ∧ (changeState new s).pt = s.pt := by
  rw [changeState_eq, highChange_other other, sfeChange_pcu, sfeChange_pt, turned_pcu, turned_pt]
  exact ⟨rfl, rfl⟩

/-- R30: at the entry into ENGAGING from READY h becomes the station, and the plan and the windows settle at it. -/
theorem changeState_rebases (toLoop : s.csc.state = .ready ∧ new = .engaging) :
    (changeState new s).pcu = { s.pcu with stall := 0, high := s.pcu.station } ∧
      (PlanOrdered s.pt.list → PlanSettledAt s.pcu.station s.pt (changeState new s).pt ∧
        PlanEventsAt s.pcu.station s (changeState new s)) := by
  let u := sfeChange s.csc.state new (turned new s)
  have pcu : u.pcu = { s.pcu with stall := 0 } := (sfeChange_pcu _ _ _).trans (turned_pcu new s)
  have rebase : changeState new s = rebaseHigh s.pcu.station u := by
    have station : u.pcu.station = s.pcu.station := by rw [pcu]
    rw [changeState_eq, highChange, if_pos toLoop, ← station]
  have stands (e : EventSrc) (high : 6 < e.id) : SourceStands e s u :=
    ((SourceStands.of_events (congrArg Li.events (turned_li new s))).trans (leaveReady_source high s.csc.state _)).trans
      (.of_events (congrArg Li.events (sfeChange_li _ _ _)))
  rw [rebase]
  refine ⟨?_, rebaseHigh_plan (by simp [u]) (by simp [u]) stands _⟩
  exact (highWaterChanged_pcu _).trans (congrArg (fun p : Pcu => { p with high := s.pcu.station }) pcu)

end

/-- Settles O28: what each block does at a change, block by block. -/
theorem cutStateChangeInEveryBlock : Obligations.CutStateChangeInEveryBlock := by
  intro new s
  dsimp only
  refine ⟨changeState_frozen new s, ?_, fun timed => ?_, fun untimed => ?_, changeState_rebases,
    changeState_station, fun i => ?_, fun neutral => ?_, fun moving => ?_, ?_, fun i => ?_, ?_, fun ready => ?_,
    fun away => ?_, fun k ready hk => ⟨changeState_failsCapture ready hk, changeState_completesCapture ready hk⟩,
    changeState_keepsZeros, changeState_silent, fun cause => rfl⟩
  · rw [changeState_csc]
  · rw [changeState_csc]
    exact if_pos (new.timed_iff.2 timed)
  · rw [changeState_csc]
    exact if_neg (mt new.timed_iff.1 untimed)
  · rw [changeState_dlu]
    exact Loop.changeState_clauses _ _ _ _ _
  · rw [changeState_btq, changeState_vos, if_pos ((neutral_iff new).2 neutral)]
    exact ⟨rfl, if_pos ((neutral_iff new).2 neutral)⟩
  · rw [changeState_btq, changeState_vos, if_neg (mt (neutral_iff new).1 moving)]
    exact ⟨rfl, if_neg (mt (neutral_iff new).1 moving)⟩
  · rw [changeState_vos]
  · rw [changeState_leg]
    exact Leg.changeState_clauses _ _ _
  · rw [changeState_sfe, sfeChange_scanLeft, turned_sfe]
  · rw [changeState_capture, if_pos ready]
  · rw [changeState_capture, if_neg away]

end Sys2Proof.Machine

namespace Sys2Proof.Machine

/-! ### The cut state over the shares of a sample set (R165, R167, R171) -/

/-- R171: the states that a reference loss takes to HOLD_SOFT. -/
def AtWork (c : CutState) : Prop := c = .engaging ∨ c = .cutting ∨ c = .lifting

theorem applyLoss_works {s : State} (h : AtWork s.csc.state) : applyLoss true s = enterHold .holdSoft .refLost s := by
  unfold applyLoss
  rw [if_pos rfl]
  rcases h with state | state | state <;> rw [state]

/-- A loss that finds no side newly LOST, or the part out of work, does nothing. -/
theorem applyLoss_calm {lost : Bool} {s : State} (h : lost = true → ¬AtWork s.csc.state) : applyLoss lost s = s := by
  cases lost with
  | false => rfl
  | true =>
    have idle := h rfl
    unfold applyLoss
    rw [if_pos rfl]
    cases state : s.csc.state
    case engaging => exact absurd (.inl state) idle
    case cutting => exact absurd (.inr (.inl state)) idle
    case lifting => exact absurd (.inr (.inr state)) idle
    all_goals rfl

theorem settleEngage_waits {s : State} (h : s.csc.state ≠ .engaging ∨ ¬bothSettled s = true) : settleEngage s = s :=
  if_neg fun due => h.elim (· due.1) (· due.2)

theorem settleLift_waits {s : State} (h : s.csc.state ≠ .lifting ∨ ¬bothSettled s = true) : settleLift s = s :=
  if_neg fun due => h.elim (· due.1) (· due.2)

theorem settleEngage_completes {s : State} (h : s.csc.state = .engaging) (both : bothSettled s = true) :
    settleEngage s = raise .engageDone (changeState .cutting s) := if_pos ⟨h, both⟩

theorem settleLift_completes {s : State} (h : s.csc.state = .lifting) (both : bothSettled s = true) :
    settleLift s = raise .liftDone (changeState .ready s) := if_pos ⟨h, both⟩

/-- No completion of engaging or lifting is to be carried out. -/
def NoneComplete (s : State) : Prop := ¬s.csc.state.timed = true ∨ ¬bothSettled s = true

theorem NoneComplete.engage {s : State} (h : NoneComplete s) : settleEngage s = s :=
  settleEngage_waits (h.imp_left fun untimed state => untimed (by rw [state]; rfl))

theorem NoneComplete.lift {s : State} (h : NoneComplete s) : settleLift s = s :=
  settleLift_waits (h.imp_left fun untimed state => untimed (by rw [state]; rfl))

theorem completionShare_waits {apart : Bool} {s : State} (h : apart = true ∨ NoneComplete s) :
    completionShare apart s = s := by
  unfold completionShare
  split
  · rfl
  · rename_i now
    have none := h.resolve_left now
    rw [none.engage, none.lift]

/-- R86: a change of the cut state clears both settle counters. -/
theorem changeState_settle (new : CutState) (s : State) (i : Side) : ((changeState new s).dlu.get i).settle = 0 := by
  rw [changeState_dlu]
  rfl

theorem enterHold_csc (new : CutState) (cause : HoldCause) (s : State) :
    (enterHold new cause s).csc = { s.csc with
      state := new
      stateTimer := if new.timed then some (1000 * s.cfg.plan.timeLimit) else none
      cause := some cause } := by
  unfold enterHold recordHold
  rw [raise_csc, State.mapCsc_csc, changeState_csc]

theorem enterHold_dlu (new : CutState) (cause : HoldCause) (s : State) :
    (enterHold new cause s).dlu = (changeState new s).dlu := by
  unfold enterHold recordHold
  rw [raise_dlu, State.mapCsc_dlu]

/-- R167: lifting completes in READY, R165: engaging in CUTTING, each by its own step. -/
theorem completionShare_engages {s : State} (h : s.csc.state = .engaging) (both : bothSettled s = true) :
    completionShare false s = raise .engageDone (changeState .cutting s) := by
  unfold completionShare
  rw [if_neg Bool.false_ne_true, settleEngage_completes h both]
  exact settleLift_waits (.inl (by rw [raise_csc, changeState_state]; decide))

theorem completionShare_lifts {s : State} (h : s.csc.state = .lifting) (both : bothSettled s = true) :
    completionShare false s = raise .liftDone (changeState .ready s) := by
  unfold completionShare
  rw [if_neg Bool.false_ne_true, settleEngage_waits (.inl (by rw [h]; decide)), settleLift_completes h both]

/-! #### What an event source gains -/

/-- An enabled source is pending in t. -/
def Raised (e : EventSrc) (s t : State) : Prop := marked s.li.events.enable e.id = true → isPending e t = true

theorem Raised.of_raise {e : EventSrc} {s u : State} (before : s.li.events.Grows u.li.events) :
    Raised e s (raise e u) := fun on => raise_pending_self (by rw [before.enable, on])

theorem Raised.later {e : EventSrc} {s t u : State} (h : Raised e s t) (after : t.li.events.Grows u.li.events) :
    Raised e s u := fun on => after.pending _ (by cases e <;> decide) (h on)

/-! #### Settle counters (R86 to R88) -/

/-- R87, R88: a side meets its settle condition. -/
theorem settled_iff (st : CutState) (plan : PlanRec) (r : SideRec) (target : Option Int) (ref : SideRef) (l : Loop) :
    settled st plan r target ref l = true ↔ ref.ref ≠ .lost ∧
      ((st = .engaging ∧ target = some l.sp ∧ ((l.sp - ref.depth).natAbs : Int) ≤ (r.engageTol : Int)) ∨
        (st = .lifting ∧ ref.depth ≤ (r.engageTol : Int) - (plan.clearance : Int))) := by
  cases st
  case engaging =>
    cases target with
    | none => simp [settled]
    | some t =>
      simp only [settled, Bool.and_eq_true, bne_iff_ne, beq_iff_eq, decide_eq_true_eq, Option.some.injEq, true_and,
        reduceCtorEq, false_and, or_false, Int.ofNat_le, and_assoc]
      refine and_congr_right fun _ => ⟨?_, ?_⟩
      · rintro ⟨rfl, near⟩
        exact ⟨rfl, near⟩
      · rintro ⟨rfl, near⟩
        exact ⟨rfl, near⟩
  case lifting =>
    simp only [settled, Bool.and_eq_true, bne_iff_ne, decide_eq_true_eq, true_and, reduceCtorEq, false_and, false_or]
    exact and_congr_right fun _ => by rw [neg_add_eq_sub]
  all_goals simp [settled]

section
variable (st : CutState) (plan : PlanRec) (r : SideRec) (m : Material) (target : Option Int) (ref : SideRef) (l : Loop)

theorem lawSide_settle (lost : Bool) : (lawSide r m lost l).settle = l.settle := by
  have law (g : Gains) (k : Loop) : (loopLaw g lost r.deadband k).settle = k.settle := by
    unfold loopLaw
    dsimp only
    split
    · rfl
    · split
      · rfl
      · split <;> rfl
  exact law _ _

/-- R86: the settle counter after a loop update, by the setpoint that the update leaves. -/
theorem loopSide_settle (runs : Bool) :
    (loopSide st plan r m target ref runs l).settle =
      if settled st plan r target ref (loopSide st plan r m target ref runs l) = true then min 10 (l.settle + 1)
      else 0 := by
  let a := judgeError r.farTol ref.depth (moveSetpoint st plan target (resetInteg ref.leftLost l))
  let b := if runs then lawSide r m (ref.ref == .lost) a else a
  have before : a.settle = l.settle := by
    have moved : (moveSetpoint st plan target (resetInteg ref.leftLost l)).settle = l.settle := by
      rw [moveSetpoint_frame, resetInteg_eq]
    exact moved
  have kept : b.settle = l.settle := by
    cases runs with
    | false => exact before
    | true => exact (lawSide_settle _ _ _ _).trans before
  have same : settled st plan r target ref (judgeSettle (settled st plan r target ref b) b) =
      settled st plan r target ref b := by
    rw [Bool.eq_iff_iff, settled_iff, settled_iff]
    exact Iff.rfl
  change (judgeSettle (settled st plan r target ref b) b).settle = if settled st plan r target ref
    (judgeSettle (settled st plan r target ref b) b) = true then min 10 (l.settle + 1) else 0
  rw [same, ← kept]
  rfl

end

/-! #### The supply monitor's cutoff (R175, R193) -/

/-- R193: the supply value brings the cutoff counter to 5. -/
def cutDue (s : State) : Bool := decide (s.vos.supply < 160) && decide (5 ≤ s.vos.cutoffCount + 1)

/-- What the monitor finds of the cutoff: none waits, and one that it hands finds the part left alone. -/
structure CutoffHarmless (apart : Bool) (s : State) : Prop where
  handed : s.csc.cutoffHanded = false
  spared : cutDue s = true → apart = true ∨ s.csc.state = .config ∨ s.csc.state = .holdHard

/-- The supply counters and the hand-over, before any of them acts. -/
def supplyCounted (s : State) : State := countCutoff (s.mapVos (Vos.countSupply s.cfg.lowLevel))

theorem monitorShare_eq (apart : Bool) (s : State) : monitorShare apart s =
    if apart then supplyCounted s else applyCutoff (settleLowClear (settleLowSet (supplyCounted s))) := rfl

theorem countSupply_count (level : Nat) (v : Vos) :
    (v.countSupply level).cutoffCount = v.cutoffCount ∧ (v.countSupply level).supply = v.supply := by
  unfold Vos.countSupply
  split <;> exact ⟨rfl, rfl⟩

theorem countCutoff_due {s : State} (h : cutDue s = true) :
    countCutoff s =
      (s.mapVos fun v => { v with cutoffCount := 0 }).mapCsc fun c => { c with cutoffHanded := true } := by
  simp only [cutDue, Bool.and_eq_true, decide_eq_true_eq] at h
  obtain ⟨low, five⟩ := h
  unfold countCutoff
  dsimp only
  rw [if_pos (show s.vos.supply < Config.cutoffLevel from low), if_pos five]

theorem countCutoff_undue {s : State} (h : cutDue s = false) :
    countCutoff s = s.mapVos fun v => { v with cutoffCount := if v.supply < 160 then v.cutoffCount + 1 else 0 } := by
  unfold countCutoff
  dsimp only
  rw [if_neg]
  · rfl
  · intro five
    have due : cutDue s = true := by
      simp only [cutDue, Bool.and_eq_true, decide_eq_true_eq]
      by_cases low : s.vos.supply < Config.cutoffLevel
      · rw [if_pos low] at five
        exact ⟨low, five⟩
      · rw [if_neg low] at five
        omega
    exact Bool.false_ne_true (h.symm.trans due)

theorem cutDue_counted (s : State) : cutDue (s.mapVos (Vos.countSupply s.cfg.lowLevel)) = cutDue s := by
  unfold cutDue
  rw [State.mapVos_vos, (countSupply_count _ _).1, (countSupply_count _ _).2]

theorem supplyCounted_csc (s : State) :
    (supplyCounted s).csc = { s.csc with cutoffHanded := s.csc.cutoffHanded || cutDue s } := by
  unfold supplyCounted
  cases due : cutDue s with
  | true =>
    rw [countCutoff_due (by rw [cutDue_counted, due]), Bool.or_true]
    rfl
  | false =>
    rw [countCutoff_undue (by rw [cutDue_counted, due]), Bool.or_false]
    rfl

/-- R175: a cutoff that finds CONFIG or HOLD_HARD is used up. -/
theorem applyCutoff_spares {s : State} (h : s.csc.state = .config ∨ s.csc.state = .holdHard) :
    applyCutoff s = s.mapCsc fun c => { c with cutoffHanded := false } := by
  unfold applyCutoff
  cases handed : s.csc.cutoffHanded with
  | false =>
    have same : { s.csc with cutoffHanded := false } = s.csc := by rw [← handed]
    rw [if_neg Bool.false_ne_true, State.mapCsc, same]
  | true =>
    rw [if_pos rfl]
    rcases h with state | state <;> simp only [State.mapCsc_csc, state]

/-- R175: a cutoff that finds another state enters HOLD_HARD. -/
theorem applyCutoff_cuts {s : State} (handed : s.csc.cutoffHanded = true) (config : s.csc.state ≠ .config)
    (hard : s.csc.state ≠ .holdHard) :
    applyCutoff s = enterHold .holdHard .supply (s.mapCsc fun c => { c with cutoffHanded := false }) := by
  unfold applyCutoff
  rw [if_pos handed]
  cases state : s.csc.state
  case config => exact absurd state config
  case holdHard => exact absurd state hard
  all_goals simp only [State.mapCsc_csc, state]

theorem monitored_csc (s : State) : (settleLowClear (settleLowSet (supplyCounted s))).csc = (supplyCounted s).csc := by
  rw [settleLowClear_csc, settleLowSet_csc]

theorem monitored_dlu (s : State) : (settleLowClear (settleLowSet (supplyCounted s))).dlu = s.dlu := by
  rw [settleLowClear_dlu, settleLowSet_dlu, supplyCounted, countCutoff_dlu, State.mapVos_dlu]

/-- The monitor marks its hand-over where it leaves it due, and leaves the rest of the CSC and the loops alone. -/
theorem monitorShare_harmless {apart : Bool} {s : State} (h : CutoffHarmless apart s) :
    (monitorShare apart s).csc = { s.csc with cutoffHanded := apart && cutDue s } ∧
      (monitorShare apart s).dlu = s.dlu := by
  have counted : (supplyCounted s).csc = { s.csc with cutoffHanded := cutDue s } := by
    rw [supplyCounted_csc, h.handed, Bool.false_or]
  rw [monitorShare_eq]
  cases apart with
  | true =>
    rw [if_pos rfl, counted, Bool.true_and]
    exact ⟨rfl, by rw [supplyCounted, countCutoff_dlu, State.mapVos_dlu]⟩
  | false =>
    rw [if_neg Bool.false_ne_true, Bool.false_and]
    cases due : cutDue s with
    | true =>
      have spared := (h.spared due).resolve_left Bool.false_ne_true
      rw [applyCutoff_spares (by rwa [monitored_csc, counted])]
      exact ⟨by rw [State.mapCsc_csc, monitored_csc, counted], monitored_dlu s⟩
    | false =>
      rw [applyCutoff_unhanded (by rw [monitored_csc, counted, due]), monitored_csc, counted, due]
      exact ⟨rfl, monitored_dlu s⟩

end Sys2Proof.Machine

namespace Sys2Proof.Machine

/-! #### The shares of a sample set around the side readings -/

theorem entersLost_iff (before after : Sides SideRef) :
    entersLost before after = true ↔ ∃ i, (before.get i).ref ≠ .lost ∧ (after.get i).ref = .lost := by
  rw [entersLost, Bool.or_eq_true]
  simp only [Bool.and_eq_true, bne_iff_ne, beq_iff_eq]
  constructor
  · rintro (left | right)
    · exact ⟨.left, left⟩
    · exact ⟨.right, right⟩
  · rintro ⟨i, lost⟩
    cases i
    · exact .inl lost
    · exact .inr lost

/-- A step that leaves the CSC and the loops alone. -/
structure CutStands (s t : State) : Prop where
  csc : t.csc = s.csc := by simp
  dlu : t.dlu = s.dlu := by simp

theorem CutStands.rfl {s : State} : CutStands s s := {}

theorem CutStands.trans {s t u : State} (h : CutStands s t) (k : CutStands t u) : CutStands s u :=
  ⟨k.csc.trans h.csc, k.dlu.trans h.dlu⟩

theorem CutStands.of_stands {s t : State} (h : CutoffStands s t) (k : LoopsUntouched s t) : CutStands s t :=
  ⟨h.csc, k.dlu⟩

theorem NoneComplete.of_stands {s t : State} (h : NoneComplete s) (k : CutStands s t) : NoneComplete t := by
  unfold NoneComplete
  rwa [k.csc, bothSettled, k.dlu]

theorem CutStands.ite {s a b : State} {p : Prop} [Decidable p] (ha : p → CutStands s a) (hb : ¬p → CutStands s b) :
    CutStands s (if p then a else b) := by
  split
  · exact ha ‹_›
  · exact hb ‹_›

/-- What is due at a sample set, with no cutoff handed over and nothing complete. -/
theorem settleDue_waits {s : State} (handed : s.csc.cutoffHanded = false) (h : NoneComplete s) :
    CutStands s (settleDue s) := by
  have started : CutStands s (closeClassWindow (completeCapture s)) := {}
  have monitored (u : State) : CutStands u (settleLowClear (settleLowSet u)) := {}
  have before := started.trans (monitored _)
  unfold settleDue
  rw [applyCutoff_unhanded (by rw [before.csc, handed]), (h.of_stands before).engage, (h.of_stands before).lift]
  exact before

theorem failLost_cut (lost : List Chan) (s : State) : CutStands s (failLost lost s) :=
  .of_stands (failLost_cutoff lost s) (failLost_untouched lost s)

theorem captureStart_cut (scan : Scan) (o : SampleOrder) (s : State) :
    CutStands (settleDue s) (captureStart scan o s) := by
  have read : CutStands (settleDue s) (scanChannels scan (settleDue s)) := {}
  exact .ite (fun _ => read) fun _ => read.trans (failLost_cut _ _)

theorem captureEnd_cut (scan : Scan) (o : SampleOrder) (s : State) :
    CutStands (sideShare o (scanned scan o s)) (captureEnd scan o s) := by
  have counted : CutStands (sideShare o (scanned scan o s))
      (captureShare o.apart (sideShare o (scanned scan o s))) :=
    .of_stands (captureShare_cutoff _ _) (captureShare_untouched _ _)
  exact .ite (fun _ => counted.trans (failLost_cut _ _)) fun _ => counted

theorem captureStart_frame (scan : Scan) (o : SampleOrder) (s : State) :
    ShareFrame (scanChannels scan (settleDue s)) (captureStart scan o s) := .deferred _ .rfl (failLost_frame _)

theorem captureEnd_frame (scan : Scan) (o : SampleOrder) (s : State) :
    ShareFrame (sideShare o (scanned scan o s)) (captureEnd scan o s) :=
  .optional _ (captureShare_frame _ _) (failLost_frame _)

theorem scanned_frame (scan : Scan) (o : SampleOrder) (s : State) : SampleFrame s (scanned scan o s) :=
  ((settleDue_frame s).toSampleFrame.trans (scanChannels_frame scan _)).trans
    (ShareFrame.optional o.monitorFirst (captureStart_frame scan o s) (monitorShare_frame _)).toSampleFrame

/-- The shares after the side readings. -/
theorem sampleSet_frame_side (scan : Scan) (o : SampleOrder) (s : State) :
    ShareFrame (sideShare o (scanned scan o s)) (sampleSet scan o s) := by
  rw [sampleSet_eq_captureEnd]
  exact .deferred _ (captureEnd_frame scan o s) (monitorShare_frame _)

theorem captureStart_handover (scan : Scan) (o : SampleOrder) (s : State) :
    HandoverStands (scanChannels scan (settleDue s)) (captureStart scan o s) :=
  .ite (fun _ => .rfl) fun _ => (failLost_cutoff _ _).handover

/-- The monitor's count, when it comes before the side readings and when it comes after, is of the value of this
scan. -/
theorem cutDue_scan {scan : Scan} {s t : State} (handed : s.csc.cutoffHanded = false)
    (stands : HandoverStands (scanChannels scan (settleDue s)) t)
    (frame : ShareFrame (scanChannels scan (settleDue s)) t) :
    cutDue t = cutsOff scan s := by
  have count : t.vos.cutoffCount = s.vos.cutoffCount := by
    rw [stands.count, scanChannels_vos]
    exact (settleDue_handover handed).count
  have supply : t.vos.supply = scan.supply.toNat * 25 / 256 := by
    rw [frame.supply, scanChannels_vos]
    rfl
  rw [cutDue, count, supply, cutsOff]

theorem captureStart_cutDue {scan : Scan} {o : SampleOrder} {s : State} (handed : s.csc.cutoffHanded = false) :
    cutDue (captureStart scan o s) = cutsOff scan s :=
  cutDue_scan handed (captureStart_handover scan o s) (captureStart_frame scan o s)

theorem captureEnd_handover (scan : Scan) (o : SampleOrder) (s : State) :
    HandoverStands (scanned scan o s) (captureEnd scan o s) :=
  (sideShare_handover o _).trans (.ite
    (fun _ => (captureShare_cutoff _ _).handover.trans (failLost_cutoff _ _).handover)
    fun _ => (captureShare_cutoff _ _).handover)

theorem captureEnd_cutDue {scan : Scan} {o : SampleOrder} {s : State} (handed : s.csc.cutoffHanded = false)
    (later : o.monitorFirst = false) : cutDue (captureEnd scan o s) = cutsOff scan s := by
  have start : scanned scan o s = captureStart scan o s := by rw [scanned_eq, later, if_neg Bool.false_ne_true]
  have side := (sideShare_frame o (scanned scan o s)).trans (captureEnd_frame scan o s)
  have stands := captureEnd_handover scan o s
  rw [start] at side stands
  exact cutDue_scan handed ((captureStart_handover scan o s).trans stands) ((captureStart_frame scan o s).trans side)

section
variable {scan : Scan} {o : SampleOrder} {s : State} (hn : NoCutoff scan o s) (hw : NoneComplete s)
include hn hw

theorem captureStart_waits : CutStands s (captureStart scan o s) :=
  (settleDue_waits hn.1 hw).trans (captureStart_cut scan o s)

theorem captureStart_harmless : CutoffHarmless o.apart (captureStart scan o s) :=
  ⟨by rw [(captureStart_waits hn hw).csc, hn.1], by
    rw [captureStart_cutDue hn.1, (captureStart_waits hn hw).csc]
    exact hn.2⟩

/-- The side readings find the cut state and the loops of before, and the hand-over of a monitor that came first. -/
theorem scanned_waits :
    (scanned scan o s).csc = { s.csc with cutoffHanded := o.monitorFirst && (o.apart && cutsOff scan s) } ∧
      (scanned scan o s).dlu = s.dlu := by
  have start := captureStart_waits hn hw
  rw [scanned_eq]
  cases o.monitorFirst with
  | true =>
    obtain ⟨csc, dlu⟩ := monitorShare_harmless (captureStart_harmless hn hw)
    rw [if_pos rfl, csc, dlu, start.csc, start.dlu, captureStart_cutDue hn.1]
    exact ⟨rfl, rfl⟩
  | false =>
    rw [if_neg Bool.false_ne_true, start.csc, start.dlu]
    exact ⟨by rw [Bool.false_and, ← hn.1], rfl⟩

/-- What the side readings do to the CSC is what the sample set does to it, beside the monitor's hand-over. -/
theorem sampleSet_turns {turn : Csc → Csc}
    (marks : ∀ c b, turn { c with cutoffHanded := b } = { turn c with cutoffHanded := b })
    (spares : s.csc.state = .config ∨ s.csc.state = .holdHard → turn s.csc = s.csc)
    (share : (sideShare o (scanned scan o s)).csc = turn (scanned scan o s).csc) :
    (sampleSet scan o s).csc = { turn s.csc with cutoffHanded := o.apart && cutsOff scan s } ∧
      (sampleSet scan o s).dlu = (sideShare o (scanned scan o s)).dlu := by
  obtain ⟨before, -⟩ := scanned_waits hn hw
  have ended := captureEnd_cut scan o s
  have csc := ended.csc.trans share
  rw [before, marks] at csc
  rw [sampleSet_eq_captureEnd]
  cases first : o.monitorFirst with
  | true =>
    rw [if_pos rfl, csc, first, Bool.true_and]
    exact ⟨rfl, ended.dlu⟩
  | false =>
    rw [first, Bool.false_and] at csc
    have harmless : CutoffHarmless o.apart (captureEnd scan o s) := by
      refine ⟨by rw [csc], fun due => (hn.2 (by rwa [captureEnd_cutDue hn.1 first] at due)).imp_right fun spared => ?_⟩
      rw [csc, spares spared]
      exact spared
    obtain ⟨monitored, dlu⟩ := monitorShare_harmless harmless
    rw [if_neg Bool.false_ne_true, monitored, csc, captureEnd_cutDue hn.1 first]
    exact ⟨rfl, dlu.trans ended.dlu⟩

end

end Sys2Proof.Machine

namespace Sys2Proof.Machine

/-! #### The side readings: a loss, a completion, or the loop updates alone -/

/-- Whether the side readings of s find a side newly LOST (R45). -/
def losesSide (s : State) : Bool := entersLost s.sru.sides (readSides s).sru.sides

/-- The readings and, where it comes first, the load sample, before the DLU and the CSC act. -/
def readingsTaken (o : SampleOrder) (s : State) : State :=
  if o.loadFirst then sampleLoad o.apart (readSides s) else readSides s

theorem readingsTaken_cut (o : SampleOrder) (s : State) : CutStands s (readingsTaken o s) := by
  have read : CutStands s (readSides s) := {}
  exact .ite (fun _ => read.trans {}) fun _ => read

theorem readingsTaken_frame (o : SampleOrder) (s : State) : ShareFrame s (readingsTaken o s) :=
  (readSides_frame s).optional o.loadFirst (sampleLoad_frame o.apart)

theorem sideShare_parts (o : SampleOrder) (s : State) :
    sideShare o s = afterLoops o (losesSide s) (updateLoops (beforeLoops o s)) := sideShare_eq o s

theorem beforeLoops_eq (o : SampleOrder) (s : State) : beforeLoops o s =
    if o.lossFirst then applyLoss (losesSide s) (readingsTaken o s) else readingsTaken o s := rfl

/-- The load sample that comes last leaves the CSC and the loops alone. -/
theorem afterLoops_cut (o : SampleOrder) (lost : Bool) (s : State) :
    CutStands (completionShare o.apart (if o.lossFirst then s else applyLoss lost s)) (afterLoops o lost s) :=
  .ite (fun _ => .rfl) fun _ => {}

theorem afterLoops_frame (o : SampleOrder) (lost : Bool) (s : State) :
    ShareFrame (completionShare o.apart (if o.lossFirst then s else applyLoss lost s)) (afterLoops o lost s) :=
  .deferred _ .rfl (sampleLoad_frame _)

section
variable {o : SampleOrder} {s : State}

section
variable (calm : losesSide s = true → ¬AtWork s.csc.state)
include calm

/-- With no loss to apply, the loops are updated in the cut state that the readings find. -/
theorem beforeLoops_calm : CutStands s (beforeLoops o s) := by
  have taken := readingsTaken_cut o s
  rw [beforeLoops_eq, applyLoss_calm (by rwa [taken.csc]), ite_self]
  exact taken

/-- With no loss to apply, the side readings are the loop updates and the completions. -/
theorem sideShare_calm : ∃ t, t = completionShare o.apart (updateLoops (beforeLoops o s)) ∧
    CutStands t (sideShare o s) ∧ ShareFrame t (sideShare o s) := by
  have state : (updateLoops (beforeLoops o s)).csc = s.csc := by rw [updateLoops_csc, (beforeLoops_calm calm).csc]
  have after := applyLoss_calm (lost := losesSide s) (s := updateLoops (beforeLoops o s)) (by rwa [state])
  have cut := afterLoops_cut o (losesSide s) (updateLoops (beforeLoops o s))
  have frame := afterLoops_frame o (losesSide s) (updateLoops (beforeLoops o s))
  rw [after, ite_self] at cut frame
  rw [sideShare_parts]
  exact ⟨_, rfl, cut, frame⟩

/-- Where nothing completes either, the side readings leave the CSC alone and bring the loop updates. -/
theorem sideShare_updates (waits : o.apart = true ∨ NoneComplete (updateLoops (beforeLoops o s))) :
    (sideShare o s).csc = s.csc ∧ (sideShare o s).dlu = (updateLoops (beforeLoops o s)).dlu := by
  obtain ⟨t, rfl, cut, -⟩ := sideShare_calm (o := o) calm
  rw [completionShare_waits waits] at cut
  exact ⟨cut.csc.trans ((updateLoops_csc _).trans (beforeLoops_calm calm).csc), cut.dlu⟩

/-- A completion with the sample set: the change of the cut state and its event. -/
theorem sideShare_completes {new : CutState} {e : EventSrc}
    (done : completionShare o.apart (updateLoops (beforeLoops o s)) =
      raise e (changeState new (updateLoops (beforeLoops o s)))) (untimed : new.timed = false)
    (settles : new ≠ .engaging) (leaves : new ≠ .config) :
    (sideShare o s).csc = { s.csc with state := new, stateTimer := none } ∧
      (∀ i, ((sideShare o s).dlu.get i).settle = 0) ∧ Raised e s (sideShare o s) := by
  obtain ⟨t, rfl, cut, frame⟩ := sideShare_calm (o := o) calm
  have csc : (updateLoops (beforeLoops o s)).csc = s.csc := by rw [updateLoops_csc, (beforeLoops_calm calm).csc]
  have before := ((beforeLoops_frame o s).trans (updateLoops_frame _)).trans (changeState_frame settles leaves _)
  rw [done] at cut frame
  refine ⟨?_, fun i => ?_, (Raised.of_raise before.events).later frame.events⟩
  · rw [cut.csc, raise_csc, changeState_csc, csc, untimed]
    rfl
  · rw [cut.dlu, raise_dlu, changeState_settle]

end

/-- Loops updated outside ENGAGING and LIFTING stand unsettled (R86). -/
theorem updateLoops_cleared {u : State} (h : ¬u.csc.state.timed = true) (i : Side) :
    ((updateLoops u).dlu.get i).settle = 0 := by
  rw [updateLoops_dlu, loopSide_settle, if_neg]
  rw [settled_iff]
  rintro ⟨-, ⟨state, -⟩ | ⟨state, -⟩⟩ <;> exact h (by rw [state]; rfl)

/-- R171: a loss at work takes the part to HOLD_SOFT with cause REF_LOST, before the loop updates or after them. -/
theorem sideShare_loses (lost : losesSide s = true) (work : AtWork s.csc.state) :
    (sideShare o s).csc = { s.csc with state := .holdSoft, stateTimer := none, cause := some .refLost } ∧
      (∀ i, ((sideShare o s).dlu.get i).settle = 0) ∧ Raised .holdEntered s (sideShare o s) := by
  have taken := readingsTaken_cut o s
  have held {u : State} (csc : u.csc = s.csc) : (enterHold .holdSoft .refLost u).csc =
      { s.csc with state := .holdSoft, stateTimer := none, cause := some .refLost } := by
    rw [enterHold_csc, csc]
    rfl
  have raised {u : State} (frame : ShareFrame s u) : Raised .holdEntered s (enterHold .holdSoft .refLost u) :=
    Raised.of_raise (frame.trans ((changeState_frame (by decide) (by decide) u).trans (mapCsc_frame _ _))).events
  have rests {u : State} (csc : u.csc = { s.csc with state := .holdSoft, stateTimer := none, cause := some .refLost }) :
      completionShare o.apart u = u := completionShare_waits (.inr (.inl (by rw [csc]; exact Bool.false_ne_true)))
  have cut := afterLoops_cut o (losesSide s) (updateLoops (beforeLoops o s))
  have frame := afterLoops_frame o (losesSide s) (updateLoops (beforeLoops o s))
  rw [sideShare_parts]
  rw [beforeLoops_eq] at *
  cases first : o.lossFirst with
  | true =>
    have csc := held taken.csc
    have updated := (updateLoops_csc (enterHold .holdSoft .refLost (readingsTaken o s))).trans csc
    simp only [first, if_true, lost, applyLoss_works (by rwa [taken.csc] : AtWork (readingsTaken o s).csc.state)]
      at cut frame ⊢
    rw [rests updated] at cut frame
    refine ⟨cut.csc.trans updated, fun i => ?_,
      ((raised (readingsTaken_frame o s)).later (updateLoops_frame _).events).later frame.events⟩
    exact (congrArg (fun d => (Sides.get d i).settle) cut.dlu).trans
      (updateLoops_cleared (by rw [csc]; exact Bool.false_ne_true) i)
  | false =>
    have csc : (updateLoops (readingsTaken o s)).csc = s.csc := (updateLoops_csc _).trans taken.csc
    simp only [first, Bool.false_eq_true, if_false, lost,
      applyLoss_works (by rwa [csc] : AtWork (updateLoops (readingsTaken o s)).csc.state)] at cut frame ⊢
    rw [rests (held csc)] at cut frame
    refine ⟨cut.csc.trans (held csc), fun i => ?_,
      (raised ((readingsTaken_frame o s).trans (updateLoops_frame _))).later frame.events⟩
    exact (congrArg (fun d => (Sides.get d i).settle) (cut.dlu.trans (enterHold_dlu _ _ _))).trans
      (changeState_settle _ _ i)

end

end Sys2Proof.Machine

namespace Sys2Proof.Machine

/-! #### A sample set that takes no cutoff and finds nothing complete (R45, R86 to R88, R165, R167, R171) -/

/-- R87, R88: the settle condition of a side in the cut state of s, by the readings and the setpoint of t. -/
def SettlesIn (s t : State) (i : Side) : Prop :=
  (t.sru.sides.get i).ref ≠ .lost ∧
    ((s.csc.state = .engaging ∧ (targets s).map (fun x => x.get i) = some (t.dlu.get i).sp ∧
        (((t.dlu.get i).sp - (t.sru.sides.get i).depth).natAbs : Int) ≤ ((s.cfg.side.get i).engageTol : Int)) ∨
      (s.csc.state = .lifting ∧
        (t.sru.sides.get i).depth ≤ ((s.cfg.side.get i).engageTol : Int) - (s.cfg.plan.clearance : Int)))

theorem SettlesIn.timed {s t : State} {i : Side} (h : SettlesIn s t i) :
    s.csc.state = .engaging ∨ s.csc.state = .lifting := h.2.imp And.left And.left

/-- R45, R171: a side enters LOST at the sample set. -/
theorem losesSide_scanned (scan : Scan) (o : SampleOrder) (s : State) : losesSide (scanned scan o s) = true ↔
    ∃ i, (s.sru.sides.get i).ref ≠ .lost ∧ ((sampleSet scan o s).sru.sides.get i).ref = .lost := by
  rw [losesSide, entersLost_iff, scanned_sru, (sampleSet_readings scan o s).sru]

section
variable {scan : Scan} {o : SampleOrder} {s : State} (hn : NoCutoff scan o s) (hw : NoneComplete s)
include hn hw

theorem scanned_state : (scanned scan o s).csc.state = s.csc.state := by rw [(scanned_waits hn hw).1]

/-- R171: a side that enters LOST at work. -/
theorem sampleSet_loses (lost : losesSide (scanned scan o s) = true) (work : AtWork s.csc.state) :
    (sampleSet scan o s).csc = { s.csc with
      cutoffHanded := o.apart && cutsOff scan s, state := .holdSoft, stateTimer := none, cause := some .refLost } ∧
    (∀ i, ((sampleSet scan o s).dlu.get i).settle = 0) ∧ Raised .holdEntered s (sampleSet scan o s) := by
  obtain ⟨csc, cleared, raised⟩ := sideShare_loses (o := o) lost (by rwa [scanned_state hn hw])
  obtain ⟨turned, dlu⟩ := sampleSet_turns hn hw
    (turn := fun c => { c with state := .holdSoft, stateTimer := none, cause := some .refLost }) (fun _ _ => rfl)
    (fun spared => by rcases work with w | w | w <;> rw [w] at spared <;> simp at spared) csc
  refine ⟨turned, fun i => by rw [dlu, cleared], fun on => ?_⟩
  exact (raised.later (sampleSet_frame_side scan o s).events) (by rwa [(scanned_frame scan o s).events.enable])

variable (calm : losesSide (scanned scan o s) = true → ¬AtWork s.csc.state)
include calm

theorem scanned_calm : losesSide (scanned scan o s) = true → ¬AtWork (scanned scan o s).csc.state := by
  rwa [scanned_state hn hw]

/-- The loops are updated as the sample set found them. -/
theorem updateReady_waits : (updateReady scan o s).csc.state = s.csc.state ∧ (updateReady scan o s).dlu = s.dlu := by
  have before := beforeLoops_calm (o := o) (scanned_calm hn hw calm)
  exact ⟨(congrArg Csc.state before.csc).trans (scanned_state hn hw), before.dlu.trans (scanned_waits hn hw).2⟩

/-- R86: each settle counter after the loop updates of the sample set. -/
theorem updated_settle (i : Side) :
    (SettlesIn s (sampleSet scan o s) i → ((updateLoops (updateReady scan o s)).dlu.get i).settle =
      min 10 ((s.dlu.get i).settle + 1)) ∧
    (¬SettlesIn s (sampleSet scan o s) i → ((updateLoops (updateReady scan o s)).dlu.get i).settle = 0) := by
  obtain ⟨state, dlu⟩ := updateReady_waits hn hw calm
  have sp := (sampleSet_loops (scan := scan) (o := o) (s := s)).alike i |>.sp
  have iff : SettlesIn s (sampleSet scan o s) i ↔ settled s.csc.state s.cfg.plan (s.cfg.side.get i)
      ((targets s).map fun x => x.get i) ((sampleSet scan o s).sru.sides.get i)
      ((updateLoops (updateReady scan o s)).dlu.get i) = true := by
    rw [settled_iff, ← sp]
    exact Iff.rfl
  rw [iff, updated_dlu, state, dlu, loopSide_settle]
  exact ⟨fun settles => if_pos settles, fun misses => if_neg misses⟩

/-- R86: a counter reaches 10 where its side settles and the counter has reached 9. -/
theorem updated_full (i : Side) : 10 ≤ ((updateLoops (updateReady scan o s)).dlu.get i).settle ↔
    SettlesIn s (sampleSet scan o s) i ∧ 9 ≤ (s.dlu.get i).settle := by
  obtain ⟨counts, clears⟩ := updated_settle hn hw calm i
  by_cases settles : SettlesIn s (sampleSet scan o s) i
  · rw [counts settles]
    simp only [settles, true_and]
    omega
  · rw [clears settles]
    simp [settles]

theorem updated_both : bothSettled (updateLoops (updateReady scan o s)) = true ↔
    (SettlesIn s (sampleSet scan o s) .left ∧ 9 ≤ (s.dlu.get .left).settle) ∧
      (SettlesIn s (sampleSet scan o s) .right ∧ 9 ≤ (s.dlu.get .right).settle) := by
  rw [← updated_full hn hw calm, ← updated_full hn hw calm]
  exact bothSettled_iff _

theorem updated_state : (updateLoops (updateReady scan o s)).csc.state = s.csc.state :=
  (congrArg Csc.state (updateLoops_csc _)).trans (updateReady_waits hn hw calm).1

/-- R165, R167: a completion with the sample set. -/
theorem sampleSet_completes {new : CutState} {e : EventSrc}
    (done : completionShare o.apart (updateLoops (updateReady scan o s)) =
      raise e (changeState new (updateLoops (updateReady scan o s)))) (untimed : new.timed = false)
    (leaves : new ≠ .config) (timed : s.csc.state.timed = true) :
    (sampleSet scan o s).csc = { s.csc with
      cutoffHanded := o.apart && cutsOff scan s, state := new, stateTimer := none } ∧
    (∀ i, ((sampleSet scan o s).dlu.get i).settle = 0) ∧ Raised e s (sampleSet scan o s) := by
  have settles : new ≠ .engaging := by
    rintro rfl
    exact Bool.false_ne_true untimed.symm
  obtain ⟨csc, cleared, raised⟩ :=
    sideShare_completes (scanned_calm hn hw calm) done untimed settles leaves
  obtain ⟨turned, dlu⟩ := sampleSet_turns hn hw (turn := fun c => { c with state := new, stateTimer := none })
    (fun _ _ => rfl) (fun spared => by rcases spared with w | w <;> rw [w] at timed <;> cases timed) csc
  refine ⟨turned, fun i => by rw [dlu, cleared], fun on => ?_⟩
  exact (raised.later (sampleSet_frame_side scan o s).events) (by rwa [(scanned_frame scan o s).events.enable])

/-- A sample set with no loss and no completion leaves the CSC alone and counts. -/
theorem sampleSet_counts (waits : o.apart = true ∨ NoneComplete (updateLoops (updateReady scan o s))) :
    (sampleSet scan o s).csc = { s.csc with cutoffHanded := o.apart && cutsOff scan s } ∧
      ∀ i, (SettlesIn s (sampleSet scan o s) i →
          ((sampleSet scan o s).dlu.get i).settle = min 10 ((s.dlu.get i).settle + 1)) ∧
        (¬SettlesIn s (sampleSet scan o s) i → ((sampleSet scan o s).dlu.get i).settle = 0) := by
  obtain ⟨csc, updated⟩ := sideShare_updates (scanned_calm hn hw calm) waits
  obtain ⟨turned, dlu⟩ := sampleSet_turns hn hw (turn := id) (fun _ _ => rfl) (fun _ => rfl) csc
  refine ⟨turned, fun i => ?_⟩
  rw [dlu, updated]
  exact updated_settle hn hw calm i

end

/-- Settles O16: the completions as commands by their conditions; at a sample set by whether a side is lost at work,
whether both counters fill, or neither. -/
theorem engageAndLiftComplete : Obligations.EngageAndLiftComplete := by
  refine ⟨fun s hs => ?_, fun scan o s hs hn hb => ⟨_, exec_sampleSet scan o hs, ?_⟩⟩
  · have engage : exec .engageDone s = .next (arbitrate (settleEngage s)) := act_free _ hs
    have lift : exec .liftDone s = .next (arbitrate (settleLift s)) := act_free _ hs
    dsimp only
    rw [engage, lift, ← bothSettled_iff]
    exact ⟨fun state both => by rw [settleEngage_completes state both],
      fun state both => by rw [settleLift_completes state both],
      fun waits => by rw [settleEngage_waits waits], fun waits => by rw [settleLift_waits waits]⟩
  · have hw : NoneComplete s := .inr (mt (bothSettled_iff s).1 hb)
    have pending (e : EventSrc) (raised : Raised e s (sampleSet scan o s)) :
        Raised e s (arbitrate (sampleSet scan o s)) := raised.later (arbitrate_frame _).events
    have loses := losesSide_scanned scan o s
    dsimp only
    simp only [arbitrate_csc, arbitrate_dlu, arbitrate_sru]
    refine ⟨fun loss work => ?_, fun kept complete state => ?_, fun kept complete state => ?_,
      fun kept incomplete => ?_, fun idle => ?_⟩
    · obtain ⟨csc, cleared, raised⟩ := sampleSet_loses hn hw (loses.2 loss) work
      rw [csc]
      exact ⟨⟨rfl, cleared, pending _ raised⟩, rfl⟩
    · obtain ⟨left, right, now⟩ := complete
      have calm (lost : losesSide (scanned scan o s) = true) : ¬AtWork s.csc.state := absurd (loses.1 lost) kept
      have both := (updated_both hn hw calm).2 ⟨left, right⟩
      obtain ⟨csc, cleared, raised⟩ := sampleSet_completes hn hw calm (new := .cutting) (e := .engageDone)
        (by rw [now, completionShare_engages ((updated_state hn hw calm).trans state) both]) rfl (by decide)
        (by rw [state]; rfl)
      rw [csc]
      exact ⟨⟨rfl, cleared, pending _ raised⟩, rfl⟩
    · obtain ⟨left, right, now⟩ := complete
      have calm (lost : losesSide (scanned scan o s) = true) : ¬AtWork s.csc.state := absurd (loses.1 lost) kept
      have both := (updated_both hn hw calm).2 ⟨left, right⟩
      obtain ⟨csc, cleared, raised⟩ := sampleSet_completes hn hw calm (new := .ready) (e := .liftDone)
        (by rw [now, completionShare_lifts ((updated_state hn hw calm).trans state) both]) rfl (by decide)
        (by rw [state]; rfl)
      rw [csc]
      exact ⟨⟨rfl, cleared, pending _ raised⟩, rfl⟩
    · have calm (lost : losesSide (scanned scan o s) = true) : ¬AtWork s.csc.state := absurd (loses.1 lost) kept
      refine sampleSet_counts hn hw calm ?_
      cases apart : o.apart with
      | true => exact .inl rfl
      | false =>
        refine .inr (.inr fun both => incomplete ?_)
        obtain ⟨left, right⟩ := (updated_both hn hw calm).1 both
        exact ⟨left, right, apart⟩
    · have untimed : ¬s.csc.state.timed = true := by rcases idle with w | w | w | w <;> rw [w] <;> decide
      have calm (_ : losesSide (scanned scan o s) = true) : ¬AtWork s.csc.state := by
        rintro (work | work | work) <;> rw [work] at idle <;> simp at idle
      obtain ⟨csc, settle⟩ := sampleSet_counts hn hw calm
        (.inr (.inl (by rwa [updated_state hn hw calm])))
      exact ⟨csc, fun i => (settle i).2 fun settles => untimed ((CutState.timed_iff _).2 settles.timed)⟩

end Sys2Proof.Machine

namespace Sys2Proof.Machine

/-! ### The supply monitor at a sample set (R175, R191, R193) -/

/-- A step that leaves the supply counters, the SUPPLY_LOW mark and its condition alone. -/
structure SupplyStands (s t : State) : Prop where
  vos : t.vos = { s.vos with legs := t.vos.legs, beltHeld := t.vos.beltHeld, supply := t.vos.supply } := by simp
  cond : condition .supplyLow t = condition .supplyLow s

theorem SupplyStands.rfl {s : State} : SupplyStands s s := ⟨Eq.refl _, Eq.refl _⟩

theorem SupplyStands.trans {s t u : State} (h : SupplyStands s t) (k : SupplyStands t u) : SupplyStands s u :=
  ⟨by rw [k.vos, h.vos], k.cond.trans h.cond⟩

theorem SupplyStands.ite {s a b : State} {p : Prop} [Decidable p] (ha : p → SupplyStands s a)
    (hb : ¬p → SupplyStands s b) : SupplyStands s (if p then a else b) := by
  split
  · exact ha ‹_›
  · exact hb ‹_›

/-- A step that judges other sources than SUPPLY_LOW, and of the VOS touches the leg outputs and the belt at most. -/
theorem SupplyStands.of_cond {s t : State} (cond : t.li.events.cond = s.li.events.cond)
    (vos : t.vos = { s.vos with legs := t.vos.legs, beltHeld := t.vos.beltHeld, supply := t.vos.supply } := by simp) :
    SupplyStands s t := ⟨vos, by rw [condition, cond]; rfl⟩

theorem setCond_supply {e : EventSrc} (other : EventSrc.supplyLow.id ≠ e.id) (b : Bool) (s : State) :
    SupplyStands s (setCond e b s) := ⟨by simp, setCond_condition_of_ne other b s⟩

theorem changeState_supply {new : CutState} (he : new ≠ .engaging) (hc : new ≠ .config) (s : State) :
    SupplyStands s (changeState new s) := .of_cond (changeState_cond he hc s) (by rw [changeState_vos])

theorem raise_supply (e : EventSrc) (s : State) : SupplyStands s (raise e s) := .of_cond (raise_cond e s)

theorem mapCsc_supply (f : Csc → Csc) (s : State) : SupplyStands s (s.mapCsc f) := ⟨rfl, rfl⟩

theorem enterHold_supply {new : CutState} (he : new ≠ .engaging) (hc : new ≠ .config) (cause : HoldCause) (s : State) :
    SupplyStands s (enterHold new cause s) :=
  ((changeState_supply he hc s).trans (mapCsc_supply _ _)).trans (raise_supply _ _)

theorem settleEngage_supply (s : State) : SupplyStands s (settleEngage s) :=
  .ite (fun _ => (changeState_supply (by decide) (by decide) s).trans (raise_supply _ _)) fun _ => .rfl

theorem settleLift_supply (s : State) : SupplyStands s (settleLift s) :=
  .ite (fun _ => (changeState_supply (by decide) (by decide) s).trans (raise_supply _ _)) fun _ => .rfl

theorem completionShare_supply (apart : Bool) (s : State) : SupplyStands s (completionShare apart s) :=
  .ite (fun _ => .rfl) fun _ => (settleEngage_supply s).trans (settleLift_supply _)

theorem applyLoss_supply (lost : Bool) (s : State) : SupplyStands s (applyLoss lost s) := by
  by_cases work : lost = true ∧ AtWork s.csc.state
  · rw [work.1, applyLoss_works work.2]
    exact enterHold_supply (by decide) (by decide) _ s
  · rw [applyLoss_calm fun lost atWork => work ⟨lost, atWork⟩]
    exact .rfl

theorem applyCutoff_supply (s : State) : SupplyStands s (applyCutoff s) := by
  by_cases spared : s.csc.state = .config ∨ s.csc.state = .holdHard
  · rw [applyCutoff_spares spared]
    exact mapCsc_supply _ s
  · obtain ⟨config, hard⟩ := not_or.1 spared
    cases handed : s.csc.cutoffHanded with
    | false => rw [applyCutoff_unhanded handed]; exact .rfl
    | true =>
      rw [applyCutoff_cuts handed config hard]
      exact (mapCsc_supply _ s).trans (enterHold_supply (by decide) (by decide) _ _)

theorem updateLoops_supply (s : State) : SupplyStands s (updateLoops s) := ⟨rfl, rfl⟩

theorem readSides_supply (s : State) : SupplyStands s (readSides s) := by
  have stored (f : Sru → Sru) : SupplyStands s (s.mapSru f) := ⟨rfl, rfl⟩
  exact ((((stored _).trans (setCond_supply (by decide) _ _)).trans (setCond_supply (by decide) _ _)).trans
    (setCond_supply (by decide) _ _)).trans (setCond_supply (by decide) _ _)

theorem closeClassWindow_supply (s : State) : SupplyStands s (closeClassWindow s) := by
  have closed (f : Dlm → Dlm) : SupplyStands s (s.mapDlm f) := ⟨rfl, rfl⟩
  exact .ite (fun _ => (closed _).trans (setCond_supply (by decide) _ _)) fun _ => .rfl

theorem sampleLoad_supply (apart : Bool) (s : State) : SupplyStands s (sampleLoad apart s) := by
  have sampled (f : Dlm → Dlm) : SupplyStands s (s.mapDlm f) := ⟨rfl, rfl⟩
  exact .ite (fun _ => sampled _) fun _ => (sampled _).trans (closeClassWindow_supply _)

theorem completeCapture_supply (s : State) : SupplyStands s (completeCapture s) := .of_cond (completeCapture_cond s)

theorem failLost_supply (lost : List Chan) (s : State) : SupplyStands s (failLost lost s) :=
  .ite (fun _ => .of_cond (failCapture_cond s)) fun _ => .rfl

theorem captureShare_supply (apart : Bool) (s : State) : SupplyStands s (captureShare apart s) := by
  have counted : SupplyStands s (countCapture s) := ⟨rfl, rfl⟩
  exact .ite (fun _ => counted) fun _ => counted.trans (completeCapture_supply _)

theorem scanChannels_supply (scan : Scan) (s : State) : SupplyStands s (scanChannels scan s) := by
  have read (f : Sfe → Sfe) (n : Nat) : SupplyStands s ((s.mapSfe f).mapVos fun v => { v with supply := n }) :=
    ⟨rfl, rfl⟩
  exact (read _ _).trans (setCond_supply (by decide) _ _)

theorem sideShare_supply (o : SampleOrder) (s : State) : SupplyStands s (sideShare o s) := by
  have taken : SupplyStands s (readingsTaken o s) :=
    .ite (fun _ => (readSides_supply s).trans (sampleLoad_supply _ _)) fun _ => readSides_supply s
  have before : SupplyStands s (beforeLoops o s) := .ite (fun _ => taken.trans (applyLoss_supply _ _)) fun _ => taken
  have updated := before.trans (updateLoops_supply _)
  have judged : SupplyStands s (if o.lossFirst then updateLoops (beforeLoops o s)
      else applyLoss (losesSide s) (updateLoops (beforeLoops o s))) :=
    .ite (fun _ => updated) fun _ => updated.trans (applyLoss_supply _ _)
  have completed := judged.trans (completionShare_supply o.apart _)
  rw [sideShare_parts]
  exact .ite (fun _ => completed) fun _ => completed.trans (sampleLoad_supply _ _)

/-! #### SUPPLY_LOW (R191) -/

theorem settleLowSet_sets {s : State} (low : s.vos.low = false) (full : 20 ≤ s.vos.lowCount) :
    settleLowSet s = setCond .supplyLow true
      (s.mapVos fun v => { v with low := true, lowCount := 0, recoverCount := 0 }) := if_pos ⟨low, full⟩

theorem settleLowSet_waits {s : State} (h : s.vos.low = true ∨ s.vos.lowCount < 20) : settleLowSet s = s := by
  refine if_neg fun due => ?_
  obtain ⟨low, full⟩ := due
  exact h.elim (fun on => Bool.false_ne_true (low.symm.trans on)) fun few => Nat.not_le.2 few full

theorem settleLowClear_clears {s : State} (low : s.vos.low = true) (full : 50 ≤ s.vos.recoverCount) :
    settleLowClear s = setCond .supplyLow false
      (s.mapVos fun v => { v with low := false, lowCount := 0, recoverCount := 0 }) := if_pos ⟨low, full⟩

theorem settleLowClear_waits {s : State} (h : s.vos.low = false ∨ s.vos.recoverCount < 50) : settleLowClear s = s := by
  refine if_neg fun due => ?_
  obtain ⟨low, full⟩ := due
  exact h.elim (fun off => Bool.false_ne_true (off.symm.trans low)) fun few => Nat.not_le.2 few full

/-- SUPPLY_LOW as the monitor leaves it at the end of its share. -/
theorem monitorShare_low (apart : Bool) (s : State) : SupplyStands
    (if apart then supplyCounted s else settleLowClear (settleLowSet (supplyCounted s))) (monitorShare apart s) := by
  cases apart with
  | true => exact .rfl
  | false => exact applyCutoff_supply _

theorem supplyCounted_vos (s : State) : (supplyCounted s).vos = { s.vos.countSupply s.cfg.lowLevel with
    cutoffCount := if cutDue s = true then 0 else if s.vos.supply < 160 then s.vos.cutoffCount + 1 else 0 } := by
  obtain ⟨count, supply⟩ := countSupply_count s.cfg.lowLevel s.vos
  unfold supplyCounted
  by_cases due : cutDue s = true
  · rw [countCutoff_due (by rwa [cutDue_counted]), if_pos due]
    rfl
  · rw [countCutoff_undue (by rwa [cutDue_counted, Bool.not_eq_true] at *), if_neg due]
    simp only [State.mapVos_vos, count, supply]

/-- R193: the cutoff is due where this value brings the counter to 5. -/
theorem cutDue_iff (s : State) :
    cutDue s = true ↔ 5 ≤ if s.vos.supply < 160 then s.vos.cutoffCount + 1 else 0 := by
  simp only [cutDue, Bool.and_eq_true, decide_eq_true_eq]
  split <;> omega

end Sys2Proof.Machine

namespace Sys2Proof.Machine

theorem countSupply_off {v : Vos} (low : v.low = false) (level : Nat) : v.countSupply level =
    { v with lowCount := if v.supply < 200 + 10 * level then v.lowCount + 1 else 0 } := by
  unfold Vos.countSupply
  rw [low]
  rfl

theorem countSupply_on {v : Vos} (low : v.low = true) (level : Nat) : v.countSupply level =
    { v with recoverCount := if 200 + 10 * level + 5 ≤ v.supply then v.recoverCount + 1 else 0 } := by
  unfold Vos.countSupply
  rw [low]
  rfl

section
variable {apart : Bool} {s : State}

theorem monitorShare_counts (waits : settleLowClear (settleLowSet (supplyCounted s)) = supplyCounted s) :
    SupplyStands (supplyCounted s) (monitorShare apart s) := by
  have low := monitorShare_low apart s
  rwa [waits, ite_self] at low

/-- R191: the low counter below 20 leaves SUPPLY_LOW false. -/
theorem monitorShare_off (off : s.vos.low = false) {n : Nat}
    (count : n = if s.vos.supply < 200 + 10 * s.cfg.lowLevel then s.vos.lowCount + 1 else 0) (few : n < 20) :
    (monitorShare apart s).vos.low = false ∧ (monitorShare apart s).vos.lowCount = n := by
  have counted : (supplyCounted s).vos.low = false ∧ (supplyCounted s).vos.lowCount = n := by
    rw [supplyCounted_vos, countSupply_off off]
    exact ⟨off, count.symm⟩
  obtain ⟨low, lows⟩ := counted
  have stands := monitorShare_counts (apart := apart) (s := s)
    (by rw [settleLowSet_waits (.inr (by rwa [lows])), settleLowClear_waits (.inl low)])
  rw [stands.vos]
  exact ⟨low, lows⟩

/-- R191: the low counter at 20 sets SUPPLY_LOW. -/
theorem monitorShare_sets (off : s.vos.low = false)
    (full : (if s.vos.supply < 200 + 10 * s.cfg.lowLevel then s.vos.lowCount + 1 else 0) = 20) :
    let t := monitorShare false s
    t.vos.low = true ∧ t.vos.lowCount = 0 ∧ t.vos.recoverCount = 0 ∧ condition .supplyLow t = true := by
  have counted : (supplyCounted s).vos.low = false ∧ (supplyCounted s).vos.lowCount = 20 := by
    rw [supplyCounted_vos, countSupply_off off]
    exact ⟨off, full⟩
  obtain ⟨low, lows⟩ := counted
  obtain ⟨vos, cond⟩ := monitorShare_low false s
  rw [if_neg Bool.false_ne_true, settleLowSet_sets low lows.ge,
    settleLowClear_waits (.inr (by rw [setCond_vos, State.mapVos_vos]; exact Nat.zero_lt_succ _))] at vos cond
  rw [setCond_condition_self] at cond
  dsimp only
  rw [vos, setCond_vos, State.mapVos_vos]
  exact ⟨rfl, rfl, rfl, cond⟩

/-- R191: the recover counter below 50 leaves SUPPLY_LOW true. -/
theorem monitorShare_on (on : s.vos.low = true) {n : Nat}
    (count : n = if 200 + 10 * s.cfg.lowLevel + 5 ≤ s.vos.supply then s.vos.recoverCount + 1 else 0) (few : n < 50) :
    (monitorShare apart s).vos.low = true ∧ (monitorShare apart s).vos.recoverCount = n := by
  have counted : (supplyCounted s).vos.low = true ∧ (supplyCounted s).vos.recoverCount = n := by
    rw [supplyCounted_vos, countSupply_on on]
    exact ⟨on, count.symm⟩
  obtain ⟨low, goods⟩ := counted
  have stands := monitorShare_counts (apart := apart) (s := s)
    (by rw [settleLowSet_waits (.inl low), settleLowClear_waits (.inr (by rwa [goods]))])
  rw [stands.vos]
  exact ⟨low, goods⟩

/-- R191: the recover counter at 50 clears SUPPLY_LOW. -/
theorem monitorShare_clears (on : s.vos.low = true)
    (full : (if 200 + 10 * s.cfg.lowLevel + 5 ≤ s.vos.supply then s.vos.recoverCount + 1 else 0) = 50) :
    let t := monitorShare false s
    t.vos.low = false ∧ t.vos.lowCount = 0 ∧ t.vos.recoverCount = 0 ∧ condition .supplyLow t = false := by
  have counted : (supplyCounted s).vos.low = true ∧ (supplyCounted s).vos.recoverCount = 50 := by
    rw [supplyCounted_vos, countSupply_on on]
    exact ⟨on, full⟩
  obtain ⟨low, goods⟩ := counted
  obtain ⟨vos, cond⟩ := monitorShare_low false s
  rw [if_neg Bool.false_ne_true, settleLowSet_waits (.inl low), settleLowClear_clears low goods.ge] at vos cond
  rw [setCond_condition_self] at cond
  dsimp only
  rw [vos, setCond_vos, State.mapVos_vos]
  exact ⟨rfl, rfl, rfl, cond⟩

/-- R193: the cutoff counter returns to 0 as it reaches 5. -/
theorem monitorShare_cutoffCount : (monitorShare apart s).vos.cutoffCount =
    if cutDue s = true then 0 else if s.vos.supply < 160 then s.vos.cutoffCount + 1 else 0 := by
  have counted := congrArg Vos.cutoffCount (supplyCounted_vos s)
  rw [(monitorShare_low apart s).vos]
  refine Eq.trans ?_ counted
  dsimp only
  split
  · rfl
  · rw [(settleLowClear_cutoff _).count, (settleLowSet_cutoff _).count]

/-- R175: a cutoff that is not left due takes the part to HOLD_HARD. -/
theorem monitorShare_cuts (due : cutDue s = true) (config : s.csc.state ≠ .config) (hard : s.csc.state ≠ .holdHard) :
    (monitorShare false s).csc =
        { s.csc with cutoffHanded := false, state := .holdHard, stateTimer := none, cause := some .supply } ∧
      Raised .holdEntered s (monitorShare false s) := by
  have csc : (settleLowClear (settleLowSet (supplyCounted s))).csc = { s.csc with cutoffHanded := true } := by
    rw [monitored_csc, supplyCounted_csc, due, Bool.or_true]
  have before : ShareFrame s (settleLowClear (settleLowSet (supplyCounted s))) :=
    (((countSupply_frame _ s).trans (countCutoff_frame _)).trans (settleLowSet_frame _)).trans (settleLowClear_frame _)
  rw [monitorShare_eq, if_neg Bool.false_ne_true,
    applyCutoff_cuts (by rw [csc]) (by rwa [csc]) (by rwa [csc])]
  refine ⟨?_, Raised.of_raise ((before.trans (mapCsc_frame _ _)).trans
    ((changeState_frame (by decide) (by decide) _).trans (mapCsc_frame _ _))).events⟩
  rw [enterHold_csc, State.mapCsc_csc, csc]
  rfl

theorem monitorShare_marks (handed : s.csc.cutoffHanded = false) :
    (monitorShare apart s).csc.cutoffHanded = (apart && cutDue s) := by
  cases apart with
  | true => exact (congrArg Csc.cutoffHanded (supplyCounted_csc s)).trans (by rw [handed]; rfl)
  | false =>
    by_cases spared : cutDue s = true → s.csc.state = .config ∨ s.csc.state = .holdHard
    · rw [(monitorShare_harmless ⟨handed, fun due => .inr (spared due)⟩).1]
    · obtain ⟨due, moving⟩ := Classical.not_imp.1 spared
      obtain ⟨config, hard⟩ := not_or.1 moving
      rw [(monitorShare_cuts due config hard).1]
      rfl

end

/-! #### The states that a cutoff finds -/

/-- A step that does not take the part into CONFIG or HOLD_HARD. -/
def StaysMoving (s t : State) : Prop := s.csc.state.neutral = false → t.csc.state.neutral = false

theorem StaysMoving.rfl {s : State} : StaysMoving s s := id

theorem StaysMoving.trans {s t u : State} (h : StaysMoving s t) (k : StaysMoving t u) : StaysMoving s u := k ∘ h

theorem StaysMoving.of_csc {s t : State} (h : t.csc = s.csc := by simp) : StaysMoving s t := by
  unfold StaysMoving
  rw [h]
  exact id

theorem StaysMoving.ite {s a b : State} {p : Prop} [Decidable p] (ha : p → StaysMoving s a)
    (hb : ¬p → StaysMoving s b) : StaysMoving s (if p then a else b) := by
  split
  · exact ha ‹_›
  · exact hb ‹_›

theorem StaysMoving.of_state {s t : State} {new : CutState} (h : t.csc.state = new) (moving : new.neutral = false) :
    StaysMoving s t := fun _ => by rw [h, moving]

theorem settleEngage_moving (s : State) : StaysMoving s (settleEngage s) :=
  .ite (fun _ => .of_state (new := .cutting) (by rw [raise_csc, changeState_state]) (by rfl)) fun _ => .rfl

theorem settleLift_moving (s : State) : StaysMoving s (settleLift s) :=
  .ite (fun _ => .of_state (new := .ready) (by rw [raise_csc, changeState_state]) (by rfl)) fun _ => .rfl

theorem applyLoss_moving (lost : Bool) (s : State) : StaysMoving s (applyLoss lost s) := by
  by_cases work : lost = true ∧ AtWork s.csc.state
  · rw [work.1, applyLoss_works work.2]
    exact .of_state (new := .holdSoft) (by rw [enterHold_csc]) (by rfl)
  · rw [applyLoss_calm fun lost atWork => work ⟨lost, atWork⟩]
    exact .rfl

theorem sideShare_moving (o : SampleOrder) (s : State) : StaysMoving s (sideShare o s) := by
  have taken : StaysMoving s (readingsTaken o s) := .of_csc (readingsTaken_cut o s).csc
  have before : StaysMoving s (beforeLoops o s) := .ite (fun _ => taken.trans (applyLoss_moving _ _)) fun _ => taken
  have updated : StaysMoving s (updateLoops (beforeLoops o s)) := before.trans .of_csc
  have judged : StaysMoving s (if o.lossFirst then updateLoops (beforeLoops o s)
      else applyLoss (losesSide s) (updateLoops (beforeLoops o s))) :=
    .ite (fun _ => updated) fun _ => updated.trans (applyLoss_moving _ _)
  have completed : StaysMoving s (completionShare o.apart (if o.lossFirst then updateLoops (beforeLoops o s)
      else applyLoss (losesSide s) (updateLoops (beforeLoops o s)))) :=
    judged.trans (.ite (fun _ => .rfl) fun _ => (settleEngage_moving _).trans (settleLift_moving _))
  rw [sideShare_parts]
  exact completed.trans (.of_csc (afterLoops_cut o _ _).csc)

theorem settleDue_moving {s : State} (handed : s.csc.cutoffHanded = false) : StaysMoving s (settleDue s) := by
  have started : CutStands s (settleLowClear (settleLowSet (closeClassWindow (completeCapture s)))) := {}
  have monitored := StaysMoving.of_csc started.csc
  unfold settleDue
  rw [applyCutoff_unhanded (by rw [started.csc, handed])]
  exact (monitored.trans (settleEngage_moving _)).trans (settleLift_moving _)

/-- The side readings leave the CSC alone in CONFIG and HOLD_HARD. -/
theorem sideShare_neutral {o : SampleOrder} {s : State} (h : s.csc.state.neutral = true) :
    (sideShare o s).csc = s.csc := by
  have calm (_ : losesSide s = true) : ¬AtWork s.csc.state := by
    rintro (work | work | work) <;> rw [work] at h <;> cases h
  have untimed : ¬(updateLoops (beforeLoops o s)).csc.state.timed = true := by
    rw [updateLoops_csc, (beforeLoops_calm calm).csc, CutState.timed_iff]
    rintro (state | state) <;> rw [state] at h <;> cases h
  exact (sideShare_updates calm (.inr (.inl untimed))).1

end Sys2Proof.Machine

namespace Sys2Proof.Machine

/-! #### The monitor within a sample set -/

/-- The part on which the monitor of a sample set of s does its share: before the side readings, or after them. -/
def monitored (scan : Scan) (o : SampleOrder) (s : State) : State :=
  if o.monitorFirst then captureStart scan o s else captureEnd scan o s

section
variable {scan : Scan} {o : SampleOrder} {s : State}

theorem captureEnd_supply (scan : Scan) (o : SampleOrder) (s : State) :
    SupplyStands (scanned scan o s) (captureEnd scan o s) := by
  have counted := (sideShare_supply o (scanned scan o s)).trans (captureShare_supply o.apart _)
  exact .ite (fun _ => counted.trans (failLost_supply _ _)) fun _ => counted

theorem captureEnd_frame_scanned (scan : Scan) (o : SampleOrder) (s : State) :
    ShareFrame (scanned scan o s) (captureEnd scan o s) :=
  (sideShare_frame o _).trans (captureEnd_frame scan o s)

/-- The side readings find what the scan left where the monitor comes after them. -/
theorem scanned_start (later : o.monitorFirst = false) : scanned scan o s = captureStart scan o s := by
  rw [scanned_eq, later, if_neg Bool.false_ne_true]

theorem scanned_monitored (first : o.monitorFirst = true) :
    scanned scan o s = monitorShare o.apart (monitored scan o s) := by
  rw [scanned_eq, first, if_pos rfl, monitored, first, if_pos rfl]

theorem sampleSet_first (first : o.monitorFirst = true) : sampleSet scan o s = captureEnd scan o s := by
  rw [sampleSet_eq_captureEnd, first, if_pos rfl]

theorem sampleSet_last (later : o.monitorFirst = false) :
    sampleSet scan o s = monitorShare o.apart (monitored scan o s) := by
  rw [sampleSet_eq_captureEnd, later, if_neg Bool.false_ne_true, monitored, later, if_neg Bool.false_ne_true]

/-- Neither counter of SUPPLY_LOW is due, so nothing touches it before the scan's own count. -/
theorem settleDue_supply (low : s.vos.lowCount < 20) (good : s.vos.recoverCount < 50) :
    SupplyStands s (settleDue s) := by
  have begun := (completeCapture_supply s).trans (closeClassWindow_supply _)
  unfold settleDue
  rw [settleLowSet_waits (.inr (by rw [begun.vos]; exact low)),
    settleLowClear_waits (.inr (by rw [begun.vos]; exact good))]
  exact ((begun.trans (applyCutoff_supply _)).trans (settleEngage_supply _)).trans (settleLift_supply _)

theorem captureStart_supply (low : s.vos.lowCount < 20) (good : s.vos.recoverCount < 50) :
    SupplyStands s (captureStart scan o s) := by
  have read := (settleDue_supply low good).trans (scanChannels_supply scan _)
  exact .ite (fun _ => read) fun _ => read.trans (failLost_supply _ _)

/-- The monitor finds the counters of before. -/
theorem monitored_supply (low : s.vos.lowCount < 20) (good : s.vos.recoverCount < 50) :
    SupplyStands s (monitored scan o s) := by
  have start := captureStart_supply (scan := scan) (o := o) low good
  have ended := captureEnd_supply scan o s
  unfold monitored
  split
  · exact start
  · rename_i later
    rw [scanned_start (Bool.eq_false_iff.2 later)] at ended
    exact start.trans ended

theorem monitored_frame (scan : Scan) (o : SampleOrder) (s : State) :
    ShareFrame (scanChannels scan (settleDue s)) (monitored scan o s) := by
  have start := captureStart_frame scan o s
  have ended := captureEnd_frame_scanned scan o s
  unfold monitored
  split
  · exact start
  · rename_i later
    rw [scanned_start (Bool.eq_false_iff.2 later)] at ended
    exact start.trans ended

/-- R2: the supply value that the monitor finds is this scan's. -/
theorem monitored_value : (monitored scan o s).vos.supply = scan.supply.toNat * 25 / 256 := by
  rw [(monitored_frame scan o s).supply, scanChannels_vos]
  rfl

theorem monitored_frame_set (scan : Scan) (o : SampleOrder) (s : State) : SampleFrame s (monitored scan o s) :=
  ((settleDue_frame s).toSampleFrame.trans (scanChannels_frame scan _)).trans (monitored_frame scan o s).toSampleFrame

theorem monitored_handed (handed : s.csc.cutoffHanded = false) : (monitored scan o s).csc.cutoffHanded = false := by
  have start : (captureStart scan o s).csc.cutoffHanded = false := by
    rw [(captureStart_cut scan o s).csc, (settleDue_handover handed).handed, handed]
  have ended := (captureEnd_handover scan o s).handed
  unfold monitored
  split
  · exact start
  · rename_i later
    rwa [ended, scanned_start (Bool.eq_false_iff.2 later)]

theorem monitored_moving (handed : s.csc.cutoffHanded = false) : StaysMoving s (monitored scan o s) := by
  have start := (settleDue_moving handed).trans (.of_csc (captureStart_cut scan o s).csc)
  have ended := (sideShare_moving o (scanned scan o s)).trans (.of_csc (captureEnd_cut scan o s).csc)
  unfold monitored
  split
  · exact start
  · rename_i later
    rw [scanned_start (Bool.eq_false_iff.2 later)] at ended
    exact start.trans ended

/-- What the monitor made of the counters, SUPPLY_LOW and the hand-over, the sample set leaves. -/
theorem sampleSet_monitored (scan : Scan) (o : SampleOrder) (s : State) :
    SupplyStands (monitorShare o.apart (monitored scan o s)) (sampleSet scan o s) ∧
      ShareFrame (monitorShare o.apart (monitored scan o s)) (sampleSet scan o s) ∧
      HandoverStands (monitorShare o.apart (monitored scan o s)) (sampleSet scan o s) := by
  cases first : o.monitorFirst with
  | true =>
    rw [← scanned_monitored first, sampleSet_first first]
    exact ⟨captureEnd_supply scan o s, captureEnd_frame_scanned scan o s, captureEnd_handover scan o s⟩
  | false =>
    rw [sampleSet_last first]
    exact ⟨.rfl, .rfl, .rfl⟩

/-- R172, R175: the side readings that follow a cutoff leave HOLD_HARD alone. -/
theorem sampleSet_keepsHold (held : (monitorShare o.apart (monitored scan o s)).csc.state = .holdHard) :
    (sampleSet scan o s).csc = (monitorShare o.apart (monitored scan o s)).csc := by
  cases first : o.monitorFirst with
  | true =>
    rw [← scanned_monitored first] at held ⊢
    rw [sampleSet_first first, (captureEnd_cut scan o s).csc, sideShare_neutral (by rw [held]; rfl)]
  | false => rw [sampleSet_last first]

/-- R193: the cutoff counter's step at the sample set, with its cutoff. -/
theorem monitored_cutDue (low : s.vos.lowCount < 20) (good : s.vos.recoverCount < 50) :
    cutDue (monitored scan o s) = true ↔
      5 ≤ if scan.supply.toNat * 25 / 256 < 160 then s.vos.cutoffCount + 1 else 0 := by
  rw [cutDue_iff, monitored_value, (monitored_supply low good).vos]

theorem sampleSet_cutoffCount (low : s.vos.lowCount < 20) (good : s.vos.recoverCount < 50) :
    (sampleSet scan o s).vos.cutoffCount =
      if cutDue (monitored scan o s) = true then 0
      else if scan.supply.toNat * 25 / 256 < 160 then s.vos.cutoffCount + 1 else 0 := by
  rw [(sampleSet_monitored scan o s).1.vos]
  refine monitorShare_cutoffCount.trans ?_
  rw [monitored_value, (monitored_supply low good).vos]

theorem sampleSet_marks (handed : s.csc.cutoffHanded = false) :
    (sampleSet scan o s).csc.cutoffHanded = (o.apart && cutDue (monitored scan o s)) :=
  (sampleSet_monitored scan o s).2.2.handed.trans (monitorShare_marks (monitored_handed handed))

/-- R175: a cutoff of this sample set that is not left due takes the part to HOLD_HARD. -/
theorem sampleSet_cuts (handed : s.csc.cutoffHanded = false) (due : cutDue (monitored scan o s) = true)
    (now : o.apart = false) (config : s.csc.state ≠ .config) (hard : s.csc.state ≠ .holdHard) :
    (sampleSet scan o s).csc.state = .holdHard ∧ (sampleSet scan o s).csc.cause = some .supply ∧
      (sampleSet scan o s).csc.stateTimer = none ∧ Raised .holdEntered s (sampleSet scan o s) := by
  have moving : (monitored scan o s).csc.state.neutral = false :=
    monitored_moving handed (Bool.eq_false_iff.2 (mt (neutral_iff _).1 (not_or.2 ⟨config, hard⟩)))
  obtain ⟨config', hard'⟩ := not_or.1 (mt (neutral_iff _).2 (Bool.eq_false_iff.1 moving))
  obtain ⟨csc, raised⟩ := monitorShare_cuts due config' hard'
  rw [← now] at csc raised
  have kept := sampleSet_keepsHold (congrArg Csc.state csc)
  refine ⟨by rw [kept, csc], by rw [kept, csc], by rw [kept, csc], fun on => ?_⟩
  exact (raised.later (sampleSet_monitored scan o s).2.1.events)
    (by rwa [(monitored_frame_set scan o s).events.enable])

/-- In CONFIG and HOLD_HARD a sample set leaves the CSC alone, a cutoff that it does not leave due included. -/
theorem sampleSet_spares (handed : s.csc.cutoffHanded = false) (now : o.apart = false)
    (spared : s.csc.state = .config ∨ s.csc.state = .holdHard) : (sampleSet scan o s).csc = s.csc := by
  have neutral := (neutral_iff _).2 spared
  have hn : NoCutoff scan o s := ⟨handed, fun _ => .inr spared⟩
  have hw : NoneComplete s := .inl (by rcases spared with state | state <;> rw [state] <;> decide)
  have share := sideShare_neutral (o := o) (s := scanned scan o s) (by rw [scanned_state hn hw, neutral])
  rw [(sampleSet_turns hn hw (turn := id) (fun _ _ => rfl) (fun _ => rfl) share).1, now, Bool.false_and, ← handed]
  rfl

end

/-! #### The outputs (R189, R190, R192) -/

/-- R192: while SUPPLY_LOW holds no applied drive exceeds 700 permille. -/
theorem appliedDrive_limits (held : Int) : (appliedDrive true held).natAbs ≤ 700 ∧ appliedDrive false held = held ∧
    (held.natAbs ≤ 700 → appliedDrive true held = held) ∧ (700 < held → appliedDrive true held = 700) ∧
    (held < -700 → appliedDrive true held = -700) := by
  have limited : appliedDrive true held = max (-700) (min 700 held) := clamp_eq (by decide) held
  rw [limited]
  exact ⟨by omega, rfl, by omega, by omega, by omega⟩

/-- R189: the sign of the applied drive picks the coil, and the polarity the pin. -/
theorem coil_pins (applied : Int) :
    let pins (p : Polarity) : Bool × Bool := (plusPin p applied, minusPin p applied)
    (0 < applied → coil applied = .lower ∧ pins .normal = (true, false) ∧ pins .swapped = (false, true)) ∧
      (applied < 0 → coil applied = .raise ∧ pins .normal = (false, true) ∧ pins .swapped = (true, false)) ∧
      (applied = 0 → coil applied = .none ∧ ∀ p, pins p = (false, false)) := by
  refine ⟨fun lowers => ?_, fun raises => ?_, ?_⟩
  · simp [coil, plusPin, minusPin, lowers, lowers.not_gt]
  · simp [coil, plusPin, minusPin, raises, raises.not_gt]
  · rintro rfl
    exact ⟨rfl, fun p => by cases p <;> rfl⟩

/-- R190: the current of an applied drive, in whole mA. -/
theorem coilCurrent_bounds (applied : Int) (imax : Nat) : 1000 * coilCurrent applied imax ≤ applied.natAbs * imax ∧
    applied.natAbs * imax < 1000 * (coilCurrent applied imax + 1) :=
  ⟨Nat.mul_div_le _ _, Nat.lt_mul_div_succ _ (by decide)⟩

/-- Settles O17: the commands by their conditions; the monitor's share of a sample set, which the other shares leave
alone; and the outputs. -/
theorem supplyMonitorActs : Obligations.SupplyMonitorActs := by
  refine ⟨fun s hs => ?_, fun scan o s hs few fair => ⟨_, exec_sampleSet scan o hs, ?_⟩, appliedDrive_limits,
    fun applied imax => ?_⟩
  · have set : exec .supplyLowSet s = .next (arbitrate (settleLowSet s)) := act_free _ hs
    have clear : exec .supplyLowClear s = .next (arbitrate (settleLowClear s)) := act_free _ hs
    have cutoff : exec .supplyCutoff s = .next (arbitrate (applyCutoff s)) := act_free _ hs
    dsimp only
    rw [set, clear, cutoff]
    refine ⟨fun low full => ?_, fun waits => ?_, fun low full => ?_, fun waits => ?_, fun handed config hard => ?_,
      fun _ spared => ?_, fun unhanded => ?_⟩
    · rw [settleLowSet_sets low full]
      rfl
    · rw [settleLowSet_waits waits]
    · rw [settleLowClear_clears low full]
      rfl
    · rw [settleLowClear_waits waits]
    · rw [applyCutoff_cuts handed config hard]
      rfl
    · rw [applyCutoff_spares spared]
      rfl
    · rw [applyCutoff_unhanded unhanded]
  · have stands := monitored_supply (scan := scan) (o := o) few fair
    have after := (sampleSet_monitored scan o s).1
    have value : (monitored scan o s).vos.supply = scan.supply.toNat * 25 / 256 := monitored_value
    have level : (monitored scan o s).cfg = s.cfg := (monitored_frame_set scan o s).cfg
    have low : (monitored scan o s).vos.low = s.vos.low := by rw [stands.vos]
    have lows : (monitored scan o s).vos.lowCount = s.vos.lowCount := by rw [stands.vos]
    have goods : (monitored scan o s).vos.recoverCount = s.vos.recoverCount := by rw [stands.vos]
    have cond : condition .supplyLow (arbitrate (sampleSet scan o s)) =
        condition .supplyLow (monitorShare o.apart (monitored scan o s)) := by
      rw [← after.cond, condition, arbitrate_events]
      rfl
    have due := monitored_cutDue (scan := scan) (o := o) few fair
    dsimp only
    rw [cond]
    simp only [arbitrate_vos, arbitrate_csc]
    refine ⟨fun off below => ?_, fun off full now => ?_, fun on below => ?_, fun on full now => ?_,
      fun handed below => ?_, fun handed full => ⟨?_, ?_, fun now config hard => ?_, fun now spared => ?_⟩⟩
    · rw [after.vos]
      exact monitorShare_off (low.trans off) (by rw [value, level, lows]) below
    · rw [after.vos, now]
      exact monitorShare_sets (low.trans off) (by rw [value, level, lows, full])
    · rw [after.vos]
      exact monitorShare_on (low.trans on) (by rw [value, level, goods]) below
    · rw [after.vos, now]
      exact monitorShare_clears (low.trans on) (by rw [value, level, goods, full])
    · have undue : ¬cutDue (monitored scan o s) = true := fun h => absurd (due.1 h) (Nat.not_le.2 below)
      rw [sampleSet_cutoffCount few fair, if_neg undue, sampleSet_marks handed,
        Bool.eq_false_iff.2 undue, Bool.and_false]
      exact ⟨rfl, rfl⟩
    · rw [sampleSet_cutoffCount few fair, if_pos (due.2 full)]
    · rw [sampleSet_marks handed, due.2 full, Bool.and_true]
    · obtain ⟨state, cause, timer, raised⟩ := sampleSet_cuts handed (due.2 full) now config hard
      exact ⟨state, cause, timer, raised.later (arbitrate_frame _).events⟩
    · exact sampleSet_spares handed now spared
  · obtain ⟨lowers, raises, rests⟩ := coil_pins applied
    obtain ⟨lower, upper⟩ := coilCurrent_bounds applied imax
    exact ⟨lowers, raises, rests, lower, upper⟩

end Sys2Proof.Machine

namespace Sys2Proof

/-- Two sides stand on the link (R203). -/
theorem Side.ofNat?_none {n : Nat} (h : 1 < n) : Side.ofNat? n = none := by
  unfold Side.ofNat?
  split
  case h_3 => rfl
  all_goals omega

theorem Side.exists_ofNat? {n : Nat} (h : n ≤ 1) : ∃ i, Side.ofNat? n = some i := by
  obtain rfl | rfl : n = 0 ∨ n = 1 := by omega
  · exact ⟨.left, rfl⟩
  · exact ⟨.right, rfl⟩

end Sys2Proof

namespace Sys2Proof.Machine

/-! ### JOG and its expiry (R187, R188) -/

/-- R187, R188: a JOG taken on a leg output. -/
def takenJog (i : Side) (command : Int) (time : Nat) (s : State) : State :=
  (s.mapCsc Csc.takeJog).mapVos fun v =>
    { v with legs := v.legs.set i { owner := .jog, held := command, jogLeft := time } }

/-- R188: a silence expiry that the JOG's own telegram overtook may follow the JOG (log 38). -/
theorem takenJog_heard (i : Side) (command : Int) (time : Nat) (s : State) : takenJog i command time (heard s) =
    { heard s with
      csc := { (heard s).csc with overtaken := if s.csc.silenceLeft ≤ 1 then .byJog else .no },
      vos := { s.vos with legs := s.vos.legs.set i { owner := .jog, held := command, jogLeft := time } } } := by
  by_cases h : s.csc.silenceLeft ≤ 1 <;> simp [takenJog, State.mapCsc, State.mapVos, Csc.takeJog, h]

section
variable {out a b c d : Byte}

theorem jog_noOutput (h : 1 < out.toNat) (s : State) : jog [out, a, b, c, d] s = (s, replyField 0) := by
  simp only [jog, Side.ofNat?_none h]

/-- The checks behind the output's number, in their order. -/
theorem jog_output {i : Side} (hi : Side.ofNat? out.toNat = some i) (s : State) : jog [out, a, b, c, d] s =
    if s16 a b < -1000 ∨ 1000 < s16 a b then (s, replyField 1)
    else if u16 c d < 50 ∨ 5000 < u16 c d then (s, replyField 2)
    else if s.csc.state ≠ .ready then (s, replyMode)
    else (takenJog i (s16 a b) (u16 c d) s, replyOk []) := by
  have badTime : (u16 c d : Int) < 50 ∨ 5000 < (u16 c d : Int) ↔ u16 c d < 50 ∨ 5000 < u16 c d := by omega
  simp only [jog, hi, within_eq_false, badTime, takenJog]

variable {i : Side} (hi : Side.ofNat? out.toNat = some i) {s : State}
include hi

theorem jog_badCommand (hc : s16 a b < -1000 ∨ 1000 < s16 a b) : jog [out, a, b, c, d] s = (s, replyField 1) := by
  rw [jog_output hi, if_pos hc]

variable (low : -1000 ≤ s16 a b) (high : s16 a b ≤ 1000)
include low high

theorem jog_badTime (ht : u16 c d < 50 ∨ 5000 < u16 c d) : jog [out, a, b, c, d] s = (s, replyField 2) := by
  rw [jog_output hi, if_neg (by omega), if_pos ht]

variable (short : 50 ≤ u16 c d) (long : u16 c d ≤ 5000)
include short long

theorem jog_mode (hs : s.csc.state ≠ .ready) : jog [out, a, b, c, d] s = (s, replyMode) := by
  rw [jog_output hi, if_neg (by omega), if_neg (by omega), if_pos hs]

theorem jog_taken (hs : s.csc.state = .ready) :
    jog [out, a, b, c, d] s = (takenJog i (s16 a b) (u16 c d) s, replyOk []) := by
  rw [jog_output hi, if_neg (by omega), if_neg (by omega), if_neg (not_not.2 hs)]

end

theorem Leg.jogDue_iff (l : Leg) : l.jogDue = true ↔ l.owner = .jog ∧ l.jogLeft ≤ 1 := by
  simp [Leg.jogDue, expiryDue]

theorem endJog_due {side : Side} {s : State} (ho : (s.vos.legs.get side).owner = .jog)
    (hl : (s.vos.legs.get side).jogLeft ≤ 1) :
    endJog side s = { s with vos := { s.vos with legs := s.vos.legs.set side ⟨.none, 0, 0⟩ } } := by
  rw [endJog, if_pos ((Leg.jogDue_iff _).2 ⟨ho, hl⟩), State.mapVos, Leg.endJog, if_pos ho]

theorem endJog_undue {side : Side} {s : State}
    (h : (s.vos.legs.get side).owner ≠ .jog ∨ 1 < (s.vos.legs.get side).jogLeft) : endJog side s = s := by
  refine if_neg fun due => ?_
  obtain ⟨owner, short⟩ := (Leg.jogDue_iff _).1 due
  exact h.elim (· owner) (Nat.not_lt.2 short)

/-- Settles O31: a JOG by the first of its checks that fails, its end by whether its last millisecond runs. -/
theorem jogRunsAndEnds : Obligations.JogRunsAndEnds := by
  intro s
  refine ⟨fun tag a b c d e hfree => ?_, fun side hs => ?_⟩
  · have runs {w : State} {r : Reply} (hf : jog [a, b, c, d, e] (heard s) = (w, r)) :
        exec (.jog tag [a, b, c, d, e]) s = .next (answered 0x34#8 tag r w) := by
      have run := takeRequest_good (k := .jog) (tag := tag) (payload := [a, b, c, d, e]) rfl rfl hfree.1 (.inl hfree.2)
      rw [hf] at run
      exact run
    refine ⟨fun big => runs (jog_noOutput big _), fun small hc => ?_, fun small low high ht => ?_,
      fun small low high short long => ⟨fun hm => ?_, fun hr => ⟨fun zero => ?_, fun one => ?_⟩⟩⟩
    · obtain ⟨i, hi⟩ := Side.exists_ofNat? small
      exact runs (jog_badCommand hi hc)
    · obtain ⟨i, hi⟩ := Side.exists_ofNat? small
      exact runs (jog_badTime hi low high ht)
    · obtain ⟨i, hi⟩ := Side.exists_ofNat? small
      exact runs (jog_mode hi low high short long hm)
    · have left : Side.ofNat? a.toNat = some .left := congrArg Side.ofNat? zero
      rw [runs (jog_taken left low high short long hr), takenJog_heard]
      rfl
    · have right : Side.ofNat? a.toNat = some .right := congrArg Side.ofNat? one
      rw [runs (jog_taken right low high short long hr), takenJog_heard]
      rfl
  · have expiry : exec (.jogExpiry side) s = .next (arbitrate (endJog side s)) := act_free _ hs
    dsimp only
    rw [expiry]
    exact ⟨fun ho hl => by rw [endJog_due ho hl], fun h => by rw [endJog_undue h]⟩

end Sys2Proof.Machine

namespace Sys2Proof.Machine

/-! ### Event sources and the notice slot (R209, R210) -/

/-- A latch of a source that is pending changes nothing. -/
theorem latch_pending_already {i : Nat} {s : State} (h : marked s.li.events.pending i = true) : latch i s = s := by
  simp [latch, h]

/-- R210: the transition from not pending, which fills the notice slot of a source routed NOTICE. -/
theorem latch_transition {i : Nat} {s : State} (h : marked s.li.events.pending i = false) :
    latch i s = { s with li := { s.li with
      events := { s.li.events with pending := s.li.events.pending ||| markBit i },
      notice := s.li.notice || marked s.li.events.route i } } := by
  simp [latch, h, State.mapLi]

theorem raise_idle {e : EventSrc} {s : State}
    (h : marked s.li.events.enable e.id = false ∨ marked s.li.events.pending e.id = true) : raise e s = s := by
  unfold raise
  split
  · rename_i on
    exact latch_pending_already (h.resolve_left (by simp [on]))
  · rfl

theorem raise_enabled {e : EventSrc} {s : State} (h : marked s.li.events.enable e.id = true) :
    raise e s = latch e.id s := by simp [raise, h]

/-- A level source whose condition is written and which does not become pending. -/
theorem setCond_silent {e : EventSrc} {b : Bool} {s : State}
    (h : b = false ∨ marked s.li.events.enable e.id = false ∨ marked s.li.events.pending e.id = true) :
    setCond e b s = { s with li := { s.li with
      events := { s.li.events with cond := setMark s.li.events.cond e.id b } } } := by
  unfold setCond
  dsimp only
  split
  · rename_i on
    rw [Bool.and_eq_true] at on
    refine latch_pending_already ?_
    exact (h.resolve_left (by simp [on.1])).resolve_left (by simp [on.2])
  · rfl

/-- R209: an enabled level source latches as its condition is found true. -/
theorem setCond_enabled {e : EventSrc} {s : State} (h : marked s.li.events.enable e.id = true) :
    setCond e true s = latch e.id { s with li := { s.li with
      events := { s.li.events with cond := s.li.events.cond ||| markBit e.id } } } := by
  simp [setCond, h, setMark, State.mapLi]

/-- Settles O33, from what a latch does to a source that is pending and to one that is not. -/
theorem eventsLatch : Obligations.EventsLatch := by
  intro e s
  refine ⟨fun h => raise_idle h, fun on clear => ?_, setCond_silent (.inl rfl), fun h => setCond_silent (.inr h),
    fun on clear => ?_⟩
  · rw [raise_enabled on, latch_transition clear]
    rfl
  · rw [setCond_enabled on, latch_transition (by exact clear)]
    rfl

end Sys2Proof.Machine

namespace Sys2Proof.Machine

/-! ### EVENT_ROUTE and EVENT_ACK (R211, R212) -/

/-- The level sources of the event table, one by one. -/
theorem marked_levelSources {i : Nat} (h : i < 25) :
    marked levelSources i = decide (i ∈ [0, 1, 2, 3, 4, 7, 16, 17, 19, 20, 23]) := by
  revert i; decide

/-- A byte that carries a switch is on exactly as its number is 1. -/
theorem toNat_beq_one (b : Byte) : (b.toNat == 1) = (b == 1#8) := by
  rw [Bool.eq_iff_iff]
  simp [← BitVec.toNat_inj]

/-- The part with the enable and route of a source written. -/
def routed (i : Nat) (enable route : Bool) (s : State) : State :=
  { s with li := { s.li with events := { s.li.events with
      enable := setMark s.li.events.enable i enable, route := setMark s.li.events.route i route } } }

/-- R212: the sources that a written enable latches at once. -/
def RouteLatches (i : Nat) (enable : Bool) (s : State) : Prop :=
  enable = true ∧ marked levelSources i = true ∧ marked s.li.events.cond i = true ∧
    marked s.li.events.pending i = false

theorem writeRoute_silent {i : Nat} {enable : Bool} (route : Bool) {s : State} (h : ¬RouteLatches i enable s) :
    writeRoute i enable route s = routed i enable route s := by
  unfold writeRoute
  dsimp only
  split
  · rename_i on
    simp only [Bool.and_eq_true] at on
    obtain ⟨⟨he, hl⟩, hc⟩ := on
    refine latch_pending_already ?_
    by_contra hp
    exact h ⟨he, hl, hc, Bool.eq_false_iff.2 hp⟩
  · rfl

theorem writeRoute_latches {i : Nat} {enable : Bool} (route : Bool) {s : State} (h : RouteLatches i enable s) :
    writeRoute i enable route s = latch i (routed i enable route s) := by
  obtain ⟨he, hl, hc, _⟩ := h
  unfold writeRoute
  dsimp only
  rw [if_pos (by simp [he, hl, hc])]
  rfl

section
variable {n en ro : Byte} (s : State)

theorem eventRoute_badSource (h : 24 < n.toNat) : eventRoute [n, en, ro] s = (s, [0x12#8, 0#8]) := by
  have : ¬n.toNat < 25 := by omega
  simp [eventRoute, firstBad, this, replyField]

theorem eventRoute_badEnable (hn : n.toNat ≤ 24) (h : 1 < en.toNat) :
    eventRoute [n, en, ro] s = (s, [0x12#8, 1#8]) := by
  have : n.toNat < 25 := by omega
  have : ¬en.toNat ≤ 1 := by omega
  simp [eventRoute, firstBad, *, replyField]

theorem eventRoute_badRoute (hn : n.toNat ≤ 24) (he : en.toNat ≤ 1) (h : 1 < ro.toNat) :
    eventRoute [n, en, ro] s = (s, [0x12#8, 2#8]) := by
  have : n.toNat < 25 := by omega
  have : ¬ro.toNat ≤ 1 := by omega
  simp [eventRoute, firstBad, *, replyField]

theorem eventRoute_written (hn : n.toNat ≤ 24) (he : en.toNat ≤ 1) (hr : ro.toNat ≤ 1) :
    eventRoute [n, en, ro] s = (writeRoute n.toNat (en == 1#8) (ro == 1#8) s, [0x00#8]) := by
  have : n.toNat < 25 := by omega
  simp [eventRoute, firstBad, *, replyOk, toNat_beq_one]

end

/-- R211: what an acknowledgement leaves pending, source by source. -/
theorem acknowledge_pending (mask : Nat) (e : Events) {i : Nat} (h : i < 25) :
    (acknowledge (BitVec.ofNat 25 mask) e).pending.getLsbD i =
      if mask.testBit i then decide (i ∈ [0, 1, 2, 3, 4, 7, 16, 17, 19, 20, 23]) && e.enable.getLsbD i && e.cond.getLsbD i
      else e.pending.getLsbD i := by
  rw [← marked_levelSources h]
  unfold acknowledge marked
  simp only [BitVec.getLsbD_or, BitVec.getLsbD_and, BitVec.getLsbD_not, BitVec.getLsbD_ofNat, h, decide_true,
    Bool.true_and]
  cases mask.testBit i
  · simp
  · simp [Bool.and_comm, Bool.and_left_comm]

/-- Settles O57, from the checks of EVENT_ROUTE in order and from what an acknowledgement leaves of each source. -/
theorem eventTableRequests : Obligations.EventTableRequests := by
  intro tag s listening
  refine ⟨fun n en ro free => ?_, fun a b c d => ?_⟩
  · have run : exec (.eventRoute tag [n, en, ro]) s
        = .next (answered 0x50#8 tag (eventRoute [n, en, ro] (heard s)).2 (eventRoute [n, en, ro] (heard s)).1) :=
      takeRequest_good (k := .eventRoute) rfl rfl listening (.inl free)
    dsimp only
    refine ⟨fun h => ?_, fun hn h => ?_, fun hn he h => ?_, fun hn he hr => ?_⟩
    · rw [run, eventRoute_badSource _ h]
    · rw [run, eventRoute_badEnable _ hn h]
    · rw [run, eventRoute_badRoute _ hn he h]
    · have latches : RouteLatches n.toNat (en == 1#8) (heard s) ↔
          en = 1#8 ∧ n.toNat ∈ [0, 1, 2, 3, 4, 7, 16, 17, 19, 20, 23] ∧ s.li.events.cond.getLsbD n.toNat = true ∧
            s.li.events.pending.getLsbD n.toNat = false := by
        unfold RouteLatches
        rw [marked_levelSources (by omega), decide_eq_true_iff, beq_iff_eq]
        rfl
      rw [run, eventRoute_written _ hn he hr, ← latches]
      refine ⟨fun h => ?_, fun h => ?_⟩
      · rw [writeRoute_silent _ h]
        rfl
      · rw [writeRoute_latches _ h, latch_transition (by exact h.2.2.2)]
        have on : marked (setMark s.li.events.route n.toNat (ro == 1#8)) n.toNat = (ro == 1#8) := by
          rw [marked_setMark _ _ _ _ (by omega), if_pos rfl]
        simp only [routed, heard_li, on]
        rfl
  · exact ⟨acknowledge (BitVec.ofNat 25 (u32 a b c d)) s.li.events, rfl, fun i h => acknowledge_pending _ _ h,
      takeRequest_good (k := .eventAck) rfl rfl listening (.inr rfl)⟩

end Sys2Proof.Machine

namespace Sys2Proof.Machine

/-! ### Every block after a reset (R116, R196, R202) -/

/-- R116: the width by the two straps. -/
theorem strapWidth_eq (p : Straps) : strapWidth p =
    if p.cfg1 then (if p.cfg0 then 2200 else 2000) else if p.cfg0 then 1500 else 1000 := by
  unfold strapWidth
  cases p.cfg1 <;> cases p.cfg0 <;> rfl

/-- R209: the sources pending at the end of a reset, PLAN_LOW and, with the pin asserted, STOP_ACTIVE. -/
def resetMarks (stop : Bool) : EventWord := if stop then 0x20080#25 else 0x80#25

/-- The part at its values after reset, with these levels in the strap latch. -/
def restored (p : Straps) (s : State) : State :=
  { State.reset with
    pins := { s.pins with resetHeld := false }, pending := s.pending, cfg := strapRecords p,
    li := { State.reset.li with
            straps := p,
            events := { State.reset.li.events with pending := resetMarks s.pins.stop,
                                                   cond := resetMarks s.pins.stop } } }

theorem resetBlocks_eq (p : Straps) (s : State) : resetBlocks p s = restored p s := by
  have enabled : marked State.reset.li.events.enable EventSrc.stopActive.id = true := rfl
  have unmarked : marked State.reset.li.events.pending EventSrc.stopActive.id = false := rfl
  have cleared : setMark State.reset.li.events.cond EventSrc.stopActive.id false = resetMarks false := rfl
  have set : State.reset.li.events.cond ||| markBit EventSrc.stopActive.id = resetMarks true := rfl
  have latched : State.reset.li.events.pending ||| markBit EventSrc.stopActive.id = resetMarks true := rfl
  have unrouted : marked State.reset.li.events.route EventSrc.stopActive.id = false := rfl
  unfold resetBlocks restored
  cases s.pins.stop with
  | false =>
    dsimp only
    rw [setCond_silent (.inl rfl)]
    simp only [cleared]
    rfl
  | true =>
    dsimp only
    rw [setCond_enabled (by exact enabled), latch_transition (by exact unmarked)]
    simp only [set, latched, unrouted]
    rfl

/-- Nothing waits for the line after a reset. -/
theorem arbitrate_restored (p : Straps) (s : State) : arbitrate (restored p s) = restored p s := rfl

theorem restartDue_of {s : State} (h : s.li.restarting = true) {x : Telegram} (hx : s.li.sending = some x)
    (hk : x.kind = 0x83#8) (hp : x.payload = [0x00#8]) : restartDue s = true ∧ isRestartReply x = true := by
  simp [restartDue, isRestartReply, h, hx, hk, hp]

theorem exec_restartReset_due {s : State} (held : s.pins.resetHeld = false) (due : restartDue s = true) :
    exec .restartReset s = .next (restored s.li.straps s) := by
  refine (act_free (fun t => if restartDue t then restartReset t else t) held).trans ?_
  rw [if_pos due, restartReset, resetBlocks_eq, arbitrate_restored]

theorem exec_restartReset_idle {s : State} (held : s.pins.resetHeld = false) (due : restartDue s = false) :
    exec .restartReset s = .next (arbitrate s) := by
  refine (act_free (fun t => if restartDue t then restartReset t else t) held).trans ?_
  rw [if_neg (by simp [due])]

/-- R202: the end of the RESTART reply carries out the reset. -/
theorem endTransmission_restarts {s : State} (h : s.li.restarting = true) {x : Telegram}
    (hx : s.li.sending = some x) (reply : isRestartReply x = true) :
    endTransmission s = restored s.li.straps s := by
  simp [endTransmission, hx, h, reply, restartReset, resetBlocks_eq]

/-- Settles O5: each way into a reset ends in the same restored part, on which the arbiter finds nothing to send. -/
theorem resetsRestoreEveryBlock : Obligations.ResetsRestoreEveryBlock := by
  intro p s
  dsimp only
  simp only [← strapWidth_eq]
  refine ⟨congrArg Host.Outcome.next (resetBlocks_eq _ _), fun held restarting x hx hk hp => ?_,
    fun held restarting => exec_restartReset_idle held (by simp [restartDue, restarting])⟩
  obtain ⟨due, reply⟩ := restartDue_of restarting hx hk hp
  have pins : { s.pins with resetHeld := false } = s.pins := by rw [← held]
  have fresh : restored s.li.straps s = { restored s.li.straps s with pins := s.pins } :=
    congrArg (fun q => { restored s.li.straps s with pins := q }) pins
  constructor
  · rw [exec_restartReset_due held due, fresh]
    rfl
  · refine (act_free endTransmission held).trans ?_
    rw [endTransmission_restarts restarting hx reply, arbitrate_restored, fresh]
    rfl

end Sys2Proof.Machine

namespace Sys2Proof.Machine

/-! ### Fields of a byte sequence (R199) -/

/-- The n bytes at an offset carry a number, low byte first. -/
def Carries (c : List Byte) (offset n v : Nat) : Prop := (c.drop offset).take n = le n v

/-- The bytes of fields one after another, each a width and a number. -/
def fieldBytes (fields : List (Nat × Nat)) : List Byte := fields.flatMap fun f => le f.1 f.2

/-- Where field k begins. -/
def fieldOffset (fields : List (Nat × Nat)) (k : Nat) : Nat := ((fields.map Prod.fst).take k).sum

theorem fieldBytes_length (fields : List (Nat × Nat)) : (fieldBytes fields).length = (fields.map Prod.fst).sum := by
  simp [fieldBytes, List.length_flatMap]

/-- Each field stands at its offset. -/
theorem fieldBytes_carries {fields : List (Nat × Nat)} {k n v : Nat} (h : fields[k]? = some (n, v)) :
    Carries (fieldBytes fields) (fieldOffset fields k) n v := by
  obtain ⟨hk, hf⟩ := List.getElem?_eq_some_iff.1 h
  have split : fieldBytes fields = fieldBytes (fields.take k) ++ (le n v ++ fieldBytes (fields.drop (k + 1))) := by
    conv_lhs => rw [← List.take_append_drop k fields, List.drop_eq_getElem_cons hk, hf]
    simp [fieldBytes]
  unfold Carries fieldOffset
  rw [split, ← List.map_take, ← fieldBytes_length, List.drop_left, List.take_left' (le_length n v)]

section
variable {c : List Byte} {o v : Nat}

theorem Carries.getD {n i : Nat} (h : Carries c o n v) (hi : i < n) : c.getD (o + i) 0#8 = (le n v).getD i 0#8 := by
  rw [← h]
  simp [List.getD_eq_getElem?_getD, hi]

theorem Carries.first {n : Nat} (h : Carries c o (n + 1) v) : c.getD o 0#8 = BitVec.ofNat 8 v :=
  h.getD (i := 0) (by omega)

theorem Carries.two (h : Carries c o 2 v) : u16 (c.getD o 0#8) (c.getD (o + 1) 0#8) = v % 65536 := by
  rw [h.first, h.getD (i := 1) (by omega)]
  exact u16_le v

theorem Carries.signed {x : Int} (h : Carries c o 2 (x % 65536).toNat) (h1 : -32768 ≤ x) (h2 : x ≤ 32767) :
    s16 (c.getD o 0#8) (c.getD (o + 1) 0#8) = x := by
  rw [h.first, h.getD (i := 1) (by omega)]
  exact s16_leInt h1 h2

theorem Carries.three (h : Carries c o 3 v) :
    u16 (c.getD o 0#8) (c.getD (o + 1) 0#8) + 65536 * (c.getD (o + 2) 0#8).toNat = v % 16777216 := by
  rw [h.first, h.getD (i := 1) (by omega), h.getD (i := 2) (by omega)]
  change u16 (BitVec.ofNat 8 v) (BitVec.ofNat 8 (v / 256)) + 65536 * (BitVec.ofNat 8 (v / 256 / 256)).toNat = _
  simp only [u16, BitVec.toNat_ofNat]
  omega

theorem Carries.four (h : Carries c o 4 v) :
    u32 (c.getD o 0#8) (c.getD (o + 1) 0#8) (c.getD (o + 2) 0#8) (c.getD (o + 3) 0#8) = v % 4294967296 := by
  rw [h.first, h.getD (i := 1) (by omega), h.getD (i := 2) (by omega), h.getD (i := 3) (by omega)]
  exact u32_le v

end

/-! ### The status content, field by field (R213) -/

/-- The number that the event and flag word carries. -/
def eventNumber (s : State) : Nat :=
  s.li.events.pending.toNat + 33554432 * s.pins.stop.toNat + 67108864 * s.csc.commissioned.toNat
    + 134217728 * s.li.dropped.toNat + 268435456 * causeCode s.csc.cause

theorem causeCode_le (c : Option HoldCause) : causeCode c ≤ 8 := by
  rcases c with _ | c
  · decide
  · cases c <;> decide

theorem eventNumber_lt (s : State) : eventNumber s < 4294967296 := by
  have := s.li.events.pending.isLt
  have := causeCode_le s.csc.cause
  have := s.pins.stop.toNat_lt
  have := s.csc.commissioned.toNat_lt
  have := s.li.dropped.toNat_lt
  unfold eventNumber
  omega

/-- A signed value in two bytes. -/
def signedField (x : Int) : Nat × Nat := (2, (x % 65536).toNat)

/-- The word of a side's target and reference state: 4095 stands for no target. -/
def targetNumber (s : State) (i : Side) : Nat :=
  (match targets s with
    | none => 4095
    | some t => (t.get i).toNat) + 4096 * (s.sru.sides.get i).ref.statusCode

/-- The fields of one side. -/
def sideFieldsOf (s : State) (i : Side) : List (Nat × Nat) :=
  [(2, targetNumber s i), signedField (s.dlu.get i).sp, signedField (s.sru.sides.get i).depth,
   signedField (s.vos.legs.get i).held]

/-- The number and the delivered total of the current truck, 0 without one. -/
def truckNumbers (t : Option Truck) : Nat × Nat :=
  match t with
  | none => (0, 0)
  | some x => (x.number, x.delivered)

/-- The word of the ceiling, its reason and the cut state. -/
def ceilingNumber (s : State) : Nat := ceiling s + 1024 * (ceilingReason s).code + 8192 * s.csc.state.code

/-- The word of the load index, the class, the belt mode and the truck slots. -/
def loadNumber (s : State) : Nat :=
  s.dlm.load + 1024 * s.dlm.material.code + 2048 * s.btq.mode.code + 8192 * currentCode s.tlu.current
    + 32768 * s.tlu.next.isSome.toNat

/-- R213: the fields of the status content, each with its width. -/
def statusFields (s : State) : List (Nat × Nat) :=
  [(1, 0), (2, ceilingNumber s), (2, loadNumber s), (4, s.pcu.station), (4, s.pcu.high),
   signedField s.pcu.travelSpeed] ++ sideFieldsOf s .left ++ sideFieldsOf s .right ++
  [(2, s.pcu.beltSpeed), (2, intakeVolume s.btq.segs), (3, beltHolding s.btq.segs),
   (2, (truckNumbers s.tlu.current).1), (4, (truckNumbers s.tlu.current).2), (4, s.btq.intakeTotal),
   (4, s.btq.lostTotal), (4, s.tlu.closedTotal), (4, eventNumber s)]

theorem eventWord_eq (s : State) : eventWord s = le 4 (eventNumber s) := rfl

theorem le_one (v : Nat) : le 1 v = [BitVec.ofNat 8 v] := rfl

theorem leInt_two_eq (x : Int) : leInt 2 x = le 2 (x % 65536).toNat := rfl

theorem sideStatus_eq (s : State) (i : Side) : sideStatus s i = fieldBytes (sideFieldsOf s i) := by
  simp only [sideStatus, fieldBytes, sideFieldsOf, signedField, targetNumber, leInt_two_eq, List.flatMap_cons,
    List.flatMap_nil, List.append_nil, List.append_assoc] <;> rfl

theorem statusContent_eq (s : State) : statusContent s = fieldBytes (statusFields s) := by
  unfold statusContent
  simp only [sideStatus_eq, eventWord_eq, fieldBytes, statusFields, signedField, leInt_two_eq, le_one,
    List.flatMap_append, List.flatMap_cons, List.flatMap_nil, List.nil_append, List.append_nil, List.append_assoc,
    List.cons_append, truckNumbers, ceilingNumber, loadNumber] <;> cases s.tlu.current <;> rfl

/-- The widths of the fields. -/
theorem statusFields_widths (s : State) : (statusFields s).map Prod.fst =
    [1, 2, 2, 4, 4, 2, 2, 2, 2, 2, 2, 2, 2, 2, 2, 2, 3, 2, 4, 4, 4, 4, 4] := rfl

theorem statusContent_length (s : State) : (statusContent s).length = 60 := by
  rw [statusContent_eq, fieldBytes_length, statusFields_widths]
  rfl

/-- Each field stands at its offset of the status content. -/
theorem statusContent_carries (s : State) (k : Nat) {o n v : Nat} (h : (statusFields s)[k]? = some (n, v))
    (ho : ([1, 2, 2, 4, 4, 2, 2, 2, 2, 2, 2, 2, 2, 2, 2, 2, 3, 2, 4, 4, 4, 4, 4].take k).sum = o) :
    Carries (statusContent s) o n v := by
  rw [statusContent_eq, ← ho, ← statusFields_widths s]
  exact fieldBytes_carries h

/-- R200: bit 3 of the last byte is the REQUEST_DROPPED flag. -/
theorem statusContent_dropped (s : State) : ((statusContent s).getD 59 0#8).getLsbD 3 = s.li.dropped := by
  have field : Carries (statusContent s) 56 4 (eventNumber s) := statusContent_carries s 22 rfl rfl
  have last : (statusContent s).getD 59 0#8 = BitVec.ofNat 8 (eventNumber s / 256 / 256 / 256) :=
    field.getD (i := 3) (by omega)
  have := s.li.events.pending.isLt
  have := s.pins.stop.toNat_lt
  have := s.csc.commissioned.toNat_lt
  rw [last, BitVec.getLsbD_ofNat, Nat.testBit_eq_decide_div_mod_eq]
  unfold eventNumber
  cases s.li.dropped <;> simp <;> omega

end Sys2Proof.Machine

namespace Sys2Proof.Machine

/-! ### What the status words hold apart (R213) -/

theorem CeilingReason.code_le (r : CeilingReason) : r.code ≤ 5 := by cases r <;> decide
theorem CutState.code_le (c : CutState) : c.code ≤ 6 := by cases c <;> decide
theorem BeltMode.code_le (m : BeltMode) : m.code ≤ 2 := by cases m <;> decide
theorem RefState.statusCode_le (r : RefState) : r.statusCode ≤ 2 := by cases r <;> decide

theorem Material.code_eq (m : Material) : m.code = if m = .hard then 1 else 0 := by cases m <;> rfl

theorem currentCode_eq (t : Option Truck) : currentCode t =
    match t with
    | none => 0
    | some x => if x.state = .loading then 1 else 2 := by
  rcases t with _ | x
  · rfl
  · unfold currentCode
    dsimp only
    cases x.state <;> rfl

theorem currentCode_le (t : Option Truck) : currentCode t ≤ 2 := by
  rcases t with _ | x
  · decide
  · unfold currentCode
    dsimp only
    cases x.state <;> decide

/-- R213: the ceiling word, cut apart. -/
theorem ceilingNumber_parts {s : State} (h : ceiling s < 1024) :
    ceilingNumber s < 65536 ∧ ceilingNumber s % 1024 = ceiling s ∧
      ceilingNumber s / 1024 % 8 = (ceilingReason s).code ∧ ceilingNumber s / 8192 = s.csc.state.code := by
  have := (ceilingReason s).code_le
  have := s.csc.state.code_le
  unfold ceilingNumber
  omega

/-- R213: the load word, cut apart. -/
theorem loadNumber_parts {s : State} (h : s.dlm.load < 1024) :
    loadNumber s < 65536 ∧ loadNumber s % 1024 = s.dlm.load ∧ loadNumber s / 1024 % 2 = s.dlm.material.code ∧
      loadNumber s / 2048 % 4 = s.btq.mode.code ∧ loadNumber s / 8192 % 4 = currentCode s.tlu.current ∧
      loadNumber s / 32768 = s.tlu.next.isSome.toNat := by
  have : s.dlm.material.code ≤ 1 := by rw [Material.code_eq]; split <;> omega
  have := s.btq.mode.code_le
  have := currentCode_le s.tlu.current
  have := s.tlu.next.isSome.toNat_lt
  unfold loadNumber
  omega

/-- R213: the target word of a side without a target. -/
theorem targetNumber_none {s : State} (i : Side) (h : targets s = none) :
    targetNumber s i < 65536 ∧ targetNumber s i % 4096 = 4095 ∧
      targetNumber s i / 4096 = (s.sru.sides.get i).ref.statusCode := by
  have := (s.sru.sides.get i).ref.statusCode_le
  unfold targetNumber
  rw [h]
  dsimp only
  omega

/-- R213: the target word of a side with a target. -/
theorem targetNumber_some {s : State} (i : Side) {t : Sides Int} (h : targets s = some t) (h0 : 0 ≤ t.get i)
    (h1 : t.get i ≤ 4094) :
    targetNumber s i < 65536 ∧ (targetNumber s i % 4096 : Nat) = t.get i ∧
      targetNumber s i / 4096 = (s.sru.sides.get i).ref.statusCode := by
  have := (s.sru.sides.get i).ref.statusCode_le
  unfold targetNumber
  rw [h]
  dsimp only
  obtain ⟨n, hn⟩ := Int.eq_ofNat_of_zero_le h0
  rw [hn] at h1 ⊢
  rw [Int.toNat_natCast]
  omega

/-- R213: the eight bytes of a side at an offset carry its target and reference state, setpoint, measured depth and held
command. -/
structure SideCarried (s : State) (c : List Byte) (o : Nat) (i : Side) : Prop where
  target : Carries c o 2 (targetNumber s i)
  setpoint : Carries c (o + 2) 2 ((s.dlu.get i).sp % 65536).toNat
  depth : Carries c (o + 4) 2 ((s.sru.sides.get i).depth % 65536).toNat
  held : Carries c (o + 6) 2 ((s.vos.legs.get i).held % 65536).toNat

theorem statusContent_left (s : State) : SideCarried s (statusContent s) 15 .left where
  target := statusContent_carries s 6 rfl rfl
  setpoint := statusContent_carries s 7 rfl rfl
  depth := statusContent_carries s 8 rfl rfl
  held := statusContent_carries s 9 rfl rfl

theorem statusContent_right (s : State) : SideCarried s (statusContent s) 23 .right where
  target := statusContent_carries s 10 rfl rfl
  setpoint := statusContent_carries s 11 rfl rfl
  depth := statusContent_carries s 12 rfl rfl
  held := statusContent_carries s 13 rfl rfl

theorem Carries.two_of_lt {c : List Byte} {o v : Nat} (h : Carries c o 2 v) (hv : v < 65536) :
    u16 (c.getD o 0#8) (c.getD (o + 1) 0#8) = v := by rw [h.two, Nat.mod_eq_of_lt hv]

theorem Carries.four_of_lt {c : List Byte} {o v : Nat} (h : Carries c o 4 v) (hv : v < 4294967296) :
    u32 (c.getD o 0#8) (c.getD (o + 1) 0#8) (c.getD (o + 2) 0#8) (c.getD (o + 3) 0#8) = v := by
  rw [h.four, Nat.mod_eq_of_lt hv]

/-- Settles O35: each field of the status content stands at its offset, and its word is cut apart by the bounds of its
parts. -/
theorem statusContentCarriesState : Obligations.StatusContentCarriesState := by
  intro s c byte two four signed side
  have sides {o : Nat} {i : Side} (h : SideCarried s c o i) : side o i := by
    refine ⟨fun ht => ?_, fun t ht h0 h1 => ?_, h.setpoint.signed, h.depth.signed, h.held.signed⟩
    · obtain ⟨bound, low, high⟩ := targetNumber_none i ht
      have word : two o = targetNumber s i := h.target.two_of_lt bound
      rw [word]
      exact ⟨low, high⟩
    · obtain ⟨bound, low, high⟩ := targetNumber_some i ht h0 h1
      have word : two o = targetNumber s i := h.target.two_of_lt bound
      rw [word]
      exact ⟨low, high⟩
  have number : Carries c 38 2 (truckNumbers s.tlu.current).1 := statusContent_carries s 17 rfl rfl
  have delivered : Carries c 40 4 (truckNumbers s.tlu.current).2 := statusContent_carries s 18 rfl rfl
  refine ⟨statusContent_length s, rfl, fun h => ?_, fun h => ?_,
    (statusContent_carries s 3 rfl rfl).four_of_lt, (statusContent_carries s 4 rfl rfl).four_of_lt,
    (statusContent_carries s 5 rfl rfl).signed, sides (statusContent_left s), sides (statusContent_right s),
    (statusContent_carries s 14 rfl rfl).two_of_lt, fun g rest hg hv => ?_, fun hv => ?_, fun ht => ?_,
    fun x hx => ?_, (statusContent_carries s 19 rfl rfl).four, (statusContent_carries s 20 rfl rfl).four,
    (statusContent_carries s 21 rfl rfl).four, ?_⟩
  · obtain ⟨bound, value, reason, state⟩ := ceilingNumber_parts h
    have word : two 1 = ceilingNumber s := (statusContent_carries s 1 rfl rfl).two_of_lt bound
    rw [word]
    exact ⟨value, reason, state⟩
  · obtain ⟨bound, load, material, mode, current, next⟩ := loadNumber_parts h
    have word : two 3 = loadNumber s := (statusContent_carries s 2 rfl rfl).two_of_lt bound
    rw [word, ← Material.code_eq]
    exact ⟨load, material, mode, current.trans (currentCode_eq _), next⟩
  · have intake : intakeVolume s.btq.segs = g.vol := by rw [hg]; rfl
    have field : Carries c 33 2 (intakeVolume s.btq.segs) := statusContent_carries s 15 rfl rfl
    rw [intake] at field
    exact field.two_of_lt hv
  · have field : Carries c 35 3 (beltHolding s.btq.segs) := statusContent_carries s 16 rfl rfl
    exact field.three.trans (Nat.mod_eq_of_lt hv)
  · rw [ht] at number delivered
    exact ⟨number.two_of_lt (by decide), delivered.four_of_lt (by decide)⟩
  · rw [hx] at number delivered
    exact ⟨number.two_of_lt, delivered.four_of_lt⟩
  · exact (statusContent_carries s 22 rfl rfl).four_of_lt (eventNumber_lt s)

end Sys2Proof.Machine

namespace Sys2Proof.Machine

/-! ### The line: slots, the end of a telegram, the status period (R200, R201, R207) -/

section
variable {s : State} (free : s.li.sending = none)
include free

theorem arbitrate_reply {r : Telegram} {rest : List Telegram} (h : s.li.replies = r :: rest) :
    arbitrate s = { s with li := { s.li with sending := some r, replies := rest } } := by
  simp [arbitrate, free, h, State.mapLi]

theorem arbitrate_notice (hr : s.li.replies = []) (hn : s.li.notice = true) :
    arbitrate s = { s with li := { s.li with
      sending := some (newTelegram 0xF2#8 0x00#8 (eventWord s)), notice := false } } := by
  simp [arbitrate, free, hr, hn, State.mapLi]

theorem arbitrate_status {r : Telegram} (hr : s.li.replies = []) (hn : s.li.notice = false)
    (hs : s.li.status = some r) :
    arbitrate s = { s with li := { s.li with sending := some r, status := none } } := by
  simp [arbitrate, free, hr, hn, hs, State.mapLi]

end

/-- R200: the telegrams whose end clears REQUEST_DROPPED. -/
def ClearsDrop (t : Telegram) : Prop :=
  (t.kind = 0xF1#8 ∨ t.kind = 0x82#8) ∧ t.payload.length = 60 ∧ (t.payload.getD 59 0#8).getLsbD 3 = true ∧
    t.dropAfter = false

theorem clearsDrop_iff (t : Telegram) : (carriesDrop t && !t.dropAfter) = true ↔ ClearsDrop t := by
  simp [carriesDrop, ClearsDrop, and_assoc]

/-- R202: a telegram that is the reply OK of a RESTART. -/
theorem isRestartReply_iff (t : Telegram) : isRestartReply t = true ↔ t.kind = 0x83#8 ∧ t.payload = [0x00#8] := by
  simp [isRestartReply]

theorem endTransmission_idle {s : State} (h : s.li.sending = none) : endTransmission s = s := by
  simp [endTransmission, h]

section
variable {s : State} {t : Telegram} (sent : s.li.sending = some t)
  (running : s.li.restarting = false ∨ isRestartReply t = false)
include sent running

theorem endTransmission_frees : endTransmission s =
    { s with li := { s.li with sending := none,
                               dropped := s.li.dropped && !(carriesDrop t && !t.dropAfter) } } := by
  have goesOn : (s.li.restarting && isRestartReply t) = false := Bool.and_eq_false_iff.2 running
  simp [endTransmission, sent, goesOn, State.mapLi]

theorem endTransmission_clears (h : ClearsDrop t) :
    endTransmission s = { s with li := { s.li with sending := none, dropped := false } } := by
  rw [endTransmission_frees sent running, (clearsDrop_iff t).2 h, Bool.not_true, Bool.and_false]

theorem endTransmission_keeps (h : ¬ClearsDrop t) :
    endTransmission s = { s with li := { s.li with sending := none, dropped := s.li.dropped } } := by
  rw [endTransmission_frees sent running, Bool.eq_false_iff.2 (mt (clearsDrop_iff t).1 h), Bool.not_false, Bool.and_true]

end

theorem expireStatusPeriod_stopped {s : State} (h : s.li.statusTimer = none) : expireStatusPeriod s = s := by
  simp [expireStatusPeriod, h]

/-- R207: the status period timer acts in its last millisecond alone (log 19). -/
theorem expireStatusPeriod_running {s : State} {n : Nat} (h : s.li.statusTimer = some n) :
    expireStatusPeriod s = if n ≤ 1 then formReport s else s := by
  simp [expireStatusPeriod, h, expiryDue]

/-- Settles O34, from what the arbiter does with each slot, what the end of a telegram frees and what an expiry of the
status period places. -/
theorem slotsAreServedInOrder : Obligations.SlotsAreServedInOrder := by
  intro s notice report
  refine ⟨arbitrate_busy, fun free => ⟨fun r rest => arbitrate_reply free, arbitrate_notice free,
      fun r => arbitrate_status free, arbitrate_empty⟩,
    fun kind tag r => answered_outgoing kind tag r s, statusContent_dropped s, fun t held sent running => ?_,
    fun held idle => ?_, fun held stopped => ?_, fun n held timer => ?_⟩
  · have going : s.li.restarting = false ∨ isRestartReply t = false :=
      running.imp_right fun h => Bool.eq_false_iff.2 fun reply => by
        obtain ⟨hk, hp⟩ := (isRestartReply_iff t).1 reply
        exact h.elim (absurd hk) (absurd hp)
    have run : exec .transmitComplete s = .next (arbitrate (endTransmission s)) := act_free endTransmission held
    exact ⟨fun h => by rw [run, endTransmission_clears sent going h],
      fun h => by rw [run, endTransmission_keeps sent going h]⟩
  · exact (act_free endTransmission held).trans (by rw [endTransmission_idle idle])
  · exact (act_free expireStatusPeriod held).trans (by rw [expireStatusPeriod_stopped stopped])
  · have run : exec .statusPeriodExpiry s = .next (arbitrate (if n ≤ 1 then formReport s else s)) :=
      (act_free expireStatusPeriod held).trans (by rw [expireStatusPeriod_running timer])
    refine ⟨fun h => ?_, fun h => ?_⟩
    · rw [run, if_neg (by omega)]
    · rw [run, if_pos h]
      rfl

end Sys2Proof.Machine

namespace Sys2Proof.Machine

/-! ### Telegrams and the rows that name them (R198, R199, R203) -/

section
variable {k b : Nat} {tag : Byte} {payload rest : List Byte} {i : Instr}

theorem wholeRow_none_iff : wholeRow k tag payload = none ↔ k ∉ wholeKinds := by
  unfold wholeRow
  split <;> simp_all [wholeKinds]

/-- A row that its kind names spells the telegram of that kind. -/
theorem wholeRow_telegram (h : wholeRow k tag payload = some i) :
    i.telegram = some (BitVec.ofNat 8 k, tag, payload) ∧ i.wellFormed = payloadFits payload := by
  unfold wholeRow at h
  split at h <;> cases h <;> exact ⟨rfl, rfl⟩

theorem configSetRow_telegram (h : configSetRow b tag rest = some i) :
    i.telegram = some (0x10#8, tag, BitVec.ofNat 8 b :: rest) ∧ i.wellFormed = restFits rest := by
  unfold configSetRow at h
  split at h <;> cases h <;> exact ⟨rfl, rfl⟩

theorem configGetRow_telegram (h : configGetRow b tag rest = some i) :
    i.telegram = some (0x11#8, tag, BitVec.ofNat 8 b :: rest) ∧ i.wellFormed = restFits rest := by
  unfold configGetRow at h
  split at h <;> cases h <;> exact ⟨rfl, rfl⟩

/-- A row that its kind and first byte name spells the telegram of both. -/
theorem firstByteRow_telegram (h : firstByteRow k b tag rest = some i) :
    i.telegram = some (BitVec.ofNat 8 k, tag, BitVec.ofNat 8 b :: rest) ∧ i.wellFormed = restFits rest := by
  unfold firstByteRow at h
  split at h
  · exact configSetRow_telegram h
  · exact configGetRow_telegram h
  all_goals cases h
  all_goals exact ⟨rfl, rfl⟩

theorem configSetRow_none_iff : configSetRow b tag rest = none ↔ b = 0 ∨ 9 < b := by
  match b with
  | 0 | 1 | 2 | 3 | 4 | 5 | 6 | 7 | 8 | 9 => simp [configSetRow]
  | n + 10 => simp [configSetRow]

theorem configGetRow_none_iff : configGetRow b tag rest = none ↔ b = 0 ∨ 9 < b := by
  match b with
  | 0 | 1 | 2 | 3 | 4 | 5 | 6 | 7 | 8 | 9 => simp [configGetRow]
  | n + 10 => simp [configGetRow]

/-- Whether a kind and a first byte together name a row. -/
def NamedByFirst (k b : Nat) : Prop :=
  (k = 0x10 ∨ k = 0x11) ∧ 1 ≤ b ∧ b ≤ 9 ∨ (k = 0x22 ∨ k = 0x32 ∨ k = 0x38) ∧ b ≤ 1

theorem firstByteRow_none_iff : firstByteRow k b tag rest = none ↔ ¬NamedByFirst k b := by
  unfold firstByteRow NamedByFirst
  split
  · rw [configSetRow_none_iff]; omega
  · rw [configGetRow_none_iff]; omega
  all_goals grind

end

theorem namedByRow_nil (kind : Byte) : namedByRow kind [] = false ↔ kind.toNat ∉ wholeKinds := by
  simp [namedByRow]

theorem namedByRow_cons (kind b : Byte) (rest : List Byte) :
    namedByRow kind (b :: rest) = false ↔ kind.toNat ∉ wholeKinds ∧ ¬NamedByFirst kind.toNat b.toNat := by
  rw [← Bool.not_eq_true]
  simp [namedByRow, NamedByFirst]
  tauto

/-- R198: a telegram is one of a kind that a row names, one that a row names by its first byte too, or unknown. -/
inductive TelegramCase (kind tag : Byte) (payload : List Byte) : Instr → Prop where
  | whole {i : Instr} (h : wholeRow kind.toNat tag payload = some i) : TelegramCase kind tag payload i
  | first {b : Byte} {rest : List Byte} {i : Instr} (hp : payload = b :: rest)
      (h : firstByteRow kind.toNat b.toNat tag rest = some i) : TelegramCase kind tag payload i
  | unknown (h : namedByRow kind payload = false) : TelegramCase kind tag payload (.unknownRequest kind tag payload)

theorem decodeTelegram_case (kind tag : Byte) (payload : List Byte) :
    TelegramCase kind tag payload (decodeTelegram kind tag payload) := by
  unfold decodeTelegram
  cases hw : wholeRow kind.toNat tag payload with
  | some i => exact .whole hw
  | none =>
    have unlisted := wholeRow_none_iff.1 hw
    cases payload with
    | nil => exact .unknown ((namedByRow_nil kind).2 unlisted)
    | cons b rest =>
      dsimp only
      cases hf : firstByteRow kind.toNat b.toNat tag rest with
      | some i => exact .first rfl hf
      | none => exact .unknown ((namedByRow_cons kind b rest).2 ⟨unlisted, firstByteRow_none_iff.1 hf⟩)

/-- A telegram that no other row names is the unknown request. -/
theorem decodeTelegram_unnamed {kind tag : Byte} {payload : List Byte} (h : namedByRow kind payload = false) :
    decodeTelegram kind tag payload = .unknownRequest kind tag payload := by
  unfold decodeTelegram
  cases payload with
  | nil =>
    rw [wholeRow_none_iff.2 ((namedByRow_nil kind).1 h)]
  | cons b rest =>
    obtain ⟨unlisted, unnamed⟩ := (namedByRow_cons kind b rest).1 h
    rw [wholeRow_none_iff.2 unlisted]
    dsimp only
    rw [firstByteRow_none_iff.2 unnamed, Option.getD_none]

/-- Decoding the telegram of a request command gives the command back. -/
theorem decodeTelegram_telegram {i : Instr} {kind tag : Byte} {payload : List Byte} (fits : i.wellFormed = true)
    (h : i.telegram = some (kind, tag, payload)) : decodeTelegram kind tag payload = i := by
  cases i with
  | unknownRequest k t p =>
    cases h
    exact decodeTelegram_unnamed (by simpa using (Bool.and_eq_true_iff.1 fits).2)
  | _ =>
    cases h <;> rfl

/-- Settles O38: each row spells the telegram that decodes to it, by the three ways a telegram names its row. -/
theorem telegramDecodesToItsCommand : Obligations.TelegramDecodesToItsCommand := by
  refine ⟨fun i kind tag payload fits h => decodeTelegram_telegram fits h, fun kind tag payload short => ?_⟩
  have payloadShort : payloadFits payload = true := decide_eq_true short
  have named := decodeTelegram_case kind tag payload
  generalize decodeTelegram kind tag payload = i at named ⊢
  cases named with
  | whole h =>
    obtain ⟨spelled, fits⟩ := wholeRow_telegram h
    exact ⟨by simpa using spelled, fits.trans payloadShort⟩
  | first hp h =>
    obtain ⟨spelled, fits⟩ := firstByteRow_telegram h
    subst hp
    refine ⟨by simpa using spelled, fits.trans (decide_eq_true ?_)⟩
    exact Nat.le_of_succ_le_succ short
  | unknown h => exact ⟨rfl, by simp [Instr.wellFormed, payloadShort, h]⟩

end Sys2Proof.Machine

namespace Sys2Proof.Machine

/-! ### A telegram is taken by its kind's form (R197, R198) -/

section
variable {k b : Nat} {tag : Byte} {payload rest : List Byte} {i : Instr} (s : State)

theorem wholeRow_exec (h : wholeRow k tag payload = some i) :
    exec i s = act (takeTelegram (BitVec.ofNat 8 k) tag (requestForm (BitVec.ofNat 8 k) payload)) s := by
  unfold wholeRow at h
  split at h <;> cases h <;> rfl

theorem configSetRow_exec (h : configSetRow b tag rest = some i) :
    exec i s = act (takeTelegram 0x10#8 tag (requestForm 0x10#8 (BitVec.ofNat 8 b :: rest))) s := by
  unfold configSetRow at h
  split at h <;> cases h <;> rfl

theorem configGetRow_exec (h : configGetRow b tag rest = some i) :
    exec i s = act (takeTelegram 0x11#8 tag (requestForm 0x11#8 (BitVec.ofNat 8 b :: rest))) s := by
  unfold configGetRow at h
  split at h <;> cases h <;> rfl

theorem firstByteRow_exec (h : firstByteRow k b tag rest = some i) :
    exec i s = act (takeTelegram (BitVec.ofNat 8 k) tag
      (requestForm (BitVec.ofNat 8 k) (BitVec.ofNat 8 b :: rest))) s := by
  unfold firstByteRow at h
  split at h
  · exact configSetRow_exec s h
  · exact configGetRow_exec s h
  all_goals cases h <;> rfl

end

/-- The command that a telegram decodes to takes it by the form of its kind, whichever row it names. -/
theorem exec_decodeTelegram (kind tag : Byte) (payload : List Byte) (s : State) :
    exec (decodeTelegram kind tag payload) s = act (takeTelegram kind tag (requestForm kind payload)) s := by
  have named := decodeTelegram_case kind tag payload
  generalize decodeTelegram kind tag payload = i at named ⊢
  cases named with
  | whole h => simpa using wholeRow_exec s h
  | first hp h =>
    subst hp
    simpa using firstByteRow_exec s h
  | unknown h => rfl

/-! ### The receiver (R196, R197) -/

section
variable {b : Byte} {s : State}

theorem takeByte_sync (h : s.li.rx = .hunt) (hb : b = 0xA5#8) :
    takeByte b s = s.mapLi fun l => { l with rx := .length, buf := [], gapLeft := 2 } := by
  simp [takeByte, h, hb]

theorem takeByte_noise (h : s.li.rx = .hunt) (hb : b ≠ 0xA5#8) : takeByte b s = s := by
  simp [takeByte, h, hb]

theorem takeByte_length (h : s.li.rx = .length) (hb : b.toNat ≤ 60) : takeByte b s = store b .header s := by
  simp [takeByte, h, hb]

theorem takeByte_tooLong (h : s.li.rx = .length) (hb : 60 < b.toNat) : takeByte b s = abandon s := by
  simp [takeByte, h, Nat.not_le.2 hb]

theorem takeByte_kind (h : s.li.rx = .header) (hn : s.li.buf.length = 1) : takeByte b s = store b .header s := by
  simp [takeByte, h, hn]

theorem takeByte_tag (h : s.li.rx = .header) (hn : s.li.buf.length = 2) :
    takeByte b s = store b (if rxLength s.li = 0 then .check else .body) s := by
  simp [takeByte, h, hn]

theorem takeByte_payload (h : s.li.rx = .body) :
    takeByte b s = store b (if s.li.buf.length + 1 < 3 + rxLength s.li then .body else .check) s := by
  simp [takeByte, h]

theorem takeByte_firstCheck (h : s.li.rx = .check) (hn : s.li.buf.length = 3 + rxLength s.li) :
    takeByte b s = store b .check s := by
  simp only [takeByte, h, hn]
  rw [if_pos (by omega)]

theorem takeByte_secondCheck (h : s.li.rx = .check) (hn : s.li.buf.length = 4 + rxLength s.li) :
    takeByte b s = judgeTelegram b s := by
  simp only [takeByte, h, hn]
  rw [if_neg (by omega)]

theorem judgeTelegram_bad (h : crcMatches s.li b = false) : judgeTelegram b s = abandon s := by
  simp [judgeTelegram, h]

/-- R197, R198: a telegram whose CRC matches runs the request it decodes to. -/
theorem judgeTelegram_good (h : crcMatches s.li b = true) :
    act (judgeTelegram b) s = exec (decodeTelegram (s.li.buf.getD 1 0#8) (s.li.buf.getD 2 0#8)
      ((s.li.buf.drop 3).take (rxLength s.li))) s := by
  rw [exec_decodeTelegram]
  unfold act judgeTelegram
  rw [if_pos h]

theorem takeOverlength_tooLong (h : s.li.rx = .length) (hb : 60 < b.toNat) : takeOverlength b s = abandon s := by
  simp [takeOverlength, h, hb]

theorem takeOverlength_other (h : s.li.rx ≠ .length ∨ b.toNat ≤ 60) : takeOverlength b s = s :=
  if_neg fun ⟨hx, hb⟩ => h.elim (absurd hx) (Nat.not_le.2 hb)

theorem takeBadCrc_bad (h : s.li.rx = .check) (hn : s.li.buf.length = 4 + rxLength s.li)
    (bad : crcMatches s.li b = false) : takeBadCrc b s = abandon s :=
  if_pos ⟨h, hn.ge, bad⟩

theorem takeBadCrc_other
    (h : (s.li.rx ≠ .check ∨ s.li.buf.length < 4 + rxLength s.li) ∨ crcMatches s.li b = true) : takeBadCrc b s = s := by
  refine if_neg fun ⟨hx, hn, hb⟩ => ?_
  rcases h with (h | h) | h
  · exact h hx
  · exact Nat.not_le.2 h hn
  · exact absurd h (by simp [hb])

end

theorem crcMatches_iff (l : Li) (high : Byte) : crcMatches l high = true ↔
    crc (l.buf.take (3 + rxLength l)) = BitVec.ofNat 16 (u16 (l.buf.getD (3 + rxLength l) 0#8) high) := beq_iff_eq

/-- Settles O36, from what a byte does in each state of the receiver. -/
theorem receiverFollowsTable : Obligations.ReceiverFollowsTable := by
  intro b s held l len received with_ run dropped stored good
  have taken {t : State} (h : takeByte b s = t) : run = .next (arbitrate t) := h ▸ act_free (takeByte b) held
  have matched : crcMatches s.li b = true ↔ good := crcMatches_iff s.li b
  refine ⟨fun h hb => taken (takeByte_sync h hb), fun h hb => taken (takeByte_noise h hb),
    fun h hb => taken (takeByte_length h hb),
    fun h hb => ⟨taken (takeByte_tooLong h hb),
      (act_free (takeOverlength b) held).trans (by rw [takeOverlength_tooLong h hb]; rfl)⟩,
    fun h hn => taken (takeByte_kind h hn),
    fun h hn hl => taken ((takeByte_tag h hn).trans (by rw [if_pos (by exact hl)]; rfl)),
    fun h hn hl => taken ((takeByte_tag h hn).trans (by rw [if_neg (by exact hl.ne')]; rfl)),
    fun h hn => taken ((takeByte_payload h).trans (by rw [if_pos (by exact hn)]; rfl)),
    fun h hn => taken ((takeByte_payload h).trans (by rw [if_neg (by exact hn.not_lt)]; rfl)),
    fun h hn => taken (takeByte_firstCheck h hn), fun h hn bad => ?_, fun h hn match_ => ?_,
    fun h => (act_free (takeOverlength b) held).trans (by rw [takeOverlength_other h]),
    fun h => (act_free (takeBadCrc b) held).trans (by rw [takeBadCrc_other (.inl h)]),
    act_free takeFramingError held, act_free takeGap held⟩
  · have differs : crcMatches s.li b = false := Bool.eq_false_iff.2 (mt matched.1 bad)
    exact ⟨taken ((takeByte_secondCheck h hn).trans (judgeTelegram_bad differs)),
      (act_free (takeBadCrc b) held).trans (by rw [takeBadCrc_bad h hn differs]; rfl)⟩
  · refine ⟨?_, (act_free (takeBadCrc b) held).trans (by rw [takeBadCrc_other (.inr (matched.2 match_))])⟩
    refine Eq.trans ?_ (judgeTelegram_good (matched.2 match_))
    rw [act_free _ held]
    exact taken (takeByte_secondCheck h hn)

end Sys2Proof.Machine

namespace Sys2Proof.Machine

/-! ### A whole frame, byte by byte (R197) -/

/-- The part with the receiver in a state, these bytes taken after the sync byte. -/
def receiving (x : RxState) (buf : List Byte) (s : State) : State :=
  { s with li := { s.li with rx := x, buf := buf, gapLeft := 2 } }

/-- The arbiter finds nothing to do on a line that it has served. -/
theorem arbitrate_served {s : State} (h : LineBusyWhileWaiting s) : arbitrate s = s := by
  by_cases hs : s.li.sending = none
  · obtain ⟨hr, hn, hst⟩ := h hs
    exact arbitrate_empty hr hn hst
  · exact arbitrate_busy hs

theorem feed_cons {b : Byte} {rest : List Byte} {s t : State} (h : exec (.receiverByteTaken b) s = .next t) :
    feed (b :: rest) s = feed rest t := by simp [feed, h]

theorem feed_last (b : Byte) (s : State) : feed [b] s = exec (.receiverByteTaken b) s := by
  cases h : exec (.receiverByteTaken b) s <;> simp [feed, h]

section
variable {s : State} (held : s.pins.resetHeld = false) (served : LineBusyWhileWaiting s)
include held served

theorem receive_sync (h : s.li.rx = .hunt) (rest : List Byte) :
    feed (0xA5#8 :: rest) s = feed rest (receiving .length [] s) := by
  refine feed_cons ((act_free (takeByte _) held).trans ?_)
  rw [takeByte_sync h rfl]
  exact congrArg _ (arbitrate_served (s := receiving .length [] s) served)

/-- A byte that is stored. -/
theorem receive_stored {b : Byte} {x y : RxState} {buf : List Byte} (rest : List Byte)
    (h : takeByte b (receiving x buf s) = store b y (receiving x buf s)) :
    feed (b :: rest) (receiving x buf s) = feed rest (receiving y (buf ++ [b]) s) := by
  refine feed_cons ((act_free (s := receiving x buf s) (takeByte b) held).trans ?_)
  rw [h]
  exact congrArg _ (arbitrate_served (s := receiving y (buf ++ [b]) s) served)

variable {n kind tag : Byte}

/-- The payload bytes that are still to come, after those already taken. -/
theorem receive_payload (tail : List Byte) (p done : List Byte) (h : done.length + p.length = n.toNat) :
    feed (p ++ tail) (receiving (if p.length = 0 then .check else .body) (n :: kind :: tag :: done) s)
      = feed tail (receiving .check (n :: kind :: tag :: (done ++ p)) s) := by
  induction p generalizing done with
  | nil => rw [List.append_nil]; rfl
  | cons b p ih =>
    have stored := takeByte_payload (b := b) (s := receiving .body (n :: kind :: tag :: done) s) rfl
    have more : (n :: kind :: tag :: done).length + 1 < 3 + n.toNat ↔ p.length ≠ 0 := by
      simp only [List.length_cons] at h ⊢; omega
    have state : (if (n :: kind :: tag :: done).length + 1 < 3 + n.toNat then RxState.body else .check)
        = if p.length = 0 then .check else .body := by
      simp only [more, ite_not]
    rw [if_neg (by simp), List.cons_append, receive_stored held served _ stored]
    refine Eq.trans ?_ ((ih (done ++ [b]) (by simp at h ⊢; omega)).trans (by simp))
    rw [← state]
    rfl

theorem receive_header (short : n.toNat ≤ 60) (rest : List Byte) :
    feed (n :: kind :: tag :: rest) (receiving .length [] s)
      = feed rest (receiving (if n.toNat = 0 then .check else .body) [n, kind, tag] s) := by
  rw [receive_stored held served _ (takeByte_length rfl short), receive_stored held served _ (takeByte_kind rfl rfl),
    receive_stored held served _ (takeByte_tag rfl rfl)]
  rfl

end

/-- The CRC bytes of a body match the body. -/
theorem crcMatches_body {l : Li} {body : List Byte} (hb : l.buf = body ++ [BitVec.ofNat 8 (crc body).toNat])
    (hn : body.length = 3 + rxLength l) : crcMatches l (BitVec.ofNat 8 ((crc body).toNat / 256)) = true := by
  rw [crcMatches_iff, hb, ← hn, List.take_left]
  have low : (body ++ [BitVec.ofNat 8 (crc body).toNat]).getD body.length 0#8 = BitVec.ofNat 8 (crc body).toNat := by
    simp
  rw [low, u16_le]
  apply BitVec.eq_of_toNat_eq
  have := (crc body).isLt
  rw [BitVec.toNat_ofNat]
  omega

/-- Settles O37: sync byte, header and payload are stored one after another, and the second CRC byte finds the CRC of
what was stored. -/
theorem frameRunsItsRequest : Obligations.FrameRunsItsRequest := by
  intro kind tag payload s short held hunting served body sum
  have size : (BitVec.ofNat 8 payload.length).toNat = payload.length := by
    rw [BitVec.toNat_ofNat]
    omega
  have lead : feed (0xA5#8 :: body ++ [BitVec.ofNat 8 sum.toNat, BitVec.ofNat 8 (sum.toNat / 256)]) s
      = feed [BitVec.ofNat 8 sum.toNat, BitVec.ofNat 8 (sum.toNat / 256)] (receiving .check body s) := by
    rw [List.cons_append, receive_sync held served hunting]
    refine (receive_header held served (by rw [size]; exact short) _).trans ?_
    rw [size]
    exact receive_payload held served _ payload [] (by rw [size]; simp)
  have stored := receive_stored held served (x := .check) (buf := body) (y := .check)
    [BitVec.ofNat 8 (sum.toNat / 256)] (b := BitVec.ofNat 8 sum.toNat)
    (takeByte_firstCheck rfl (by simp [receiving, rxLength, body, size]; omega))
  rw [lead, stored, feed_last]
  have length : rxLength (receiving .check (body ++ [BitVec.ofNat 8 sum.toNat]) s).li = payload.length := size
  have judged := takeByte_secondCheck (b := BitVec.ofNat 8 (sum.toNat / 256))
    (s := receiving .check (body ++ [BitVec.ofNat 8 sum.toNat]) s) rfl
    (by rw [length]; simp [receiving, body]; omega)
  have good := crcMatches_body (l := (receiving .check (body ++ [BitVec.ofNat 8 sum.toNat]) s).li) (body := body) rfl
    (by rw [length]; simp [body]; omega)
  refine (act_free (s := receiving .check (body ++ [BitVec.ofNat 8 sum.toNat]) s) (takeByte _) held).trans ?_
  rw [judged]
  refine (act_free (judgeTelegram _) (by exact held)).symm.trans ((judgeTelegram_good good).trans ?_)
  rw [length]
  have fits : ((receiving .check (body ++ [BitVec.ofNat 8 sum.toNat]) s).li.buf.drop 3).take payload.length = payload := by
    simp [receiving, body]
  rw [fits]
  rfl

end Sys2Proof.Machine

namespace Sys2Proof.Machine

/-! ### The kind table (R198) -/

/-- The payload lengths that a kind is taken with; the kinds that carry a section id have theirs by section. -/
def ReqKind.lengths : ReqKind → List Nat
  | .configSet | .configGet => []
  | .identify | .poll | .restart | .commission | .decommission | .planClear | .engage | .lift | .resume | .truckIn
  | .truckOut => [0]
  | .windowClear | .hold | .release | .beltMode | .tallyRead => [1]
  | .planRead | .materialSet => [2]
  | .substitute | .eventRoute => [3]
  | .stationSet | .zero | .eventAck => [4]
  | .jog => [5]
  | .truckNext => [6]
  | .windowSet => [11]
  | .lintabLoad => [20]
  | .planAppend => [10, 20, 30, 40, 50, 60]

/-- The kinds that carry a section id. -/
def ReqKind.sectioned (k : ReqKind) : Bool := k == .configSet || k == .configGet

/-- The kinds taken while STOP is asserted. -/
def ReqKind.reads : ReqKind → Bool
  | .identify | .poll | .configGet | .planRead | .tallyRead | .eventAck => true
  | _ => false

theorem ReqKind.ofByte?_code (k : ReqKind) : ReqKind.ofByte? k.code = some k := by cases k <;> rfl

theorem ReqKind.code_of_ofByte? {kind : Byte} {k : ReqKind} (h : ReqKind.ofByte? kind = some k) : k.code = kind := by
  simpa using List.find?_some h

theorem ReqKind.mem_all (k : ReqKind) : k ∈ ReqKind.all := by cases k <;> decide

theorem requestForm_code (k : ReqKind) (payload : List Byte) : requestForm k.code payload = kindForm k payload := by
  rw [requestForm, ReqKind.ofByte?_code]

theorem requestForm_unlisted {kind : Byte} (h : ∀ k : ReqKind, k.code ≠ kind) (payload : List Byte) :
    requestForm kind payload = Request.unknown := by
  unfold requestForm
  cases hk : ReqKind.ofByte? kind with
  | none => rfl
  | some k => exact absurd (ReqKind.code_of_ofByte? hk) (h k)

/-- A form known by its kind: LENGTH for a bad length, and whether STOP refuses it. -/
structure Request.Form (r : Request) (good : Prop) [Decidable good] (reads : Bool) : Prop where
  known : r.known = true
  badForm : r.badForm = if good then none else some replyLength
  readOnly : r.readOnly = reads

theorem Request.ofLength_form (n : Nat) (payload : List Byte) (ro : Bool) (f : State → State × Reply) :
    (Request.ofLength n payload ro f).Form (payload.length = n) ro := ⟨rfl, rfl, rfl⟩

/-- R198: PLAN_APPEND takes one to six whole records. -/
theorem appendLength_iff (n : Nat) : (n % 10 = 0 ∧ 10 ≤ n ∧ n ≤ 60) ↔ n ∈ [10, 20, 30, 40, 50, 60] := by
  simp only [List.mem_cons, List.not_mem_nil, or_false]
  omega

theorem kindForm_form {k : ReqKind} (h : k.sectioned = false) (payload : List Byte) :
    (kindForm k payload).Form (payload.length ∈ k.lengths) k.reads := by
  cases k with
  | configSet | configGet => cases h
  | planAppend => exact ⟨rfl, if_congr (appendLength_iff _) rfl rfl, rfl⟩
  | _ =>
    refine ⟨rfl, ?_, rfl⟩
    simp only [kindForm, Request.ofLength, ReqKind.lengths, List.mem_singleton]

theorem requestForm_set (payload : List Byte) : requestForm 0x10#8 payload = sectionForm false setForm payload := rfl

theorem requestForm_get (payload : List Byte) : requestForm 0x11#8 payload = sectionForm true getForm payload := rfl

/-! ### The section table (R203) -/

/-- The sections in the order of their ids. -/
def Part.all : List Part := [.sensor, .side, .plan, .pulse, .belt, .limits, .output, .link, .supply]

/-- The bytes of a section's record. -/
def Part.recordBytes : Part → Nat
  | .sensor | .plan => 16
  | .side => 32
  | .pulse => 10
  | .belt => 18
  | .limits => 26
  | .output | .link => 6
  | .supply => 4

theorem Part.ofByte?_id (p : Part) : Part.ofByte? p.id = some p := by cases p <;> rfl

theorem Part.id_bounds (p : Part) : 1 ≤ p.id.toNat ∧ p.id.toNat ≤ 9 := by cases p <;> decide

theorem Part.ofByte?_none {b : Byte} (h : b.toNat = 0 ∨ 9 < b.toNat) : Part.ofByte? b = none := by
  unfold Part.ofByte?
  rw [List.find?_eq_none]
  intro p _ hp
  obtain rfl : p.id = b := by simpa using hp
  have := p.id_bounds
  omega

theorem Part.exists_id {b : Byte} (h1 : 1 ≤ b.toNat) (h2 : b.toNat ≤ 9) : ∃ p : Part, p.id = b := by
  have named : ∀ n, 1 ≤ n → n ≤ 9 → ∃ p : Part, p.id.toNat = n := by
    intro n h1 h2
    match n with
    | 1 => exact ⟨.sensor, rfl⟩
    | 2 => exact ⟨.side, rfl⟩
    | 3 => exact ⟨.plan, rfl⟩
    | 4 => exact ⟨.pulse, rfl⟩
    | 5 => exact ⟨.belt, rfl⟩
    | 6 => exact ⟨.limits, rfl⟩
    | 7 => exact ⟨.output, rfl⟩
    | 8 => exact ⟨.link, rfl⟩
    | 9 => exact ⟨.supply, rfl⟩
  obtain ⟨p, hp⟩ := named _ h1 h2
  exact ⟨p, BitVec.eq_of_toNat_eq hp⟩

theorem setForm_form (p : Part) (rest : List Byte) : (setForm p rest).Form (rest.length = p.recordBytes) false := by
  cases p <;> exact Request.ofLength_form _ _ _ _

theorem getForm_form (p : Part) (rest : List Byte) : (getForm p rest).Form (rest.length = 3) true :=
  Request.ofLength_form _ _ _ _

theorem sectionForm_part (ro : Bool) (form : Part → List Byte → Request) (p : Part) (rest : List Byte) :
    sectionForm ro form (p.id :: rest) = form p rest := by
  rw [sectionForm, Part.ofByte?_id]

theorem sectionForm_noPart (ro : Bool) (form : Part → List Byte → Request) {b : Byte} (rest : List Byte)
    (h : b.toNat = 0 ∨ 9 < b.toNat) : sectionForm ro form (b :: rest) = Request.bad (replyField 0xFF) ro := by
  rw [sectionForm, Part.ofByte?_none h]

/-! ### The requests that end at a step of R198 -/

/-- The request of a telegram ends with a reply, and its owner does nothing. -/
def Ends (kind : Byte) (payload : List Byte) (s : State) (r : Reply) : Prop :=
  (requestForm kind payload).answer s = (s, r)

theorem Request.answer_bad {r : Request} {s : State} {b : Reply} (hk : r.known = true) (hb : r.badForm = some b) :
    r.answer s = (s, b) := by simp [Request.answer, hk, hb]

theorem Request.Form.answer_length {r : Request} {good : Prop} [Decidable good] {reads : Bool}
    (f : r.Form good reads) (h : ¬good) (s : State) : r.answer s = (s, replyLength) :=
  Request.answer_bad f.known (by rw [f.badForm, if_neg h])

theorem Request.Form.answer_mode {r : Request} {good : Prop} [Decidable good] {reads : Bool}
    (f : r.Form good reads) (h : good) (hr : reads = false) {s : State} (stop : s.pins.stop = true) :
    r.answer s = (s, replyMode) := by
  have ro : r.readOnly = false := f.readOnly.trans hr
  simp [Request.answer, f.known, f.badForm, h, stop, ro]

theorem ends_unknown {kind : Byte} (h : ∀ k : ReqKind, k.code ≠ kind) (payload : List Byte) (s : State) :
    Ends kind payload s replyUnknown := by
  unfold Ends
  rw [requestForm_unlisted h]
  rfl

theorem ends_length {k : ReqKind} (h : k.sectioned = false) {payload : List Byte} (hn : payload.length ∉ k.lengths)
    (s : State) : Ends k.code payload s replyLength := by
  unfold Ends
  rw [requestForm_code]
  exact (kindForm_form h payload).answer_length hn s

theorem ends_mode {k : ReqKind} (h : k.sectioned = false) {payload : List Byte} (hn : payload.length ∈ k.lengths)
    (hr : k.reads = false) {s : State} (stop : s.pins.stop = true) : Ends k.code payload s replyMode := by
  unfold Ends
  rw [requestForm_code]
  exact (kindForm_form h payload).answer_mode hn hr stop

theorem ends_noSection {kind : Byte} (h : kind = 0x10#8 ∨ kind = 0x11#8) (s : State) : Ends kind [] s replyLength := by
  rcases h with rfl | rfl <;> exact Request.answer_bad rfl rfl

theorem ends_badSection {kind b : Byte} (h : kind = 0x10#8 ∨ kind = 0x11#8) (hb : b.toNat = 0 ∨ 9 < b.toNat)
    (rest : List Byte) (s : State) : Ends kind (b :: rest) s (replyField 0xFF) := by
  unfold Ends
  rcases h with rfl | rfl
  · rw [requestForm_set, sectionForm_noPart _ _ _ hb]
    rfl
  · rw [requestForm_get, sectionForm_noPart _ _ _ hb]
    rfl

theorem ends_setLength {p : Part} {rest : List Byte} (h : rest.length ≠ p.recordBytes) (s : State) :
    Ends 0x10#8 (p.id :: rest) s replyLength := by
  unfold Ends
  rw [requestForm_set, sectionForm_part]
  exact (setForm_form p rest).answer_length h s

theorem ends_setMode {p : Part} {rest : List Byte} (h : rest.length = p.recordBytes) {s : State}
    (stop : s.pins.stop = true) : Ends 0x10#8 (p.id :: rest) s replyMode := by
  unfold Ends
  rw [requestForm_set, sectionForm_part]
  exact (setForm_form p rest).answer_mode h rfl stop

theorem ends_getLength {p : Part} {rest : List Byte} (h : rest.length ≠ 3) (s : State) :
    Ends 0x11#8 (p.id :: rest) s replyLength := by
  unfold Ends
  rw [requestForm_get, sectionForm_part]
  exact (getForm_form p rest).answer_length h s

/-- R198, R200: a request that ends at a step changes nothing but by its reply. -/
theorem Ends.answered {kind tag : Byte} {payload : List Byte} {s : State} {r : Reply}
    (h : Ends kind payload (heard s) r) (listening : Listening s) :
    act (takeTelegram kind tag (requestForm kind payload)) s = .next (answered kind tag r (heard s)) := by
  rw [request_answered _ _ _ listening, h]

/-! ### The kinds as the table lists them -/

/-- The kinds without a section id, each with its payload lengths. -/
def plainForms : List (Nat × List Nat) :=
  [(0x01, [0]), (0x02, [0]), (0x03, [0]), (0x12, [20]), (0x13, [0]), (0x14, [0]),
   (0x20, [10, 20, 30, 40, 50, 60]), (0x21, [0]), (0x22, [2]), (0x23, [11]), (0x24, [1]), (0x25, [4]),
   (0x30, [0]), (0x31, [0]), (0x32, [1]), (0x33, [0]), (0x34, [5]), (0x35, [4]), (0x36, [3]), (0x37, [1]),
   (0x38, [2]), (0x40, [1]), (0x41, [6]), (0x42, [0]), (0x43, [0]), (0x44, [1]), (0x50, [3]), (0x51, [4])]

theorem plainForms_eq : plainForms =
    (ReqKind.all.filter fun k => !k.sectioned).map fun k => (k.code.toNat, k.lengths) := rfl

theorem mem_plainForms {kind : Byte} {lengths : List Nat} :
    (kind.toNat, lengths) ∈ plainForms ↔ ∃ k : ReqKind, k.sectioned = false ∧ k.code = kind ∧ k.lengths = lengths := by
  simp [plainForms_eq, ReqKind.mem_all, BitVec.toNat_inj]

theorem ReqKind.sectioned_iff (k : ReqKind) : k.sectioned = true ↔ k.code = 0x10#8 ∨ k.code = 0x11#8 := by
  cases k <;> decide

theorem ReqKind.reads_iff (k : ReqKind) : k.reads = true ↔ k.code.toNat ∈ [0x01, 0x02, 0x11, 0x22, 0x44, 0x51] := by
  cases k <;> decide

/-- A kind that the table does not list. -/
theorem unlisted_of_plainForms {kind : Byte} (h : ¬(kind = 0x10#8 ∨ kind = 0x11#8))
    (hp : ∀ p ∈ plainForms, p.1 ≠ kind.toNat) (k : ReqKind) : k.code ≠ kind := by
  rintro rfl
  have plain : k.sectioned = false := Bool.eq_false_iff.2 (mt (ReqKind.sectioned_iff k).1 h)
  exact hp _ (mem_plainForms.2 ⟨k, plain, rfl, rfl⟩) rfl

theorem recordLengths_eq : [(1, 17), (2, 33), (3, 17), (4, 11), (5, 19), (6, 27), (7, 7), (8, 7), (9, 5)] =
    Part.all.map fun p => (p.id.toNat, p.recordBytes + 1) := rfl

theorem mem_recordLengths {b : Byte} {m : Nat}
    (h : (b.toNat, m) ∈ [(1, 17), (2, 33), (3, 17), (4, 11), (5, 19), (6, 27), (7, 7), (8, 7), (9, 5)]) :
    ∃ p : Part, p.id = b ∧ p.recordBytes + 1 = m := by
  rw [recordLengths_eq, List.mem_map] at h
  obtain ⟨p, _, hp⟩ := h
  rw [Prod.mk.injEq, BitVec.toNat_inj] at hp
  exact ⟨p, hp⟩

/-- R198 steps 1 and 2: a telegram that finds a RESTART in progress is discarded. -/
theorem takeTelegram_restarting (kind tag : Byte) (r : Request) {s : State} (h : s.li.restarting = true) :
    takeTelegram kind tag r s = heard s := by
  unfold takeTelegram
  rw [heard_eq]
  exact if_pos h

/-- R198, R200: a telegram that finds both reply slots full is dropped. -/
theorem takeTelegram_full (kind tag : Byte) (r : Request) {s : State} (h : s.li.restarting = false)
    (full : 2 ≤ s.li.replies.length) : takeTelegram kind tag r s = dropRequest (heard s) := by
  unfold takeTelegram
  rw [heard_eq]
  exact (if_neg (by simp [h])).trans (if_pos full)

/-- Settles O39: each step of R198 ends the requests that it names, by the kind table and the section table. -/
theorem requestsAreScreened : Obligations.RequestsAreScreened := by
  intro kind tag payload s held
  dsimp only
  rw [exec_decodeTelegram]
  refine ⟨fun restarting => ?_, fun running full => ?_, fun listening => ⟨fun h hp => ?_, fun lengths hl hn => ?_,
    fun lengths hl hn hr stop => ?_, fun h hp => ?_, fun b rest h hp hb => ?_, fun b rest m h hp hm hn => ?_,
    fun b rest m h hp hm hn stop => ?_, fun b rest h hp h1 h9 hn => ?_⟩⟩
  · rw [act_free _ held, takeTelegram_restarting _ _ _ restarting]
  · rw [act_free _ held, takeTelegram_full _ _ _ running full]
    rfl
  · exact (ends_unknown (unlisted_of_plainForms h hp) _ _).answered listening
  · obtain ⟨k, plain, rfl, rfl⟩ := mem_plainForms.1 hl
    exact (ends_length plain hn _).answered listening
  · obtain ⟨k, plain, rfl, rfl⟩ := mem_plainForms.1 hl
    exact (ends_mode plain hn (Bool.eq_false_iff.2 (mt k.reads_iff.1 hr)) (by exact stop)).answered listening
  · subst hp
    exact (ends_noSection h _).answered listening
  · subst hp
    exact (ends_badSection h hb _ _).answered listening
  · subst h hp
    obtain ⟨p, rfl, rfl⟩ := mem_recordLengths hm
    exact (ends_setLength (by simpa using hn) _).answered listening
  · subst h hp
    obtain ⟨p, rfl, rfl⟩ := mem_recordLengths hm
    exact (ends_setMode (by simpa using hn) (by exact stop)).answered listening
  · subst h hp
    obtain ⟨p, rfl⟩ := Part.exists_id h1 h9
    exact (ends_getLength (by simpa using hn) _).answered listening

end Sys2Proof.Machine

namespace Sys2Proof.Machine

/-! ### UNKNOWN_REQUEST (R60, R113, R169, R198) -/

/-- The kinds whose telegrams a row names by their first byte too. -/
theorem ReqKind.listed (k : ReqKind) :
    k.code.toNat ∈ wholeKinds ∨ k.code.toNat ∈ [0x10, 0x11, 0x22, 0x32, 0x38] := by cases k <;> decide

theorem exec_unknownRequest {kind tag : Byte} {payload : List Byte} {s : State} {r : Reply} (listening : Listening s)
    (h : Ends kind payload (heard s) r) :
    exec (.unknownRequest kind tag payload) s = .next (answered kind tag r (heard s)) := h.answered listening

theorem planRead_noSelector {b : Byte} (h : 1 < b.toNat) (c : Byte) (s : State) :
    planRead [b, c] s = (s, replyField 0) := by
  unfold planRead
  dsimp only
  rw [if_neg (by omega), if_neg (by omega)]

theorem hold_noKind {b : Byte} (h : 1 < b.toNat) (s : State) : hold [b] s = (s, replyField 0) := by
  unfold hold
  dsimp only
  rw [if_neg (by omega), if_neg (by omega)]

theorem materialSet_noMode {b : Byte} (h : 1 < b.toNat) (c : Byte) (s : State) :
    materialSet [b, c] s = (s, replyField 0) := by
  simp [materialSet, firstBad, Nat.not_le.2 h]

/-- The kinds whose first byte names a row, with the length of their payload. -/
theorem firstByteKind {kind : Byte} {len : Nat} (h : (kind.toNat, len) ∈ [(0x22, 2), (0x32, 1), (0x38, 2)]) :
    ∃ k : ReqKind, k.sectioned = false ∧ k.code = kind ∧ k.lengths = [len] := by
  simp only [List.mem_cons, Prod.mk.injEq, List.not_mem_nil, or_false] at h
  rcases h with ⟨hk, rfl⟩ | ⟨hk, rfl⟩ | ⟨hk, rfl⟩
  · exact ⟨.planRead, rfl, BitVec.eq_of_toNat_eq hk.symm, rfl⟩
  · exact ⟨.hold, rfl, BitVec.eq_of_toNat_eq hk.symm, rfl⟩
  · exact ⟨.materialSet, rfl, BitVec.eq_of_toNat_eq hk.symm, rfl⟩

theorem sectionKind {kind : Byte} (h : kind.toNat ∈ [0x10, 0x11]) : kind = 0x10#8 ∨ kind = 0x11#8 := by
  simp only [List.mem_cons, List.not_mem_nil, or_false] at h
  exact h.imp BitVec.eq_of_toNat_eq BitVec.eq_of_toNat_eq

theorem byte_of_toNat {b : Byte} {n : Nat} (h : b.toNat = n) : b = BitVec.ofNat 8 n := by simp [← h]

/-- An empty payload names neither a section nor a row. -/
theorem ends_empty {kind : Byte} (h : kind.toNat ∈ [0x10, 0x11, 0x22, 0x32, 0x38]) (s : State) :
    Ends kind [] s replyLength := by
  simp only [List.mem_cons, List.not_mem_nil, or_false] at h
  rcases h with h | h | h | h | h <;> obtain rfl := byte_of_toNat h
  · exact ends_noSection (.inl rfl) s
  · exact ends_noSection (.inr rfl) s
  · exact ends_length (k := .planRead) rfl (by decide) s
  · exact ends_length (k := .hold) rfl (by decide) s
  · exact ends_length (k := .materialSet) rfl (by decide) s

/-- Settles O40, by the step of R198 or the owner's check that each unnamed telegram ends at. -/
theorem unknownRequestAnswered : Obligations.UnknownRequestAnswered := by
  intro kind tag b c payload rest s listening
  refine ⟨fun hw hf => ?_, fun h => ?_, fun h hb => ?_, fun hb => ⟨fun len h hn => ?_, ?_, fun stop => ⟨?_, ?_⟩,
    fun free => ⟨?_, ?_⟩⟩⟩
  · refine exec_unknownRequest listening (ends_unknown (fun k hk => ?_) _ _)
    subst hk
    exact k.listed.elim hw hf
  · exact exec_unknownRequest listening (ends_empty h _)
  · exact exec_unknownRequest listening (ends_badSection (sectionKind h) hb _ _)
  · obtain ⟨k, plain, rfl, hl⟩ := firstByteKind h
    refine exec_unknownRequest listening (ends_length plain ?_ _)
    rw [hl, List.mem_singleton]
    exact hn
  · refine (takeRequest_good (k := .planRead) rfl rfl listening (.inr rfl)).trans ?_
    rw [planRead_noSelector hb]
    rfl
  · exact exec_unknownRequest listening (ends_mode (k := .hold) rfl (.head _) rfl (by exact stop))
  · exact exec_unknownRequest listening (ends_mode (k := .materialSet) rfl (.head _) rfl (by exact stop))
  · refine (takeRequest_good (k := .hold) rfl rfl listening (.inl free)).trans ?_
    rw [hold_noKind hb]
    rfl
  · refine (takeRequest_good (k := .materialSet) rfl rfl listening (.inl free)).trans ?_
    rw [materialSet_noMode hb]
    rfl

end Sys2Proof.Machine

namespace Sys2Proof.Machine

/-! ### The requests that read (R60, R153, R202, R206, R208) -/

/-- A switch in one byte. -/
theorem switchByte (b : Bool) : BitVec.ofNat 8 b.toNat = if b then 1#8 else 0#8 := by cases b <;> rfl

theorem CloseReason.code_byte (r : CloseReason) : BitVec.ofNat 8 r.code = if r = .full then 0#8 else 1#8 := by
  cases r <;> rfl

theorem PlanPosition.code_byte (p : PlanPosition) : BitVec.ofNat 8 p.code =
    match p with
    | .none => 0#8
    | .before => 1#8
    | .between => 2#8
    | .past => 3#8 := by cases p <;> rfl

/-- A good telegram changes nothing that the status content carries. -/
theorem statusContent_heard (s : State) : statusContent (heard s) = statusContent s := by
  rw [statusContent_eq, statusContent_eq]
  rfl

theorem identify_eq (s : State) : identify s = (s,
    [0x00#8, 0x54#8, 0x44#8, 0x4C#8, 0x24#8, 0x41#8, if s.li.straps.cfg0 then 1#8 else 0#8,
     if s.li.straps.cfg1 then 1#8 else 0#8, if s.li.straps.cfg2 then 1#8 else 0#8,
     if s.li.straps.cfg3 then 1#8 else 0#8, if s.csc.commissioned then 1#8 else 0#8]) := by
  simp only [identify, switchByte, replyOk]

theorem tallyRead_some {n : Byte} {s : State} {x : Tally} (h : s.tlu.log[n.toNat]? = some x) :
    tallyRead [n] s = (s, 0x00#8 ::
        (le 2 x.number ++ le 4 x.target ++ le 4 x.delivered ++ le 4 x.opened ++ le 4 x.closed
          ++ [if x.reason = .full then 0#8 else 1#8, BitVec.ofNat 8 s.tlu.log.length] ++ le 4 s.tlu.closedTotal)) := by
  simp only [tallyRead, h, Tally.bytes, CloseReason.code_byte, replyOk, w2, w4, List.append_assoc, List.cons_append,
    List.nil_append]

theorem tallyRead_none {n : Byte} {s : State} (h : s.tlu.log.length ≤ n.toNat) :
    tallyRead [n] s = (s, replyField 0) := by
  simp [tallyRead, List.getElem?_eq_none h]

/-- The ten bytes of a waypoint, an absent ramp override as 0. -/
theorem Waypoint.bytes_eq (w : Waypoint) :
    w.bytes = le 4 w.station ++ le 2 w.left ++ leInt 2 w.right ++ le 2 (w.ramp.getD 0) := rfl

/-- R60: a window's marks in its first byte. -/
theorem Window.bytes_eq (w : Window) : w.bytes =
    BitVec.ofNat 8 ((if w.valid then 1 else 0) + (if w.entered then 2 else 0))
      :: (le 4 w.start ++ le 2 w.length ++ le 2 w.lead ++ le 2 w.lift) := by
  unfold Window.bytes
  cases w.valid <;> cases w.entered <;> rfl

section
variable {n : Byte} {s : State}

theorem readPlan_page (h : n.toNat ≤ s.pt.list.length) : readPlan n.toNat s =
    [0x00#8, BitVec.ofNat 8 s.pt.list.length,
      BitVec.ofNat 8 (s.pt.list.filter fun x => decide (s.pcu.high < x.station)).length,
      BitVec.ofNat 8 (planPosition s.pcu.high s.pt.list).code, n,
      BitVec.ofNat 8 (min 5 (s.pt.list.length - n.toNat))]
    ++ (((s.pt.list.drop n.toNat).take (min 5 (s.pt.list.length - n.toNat))).map Waypoint.bytes).flatten := by
  simp [readPlan, Nat.not_lt.2 h, replyOk, countAhead]

theorem readPlan_past (h : s.pt.list.length < n.toNat) : readPlan n.toNat s = replyField 1 := by
  simp [readPlan, h]

theorem readWindows_all (h : n.toNat ≤ 128) : readWindows n.toNat s =
    0x00#8 :: (s.pt.windows.w0.bytes ++ s.pt.windows.w1.bytes ++ s.pt.windows.w2.bytes ++ s.pt.windows.w3.bytes) := by
  simp [readWindows, Nat.not_lt.2 h, replyOk, Windows.all]

theorem readWindows_past (h : 128 < n.toNat) : readWindows n.toNat s = replyField 1 := by
  simp [readWindows, h]

end

/-- Settles O41: each reading's owner answers from the state as the telegram found it. -/
theorem readingsAreAnswered : Obligations.ReadingsAreAnswered := by
  intro tag n s listening
  have tally : exec (.tallyRead tag [n]) s
      = .next (answered 0x44#8 tag (tallyRead [n] (heard s)).2 (tallyRead [n] (heard s)).1) :=
    takeRequest_good (k := .tallyRead) rfl rfl listening (.inr rfl)
  have waypoints : exec (.planReadWaypoints tag [n]) s
      = .next (answered 0x22#8 tag (readPlan n.toNat (heard s)) (heard s)) :=
    takeRequest_good (k := .planRead) rfl rfl listening (.inr rfl)
  have windows : exec (.planReadWindows tag [n]) s
      = .next (answered 0x22#8 tag (readWindows n.toNat (heard s)) (heard s)) :=
    takeRequest_good (k := .planRead) rfl rfl listening (.inr rfl)
  refine ⟨?_, ?_, fun x hx => ?_, fun h => ?_, fun h => ?_, fun h => ?_, fun h => ?_, fun h => ?_, fun free => ?_⟩
  · refine (takeRequest_good (k := .identify) rfl rfl listening (.inr rfl)).trans ?_
    rw [identify_eq]
    rfl
  · refine (takeRequest_good (k := .poll) rfl rfl listening (.inr rfl)).trans ?_
    rw [poll, statusContent_heard]
    rfl
  · rw [tally, tallyRead_some (by exact hx)]
    rfl
  · rw [tally, tallyRead_none (by exact h)]
    rfl
  · rw [waypoints, readPlan_page (by exact h), PlanPosition.code_byte]
    rfl
  · rw [waypoints, readPlan_past (by exact h)]
    rfl
  · rw [windows, readWindows_all h]
    simp only [Window.bytes_eq]
    rfl
  · rw [windows, readWindows_past h]
    rfl
  · exact takeRequest_good (k := .restart) rfl rfl listening (.inl free)

end Sys2Proof.Machine

namespace Sys2Proof.Machine

/-! ### The first field out of range (R203) -/

/-- An owner judges a record by these checks in order before it writes anything. -/
def Judges (work : State → State × Reply) (checks : List Bool) (s : State) : Prop :=
  ∃ structural write, work s = writeRecord checks structural write s

theorem Judges.refused {work : State → State × Reply} {checks : List Bool} {s : State} (h : Judges work checks s) {k : Nat}
    (bad : checks[k]? = some false) (good : ∀ j, j < k → checks[j]? = some true) : work s = (s, replyField k) := by
  obtain ⟨structural, write, hw⟩ := h
  rw [hw, writeRecord, firstBad_some bad good, Nat.zero_add]

/-- R203: each field within its bounds, in field order. -/
def inside (bounds : List (Int × Int)) (f : List Int) : List Bool :=
  List.zipWith (fun x b => decide (b.1 ≤ x ∧ x ≤ b.2)) f bounds

theorem decide_bounds (lo hi x : Int) : decide (lo ≤ x ∧ x ≤ hi) = within lo hi x := by
  rw [within, Bool.decide_and]

/-- The fields of a whole record, by their indices. -/
theorem readFields_indexed {sgs : List Bool} {bs : List Byte} (h : bs.length = 2 * sgs.length) :
    ∃ f : Nat → Int, readFields sgs bs = (List.range sgs.length).map f := by
  refine ⟨fun i => (readFields sgs bs).getD i 0, List.ext_getElem (by simp [readFields_length h]) fun i h1 _ => ?_⟩
  simp [List.getD_eq_getElem?_getD, h1]

/-- A field without a sign is never below 0. -/
theorem readFields_nonneg (n : Nat) (bs : List Byte) : ∀ x ∈ readFields (List.replicate n false) bs, 0 ≤ x := by
  induction n generalizing bs with
  | zero => simp
  | succ n ih =>
    match bs with
    | a :: b :: rest =>
      simp only [List.replicate_succ, readFields, List.mem_cons, forall_eq_or_imp]
      exact ⟨Int.natCast_nonneg _, ih rest⟩
    | [] | [_] => simp [List.replicate_succ, readFields]

section
variable {rest : List Byte} (s : State)

theorem setSensor_judges (h : rest.length = 2 * 8) : Judges (setSensor rest)
    (inside [(0, 7), (0, 3), (0, 1), (-7, 7), (1, 31), (1, 7), (1, 500), (-20000, 20000)]
      (readFields [false, false, false, true, false, false, false, true] rest)) s := by
  obtain ⟨f, fields⟩ := readFields_indexed (sgs := [false, false, false, true, false, false, false, true]) h
  unfold setSensor
  rw [fields]
  simp only [inside, decide_bounds]
  exact ⟨_, _, rfl⟩

theorem side_ofField_left (x : Int) : Side.ofField x = .left ↔ x = 0 := by simp [Side.ofField]

theorem setSide_judges (h : rest.length = 2 * 16) : Judges (setSide rest)
    (inside [(0, 1), (0, if (readFields (List.replicate 16 false) rest).getD 0 0 = 0 then 0 else 1), (1, 3), (1, 50),
        (0, 50), (0, 255), (0, 255), (0, 1000), (100, 1000), (0, 255), (0, 255), (0, 1000), (100, 1000), (0, 400),
        (1, 100), (10, 500)]
      (readFields (List.replicate 16 false) rest)) s := by
  obtain ⟨f, fields⟩ := readFields_indexed (sgs := List.replicate 16 false) h
  unfold setSide
  rw [fields]
  simp only [inside, decide_bounds, side_ofField_left]
  exact ⟨_, _, rfl⟩

theorem setPlan_judges (h : rest.length = 2 * 8) : Judges (setPlan rest)
    (inside [(0, 0), (1, 500), (1, 20), (1, 30), (0, 500), (0, 3500), (0, 32), (1, 60)]
      (readFields (List.replicate 8 false) rest)) s := by
  obtain ⟨f, fields⟩ := readFields_indexed (sgs := List.replicate 8 false) h
  unfold setPlan
  rw [fields]
  simp only [inside, decide_bounds]
  exact ⟨_, _, rfl⟩

theorem setBelt_judges (h : rest.length = 2 * 9) : Judges (setBelt rest)
    (inside [(0, 0), (3200, 25600), (10, 5000), (20, 100), (100, 6000), (100, 6000), (100, 6000), (0, 255), (100, 6000)]
      (readFields (List.replicate 9 false) rest)) s := by
  obtain ⟨f, fields⟩ := readFields_indexed (sgs := List.replicate 9 false) h
  unfold setBelt
  rw [fields]
  simp only [inside, decide_bounds]
  exact ⟨_, _, rfl⟩

theorem setLimits_judges (h : rest.length = 2 * 13) : Judges (setLimits rest)
    (inside [(0, 0), (10, 600), (0, 600), (0, 600), (0, 1000), (0, 1000), (1, 64), (0, 4000), (0, 1000), (0, 1000),
        (1, 15), (1, 7), (500, 4400)]
      (readFields (List.replicate 13 false) rest)) s := by
  obtain ⟨f, fields⟩ := readFields_indexed (sgs := List.replicate 13 false) h
  unfold setLimits
  rw [fields]
  simp only [inside, decide_bounds]
  exact ⟨_, _, rfl⟩

theorem setOutput_judges (h : rest.length = 2 * 3) : Judges (setOutput rest)
    (inside [(0, 2), (100, 2000), (0, if (readFields (List.replicate 3 false) rest).getD 0 0 = 2 then 0 else 1)]
      (readFields (List.replicate 3 false) rest)) s := by
  obtain ⟨f, fields⟩ := readFields_indexed (sgs := List.replicate 3 false) h
  unfold setOutput
  rw [fields]
  simp only [inside, decide_bounds]
  exact ⟨_, _, rfl⟩

theorem setSupply_judges (h : rest.length = 2 * 2) : Judges (setSupply rest)
    (inside [(0, 0), (0, 3)] (readFields (List.replicate 2 false) rest)) s := by
  obtain ⟨f, fields⟩ := readFields_indexed (sgs := List.replicate 2 false) h
  unfold setSupply
  rw [fields]
  simp only [inside, decide_bounds]
  exact ⟨_, _, rfl⟩

/-- R205: the LINK record's own checks. -/
theorem setLink_judges (h : rest.length = 2 * 3) :
    let at_ (k : Nat) : Int := (readFields (List.replicate 3 false) rest).getD k 0
    Judges (setLink rest)
      [decide (at_ 0 = 0), decide (2 ≤ at_ 1 ∧ at_ 1 ≤ 9),
        decide (at_ 2 = 0 ∨ (20 ≤ at_ 2 ∧ at_ 2 ≤ 1000 ∧ at_ 2 % 10 = 0))] s := by
  obtain ⟨f, fields⟩ := readFields_indexed (sgs := List.replicate 3 false) h
  have index (x : Int) : decide (x = 0) = within 0 0 x := by
    rw [← decide_bounds, decide_eq_decide]; omega
  have period (x : Int) : decide (x = 0 ∨ (20 ≤ x ∧ x ≤ 1000 ∧ x % 10 = 0)) = goodPeriod x := by
    rw [Bool.eq_iff_iff]
    simp [goodPeriod, and_assoc]
  unfold setLink
  rw [fields]
  dsimp only
  rw [index, period, decide_bounds]
  exact ⟨_, _, rfl⟩

/-- R36: the checks of a PULSE record, its last two by the input that the first field names. -/
theorem setPulse_judges (h : rest.length = 2 * 5) : ∃ f : Nat → Int,
    readFields (List.replicate 5 false) rest = (List.range 5).map f ∧ 0 ≤ f 0 ∧ 0 ≤ f 1 ∧
      Judges (setPulse rest)
        [within 0 2 (f 0), within 0 2 (f 1), goodPrescale (f 2), goodScale (PulseInput.ofField (f 0)) (f 3),
          goodOption (PulseInput.ofField (f 0)) (f 4)] s := by
  obtain ⟨f, fields⟩ := readFields_indexed (sgs := List.replicate 5 false) h
  have natural : ∀ x ∈ (List.range 5).map f, 0 ≤ x := fields ▸ readFields_nonneg 5 rest
  refine ⟨f, fields, natural _ (by simp [List.range_succ]), natural _ (by simp [List.range_succ]), ?_⟩
  unfold setPulse
  rw [fields]
  exact ⟨_, _, rfl⟩

end

/-- R36: the ranges of scale and option, for an input in range. -/
theorem pulseRanges {x : Int} (h0 : 0 ≤ x) (h2 : x ≤ 2) (scale opt : Int) :
    goodScale (PulseInput.ofField x) scale
      = decide ((if decide (x = 2) then 1 else 100) ≤ scale ∧ scale ≤ if decide (x = 2) then 512 else 20000) ∧
    goodOption (PulseInput.ofField x) opt
      = decide ((if decide (x = 2) then 10 else 0) ≤ opt ∧ opt ≤ if decide (x = 2) then 200 else if x = 0 then 1 else 0) := by
  obtain rfl | rfl | rfl : x = 0 ∨ x = 1 ∨ x = 2 := by omega
  all_goals exact ⟨(decide_bounds _ _ _).symm, (decide_bounds _ _ _).symm⟩

theorem decide_le_two {x : Int} (h : 0 ≤ x) : decide (x ≤ 2) = within 0 2 x := by
  rw [← decide_bounds, decide_eq_decide]
  omega

/-- A record that its section's owner refuses at field k. -/
theorem setForm_refused {p : Part} {n : Nat} {work : State → State × Reply} {tag : Byte} {rest : List Byte} {s : State}
    (form : setForm p rest = Request.ofLength n rest false work) (length : rest.length = n) (free : Free s) {k : Nat}
    (refused : work (heard s) = (heard s, replyField k)) :
    act (takeTelegram ReqKind.configSet.code tag (setForm p rest)) s
      = .next (answered 0x10#8 tag [0x12#8, BitVec.ofNat 8 k] (heard s)) := by
  rw [setForm_good form length free, refused]
  rfl

/-- Settles O48: each section's owner judges the fields in order, and the first that fails answers. -/
theorem firstFieldOutOfRangeIsRefused : Obligations.FirstFieldOutOfRangeIsRefused := by
  intro tag rest s free
  refine ⟨fun h k bad good => ?_, fun h k bad good => ?_, fun h k bad good => ?_, fun h k bad good => ?_,
    fun h k bad good => ?_, fun h k bad good => ?_, fun h k bad good => ?_, fun h k bad good => ?_,
    fun h k bad good => ?_⟩
  · exact setForm_refused (p := .sensor) rfl h free ((setSensor_judges _ h).refused bad good)
  · exact setForm_refused (p := .side) rfl h free ((setSide_judges _ h).refused bad good)
  · exact setForm_refused (p := .plan) rfl h free ((setPlan_judges _ h).refused bad good)
  · obtain ⟨f, fields, input, edge, judges⟩ := setPulse_judges (heard s) h
    refine setForm_refused (p := .pulse) rfl h free ?_
    dsimp only at bad good
    rw [fields] at bad good
    by_cases named : f 0 ≤ 2
    · obtain ⟨scale, option⟩ := pulseRanges input named (f 3) (f 4)
      rw [← decide_le_two input, ← decide_le_two edge, scale, option] at judges
      exact judges.refused bad good
    · have first : k = 0 := by
        by_contra later
        exact named (of_decide_eq_true (Option.some.inj (good 0 (Nat.pos_of_ne_zero later))))
      subst first
      exact judges.refused (congrArg some ((decide_le_two input).symm.trans (decide_eq_false named))) (by simp)
  · exact setForm_refused (p := .belt) rfl h free ((setBelt_judges _ h).refused bad good)
  · exact setForm_refused (p := .limits) rfl h free ((setLimits_judges _ h).refused bad good)
  · exact setForm_refused (p := .output) rfl h free ((setOutput_judges _ h).refused bad good)
  · exact setForm_refused (p := .link) rfl h free ((setLink_judges _ h).refused bad good)
  · exact setForm_refused (p := .supply) rfl h free ((setSupply_judges _ h).refused bad good)

end Sys2Proof.Machine

namespace Sys2Proof.Machine

/-! ### A record that was written (R203) -/

/-- A write that answers OK found every check true and wrote. -/
theorem writeRecord_ok {checks : List Bool} {structural : Bool} {write : State → State} {s : State}
    (h : (writeRecord checks structural write s).2 = [0x00#8]) :
    (∀ b ∈ checks, b = true) ∧ (writeRecord checks structural write s).1 = write s := by
  unfold writeRecord at h ⊢
  split at h
  · simp [replyField] at h
  · rename_i good
    split at h
    · simp [replyMode] at h
    · rename_i free
      exact ⟨firstBad_none.1 good, by rw [if_neg free]⟩

/-- A CONFIG_SET whose last reply is OK: its owner answered OK, and the part is as the owner left it but for the LI's
line and slots. -/
theorem configSet_written {p : Part} {n : Nat} {work : State → State × Reply} {tag : Byte} {rest : List Byte}
    {s t : State} (form : setForm p rest = Request.ofLength n rest false work) (length : rest.length = n)
    (free : Free s) (run : act (takeTelegram ReqKind.configSet.code tag (setForm p rest)) s = .next t)
    (ok : (outgoing t.li).getLast?.map Telegram.payload = some [0x00#8]) :
    (work (heard s)).2 = [0x00#8] ∧ t.cfg = (work (heard s)).1.cfg ∧ t.sfe = (work (heard s)).1.sfe := by
  rw [setForm_good form length free] at run
  cases run
  rw [answered_outgoing, List.getLast?_concat, Option.map_some, Option.some.injEq] at ok
  exact ⟨ok, by simp [answered], by simp [answered]⟩

/-- The bytes of a whole record from its fields, in field order. -/
theorem readFields_written {sgs : List Bool} {bs : List Byte} (h : bs.length = 2 * sgs.length) :
    (readFields sgs bs).flatMap (leInt 2) = bs := by
  induction sgs generalizing bs with
  | nil => simpa using (List.length_eq_zero_iff.1 h).symm
  | cons sg sgs ih =>
    match bs, h with
    | a :: b :: rest, h =>
      have first : leInt 2 (if sg then s16 a b else (u16 a b : Int)) = [a, b] := by
        cases sg
        · have := u16_lt a b
          have carried : ((u16 a b : Int) % 65536).toNat = u16 a b := by omega
          simp only [Bool.false_eq_true, if_false, leInt_two_eq, carried, le_u16]
        · exact leInt_s16 a b
      rw [readFields, List.flatMap_cons, first, ih (by simp at h; omega)]
      rfl
    | [], h => simp at h
    | [_], h => simp at h; omega

section
variable {x : Int}

theorem w2_toNat (h0 : 0 ≤ x) (h1 : x < 65536) : w2 x.toNat = leInt 2 x := by
  rw [w2, leInt_two_eq, Int.emod_eq_of_lt h0 h1]

theorem Role.code_ofField (h0 : 0 ≤ x) (h3 : x ≤ 3) : (Role.ofField x).code = x.toNat := by
  obtain rfl | rfl | rfl | rfl : x = 0 ∨ x = 1 ∨ x = 2 ∨ x = 3 := by omega
  all_goals rfl

theorem Side.code_ofField (h0 : 0 ≤ x) (h1 : x ≤ 1) : Side.code (Side.ofField x) = x.toNat := by
  obtain rfl | rfl : x = 0 ∨ x = 1 := by omega
  all_goals rfl

theorem SideMode.code_ofField (h0 : 0 ≤ x) (h1 : x ≤ 1) : (SideMode.ofField x).code = x.toNat := by
  obtain rfl | rfl : x = 0 ∨ x = 1 := by omega
  all_goals rfl

theorem EdgeSelect.code_ofField (h0 : 0 ≤ x) (h2 : x ≤ 2) : (EdgeSelect.ofField x).code = x.toNat := by
  obtain rfl | rfl | rfl : x = 0 ∨ x = 1 ∨ x = 2 := by omega
  all_goals rfl

theorem DirPolarity.code_ofField (h0 : 0 ≤ x) (h1 : x ≤ 1) : (DirPolarity.ofField x).code = x.toNat := by
  obtain rfl | rfl : x = 0 ∨ x = 1 := by omega
  all_goals rfl

theorem Polarity.code_ofField (h0 : 0 ≤ x) (h1 : x ≤ 1) : (Polarity.ofField x).code = x.toNat := by
  obtain rfl | rfl : x = 0 ∨ x = 1 := by omega
  all_goals rfl

theorem PulseInput.code_ofField (h0 : 0 ≤ x) (h2 : x ≤ 2) : PulseInput.code (PulseInput.ofField x) = x.toNat := by
  obtain rfl | rfl | rfl : x = 0 ∨ x = 1 ∨ x = 2 := by omega
  all_goals rfl

theorem Side.ofNat?_ofField (h0 : 0 ≤ x) (h1 : x ≤ 1) : Side.ofNat? x.toNat = some (Side.ofField x) := by
  obtain rfl | rfl : x = 0 ∨ x = 1 := by omega
  all_goals rfl

theorem Chan.ofNat?_ofField (h0 : 0 ≤ x) (h7 : x ≤ 7) :
    Chan.ofNat? x.toNat = some (Chan.ofField x) ∧ (Chan.ofField x).num = x.toNat := by
  obtain ⟨n, rfl⟩ := Int.eq_ofNat_of_zero_le h0
  obtain ⟨i, rfl⟩ := Chan.exists_num (n := n) (by omega)
  rw [Chan.ofField_num, Int.toNat_natCast]
  exact ⟨Chan.ofNat?_num i, rfl⟩

end

/-! #### The fields that a response begins with (R204) -/

theorem sensorResponse_fields {n : Nat} {i : Chan} (h : Chan.ofNat? n = some i) (s : State) :
    (sensorResponse n s).take 16 = (s.sfe.chans.get i).cfg.fields i := by
  simp only [sensorResponse, h, Channel.response, List.append_assoc]
  exact List.take_left' (by simp [SensorRec.fields, w2, i2])

theorem sideResponse_fields {n : Nat} {i : Side} (h : Side.ofNat? n = some i) (s : State) :
    (sideResponse n s).take 32 = (s.cfg.side.get i).fields i := by
  simp only [sideResponse, h, List.append_assoc]
  exact List.take_left' (by simp [SideRec.fields, Gains.fields, w2])

theorem planResponse_fields (s : State) : (planResponse s).take 16 = s.cfg.plan.fields := by
  simp only [planResponse, List.append_assoc]
  exact List.take_left' (by simp [PlanRec.fields, w2])

theorem beltResponse_fields (s : State) : (beltResponse s).take 18 = s.cfg.belt.fields := by
  simp only [beltResponse, List.append_assoc]
  exact List.take_left' (by simp [BeltRec.fields, w2])

theorem limitsResponse_fields (s : State) : (limitsResponse s).take 26 = s.cfg.limits.fields := by
  simp only [limitsResponse, List.append_assoc]
  exact List.take_left' (by simp [LimitsRec.fields, w2])

theorem linkResponse_fields (s : State) : (linkResponse s).take 6 = s.cfg.link.fields := by
  simp only [linkResponse, List.append_assoc]
  exact List.take_left' (by simp [LinkRec.fields, w2])

theorem supplyResponse_fields (s : State) : (supplyResponse s).take 4 = w2 0 ++ w2 s.cfg.lowLevel := by
  simp only [supplyResponse]
  rfl

theorem pulseResponse_fields (n : Nat) (s : State) : (pulseResponse n s).take 10 =
    (s.cfg.pulse.get (PulseInput.ofField n)).fields (PulseInput.ofField n) (optionField (PulseInput.ofField n) s.cfg) := by
  have input : (if n = 0 then PulseInput.travel else if n = 1 then .belt else .drum) = PulseInput.ofField n := by
    simp only [PulseInput.ofField, Nat.cast_eq_zero, Nat.cast_eq_one]
  simp only [pulseResponse, input, List.append_assoc]
  exact List.take_left' (by simp [PulseRec.fields, w2])

theorem outputResponse_leg {n : Nat} {i : Side} (h : Side.ofNat? n = some i) (s : State) :
    (outputResponse n s).take 6 = (s.cfg.out.get i).fields n := by
  simp only [outputResponse, h]
  exact List.take_left' (by simp [OutRec.fields, w2])

theorem outputResponse_belt {n : Nat} (h : Side.ofNat? n = none) (s : State) :
    (outputResponse n s).take 6 = OutRec.fields n ⟨s.cfg.beltImax, .normal⟩ := by
  simp only [outputResponse, h, List.append_assoc]
  exact List.take_left' (by simp [OutRec.fields, w2])

/-! #### The records as they were written -/

theorem writeSensor_record (i : Chan) (r : SensorRec) (s : State) : ((writeSensor i r s).sfe.chans.get i).cfg = r := by
  unfold writeSensor
  split <;> simp [Channel.requalify]

theorem writeSide_record (i : Side) (r : SideRec) (s : State) : (writeSide i r s).cfg.side.get i = r := by
  unfold writeSide
  dsimp only
  split <;> simp

theorem writePlan_record (r : PlanRec) (s : State) : (writePlan r s).cfg.plan = r := by simp [writePlan]

theorem writeBelt_record (r : BeltRec) (s : State) : (writeBelt r s).cfg.belt = r := by
  unfold writeBelt
  dsimp only
  split <;> split <;> simp

theorem writeOption_pulse (i : PulseInput) (x : Int) (c : Records) : (writeOption i x c).pulse = c.pulse := by
  cases i <;> rfl

theorem writePulse_cfg (i : PulseInput) (r : PulseRec) (x : Int) (s : State) :
    (writePulse i r x s).cfg = writeOption i x { s.cfg with pulse := s.cfg.pulse.set i r } := by
  unfold writePulse
  dsimp only
  split <;> split <;> rfl

theorem goodScale_bounds {i : PulseInput} {x : Int} (h : goodScale i x = true) : 0 ≤ x ∧ x ≤ 20000 := by
  cases i <;> (simp only [goodScale, within_eq_true] at h; omega)

/-- R36: an option in range, as it was written. -/
theorem optionField_written {i : PulseInput} {x : Int} (h : goodOption i x = true) (c : Records) :
    w2 (optionField i (writeOption i x c)) = leInt 2 x := by
  cases i <;> simp only [goodOption, within_eq_true] at h
  case travel =>
    rw [optionField, writeOption, DirPolarity.code_ofField h.1 h.2, w2_toNat h.1 (by omega)]
  case belt =>
    obtain rfl : x = 0 := by omega
    rfl
  case drum => exact w2_toNat (by omega) (by omega)

/-! #### Each section reads back -/

section
variable {a b : Byte} {more : List Byte} {w t : State}

theorem sensor_readsBack (h : (a :: b :: more).length = 2 * 8) (ok : (setSensor (a :: b :: more) w).2 = [0x00#8])
    (sfe : t.sfe = (setSensor (a :: b :: more) w).1.sfe) :
    (sensorResponse (u16 a b) t).take 16 = a :: b :: more := by
  obtain ⟨f, fields⟩ := readFields_indexed (sgs := [false, false, false, true, false, false, false, true]) h
  have bytes := readFields_written (sgs := [false, false, false, true, false, false, false, true]) h
  have index : (u16 a b : Int) = f 0 := (List.cons.inj fields).1
  unfold setSensor at ok sfe
  rw [fields] at ok sfe bytes
  obtain ⟨inRange, written⟩ := writeRecord_ok ok
  have stored := sfe.trans (congrArg State.sfe written)
  simp only [List.forall_mem_cons, within_eq_true] at inRange
  obtain ⟨chan, role, side, -, lockN, unlockN, tol, -⟩ := inRange
  obtain ⟨named, number⟩ := Chan.ofNat?_ofField chan.1 chan.2
  rw [← index, Int.toNat_natCast] at named
  rw [sensorResponse_fields named, stored, index, writeSensor_record, ← bytes]
  simp (disch := omega) only [SensorRec.fields, number, Role.code_ofField, Side.code_ofField, w2_toNat, i2]
  rfl

theorem side_readsBack (h : (a :: b :: more).length = 2 * 16) (ok : (setSide (a :: b :: more) w).2 = [0x00#8])
    (cfg : t.cfg = (setSide (a :: b :: more) w).1.cfg) : (sideResponse (u16 a b) t).take 32 = a :: b :: more := by
  obtain ⟨f, fields⟩ := readFields_indexed (sgs := List.replicate 16 false) h
  have bytes := readFields_written (sgs := List.replicate 16 false) h
  have index : (u16 a b : Int) = f 0 := (List.cons.inj fields).1
  unfold setSide at ok cfg
  rw [fields] at ok cfg bytes
  obtain ⟨inRange, written⟩ := writeRecord_ok ok
  have stored := cfg.trans (congrArg State.cfg written)
  simp only [List.forall_mem_cons, within_eq_true] at inRange
  obtain ⟨side, mode, minMembers, rebaseRate, deadband, nKp, nKi, nIlim, nUmax, hKp, hKi, hIlim, hUmax, vmin, engageTol,
    farTol, -⟩ := inRange
  have modeCode : 0 ≤ f 1 ∧ f 1 ≤ 1 := by
    refine ⟨mode.1, mode.2.trans ?_⟩
    split <;> decide
  have named := Side.ofNat?_ofField side.1 side.2
  rw [← index, Int.toNat_natCast] at named
  rw [sideResponse_fields named, stored, index, writeSide_record, ← bytes]
  simp (disch := omega) only [SideRec.fields, Gains.fields, Side.code_ofField, SideMode.code_ofField, w2_toNat]
  rfl

theorem plan_readsBack (h : (a :: b :: more).length = 2 * 8) (ok : (setPlan (a :: b :: more) w).2 = [0x00#8])
    (cfg : t.cfg = (setPlan (a :: b :: more) w).1.cfg) : (planResponse t).take 16 = a :: b :: more := by
  obtain ⟨f, fields⟩ := readFields_indexed (sgs := List.replicate 8 false) h
  have bytes := readFields_written (sgs := List.replicate 8 false) h
  unfold setPlan at ok cfg
  rw [fields] at ok cfg bytes
  obtain ⟨inRange, written⟩ := writeRecord_ok ok
  have stored := cfg.trans (congrArg State.cfg written)
  simp only [List.forall_mem_cons, within_eq_true] at inRange
  obtain ⟨index, maxSlope, engageRate, liftRate, clearance, maxDepth, lowMark, timeLimit, -⟩ := inRange
  have zero : w2 0 = leInt 2 (f 0) := by rw [show f 0 = 0 by omega]; rfl
  rw [planResponse_fields, stored, writePlan_record, ← bytes]
  simp (disch := omega) only [PlanRec.fields, zero, w2_toNat]
  rfl

theorem belt_readsBack (h : (a :: b :: more).length = 2 * 9) (ok : (setBelt (a :: b :: more) w).2 = [0x00#8])
    (cfg : t.cfg = (setBelt (a :: b :: more) w).1.cfg) : (beltResponse t).take 18 = a :: b :: more := by
  obtain ⟨f, fields⟩ := readFields_indexed (sgs := List.replicate 9 false) h
  have bytes := readFields_written (sgs := List.replicate 9 false) h
  unfold setBelt at ok cfg
  rw [fields] at ok cfg bytes
  obtain ⟨inRange, written⟩ := writeRecord_ok ok
  have stored := cfg.trans (congrArg State.cfg written)
  simp only [List.forall_mem_cons, within_eq_true] at inRange
  obtain ⟨index, length, cap, fill, vmin, vmax, vfull, kb, fixed, -⟩ := inRange
  have zero : w2 0 = leInt 2 (f 0) := by rw [show f 0 = 0 by omega]; rfl
  rw [beltResponse_fields, stored, writeBelt_record, ← bytes]
  simp (disch := omega) only [BeltRec.fields, zero, w2_toNat]
  rfl

theorem limits_readsBack (h : (a :: b :: more).length = 2 * 13) (ok : (setLimits (a :: b :: more) w).2 = [0x00#8])
    (cfg : t.cfg = (setLimits (a :: b :: more) w).1.cfg) : (limitsResponse t).take 26 = a :: b :: more := by
  obtain ⟨f, fields⟩ := readFields_indexed (sgs := List.replicate 13 false) h
  have bytes := readFields_written (sgs := List.replicate 13 false) h
  unfold setLimits at ok cfg
  rw [fields] at ok cfg bytes
  obtain ⟨inRange, written⟩ := writeRecord_ok ok
  have stored := cfg.trans (congrArg State.cfg written)
  simp only [List.forall_mem_cons, within_eq_true] at inRange
  obtain ⟨index, vmax, vminAdv, creep, ls, lh, gain, offset, hardOn, hardOff, classLock, classUnlock, width, -⟩ := inRange
  have zero : w2 0 = leInt 2 (f 0) := by rw [show f 0 = 0 by omega]; rfl
  rw [limitsResponse_fields, stored, ← bytes]
  simp (disch := omega) only [writeLimits, State.mapCfg_cfg, LimitsRec.fields, zero, w2_toNat]
  rfl

theorem supply_readsBack (h : (a :: b :: more).length = 2 * 2) (ok : (setSupply (a :: b :: more) w).2 = [0x00#8])
    (cfg : t.cfg = (setSupply (a :: b :: more) w).1.cfg) : (supplyResponse t).take 4 = a :: b :: more := by
  obtain ⟨f, fields⟩ := readFields_indexed (sgs := List.replicate 2 false) h
  have bytes := readFields_written (sgs := List.replicate 2 false) h
  unfold setSupply at ok cfg
  rw [fields] at ok cfg bytes
  obtain ⟨inRange, written⟩ := writeRecord_ok ok
  have stored := cfg.trans (congrArg State.cfg written)
  simp only [List.forall_mem_cons, within_eq_true] at inRange
  obtain ⟨index, level, -⟩ := inRange
  have zero : w2 0 = leInt 2 (f 0) := by rw [show f 0 = 0 by omega]; rfl
  rw [supplyResponse_fields, stored, ← bytes]
  simp (disch := omega) only [State.mapCfg_cfg, zero, w2_toNat]
  rfl

theorem link_readsBack (h : (a :: b :: more).length = 2 * 3) (ok : (setLink (a :: b :: more) w).2 = [0x00#8])
    (cfg : t.cfg = (setLink (a :: b :: more) w).1.cfg) : (linkResponse t).take 6 = a :: b :: more := by
  obtain ⟨f, fields⟩ := readFields_indexed (sgs := List.replicate 3 false) h
  have bytes := readFields_written (sgs := List.replicate 3 false) h
  unfold setLink at ok cfg
  rw [fields] at ok cfg bytes
  obtain ⟨inRange, written⟩ := writeRecord_ok ok
  have stored := cfg.trans (congrArg State.cfg written)
  simp only [List.forall_mem_cons, within_eq_true] at inRange
  obtain ⟨index, silence, period, -⟩ := inRange
  have bound : 0 ≤ f 2 ∧ f 2 ≤ 1000 := by
    simp [goodPeriod] at period
    omega
  have zero : w2 0 = leInt 2 (f 0) := by rw [show f 0 = 0 by omega]; rfl
  rw [linkResponse_fields, stored, ← bytes]
  simp (disch := omega) only [writeLink, State.mapCfg_cfg, State.mapLi_cfg, LinkRec.fields, zero, w2_toNat]
  rfl

theorem output_readsBack (h : (a :: b :: more).length = 2 * 3) (ok : (setOutput (a :: b :: more) w).2 = [0x00#8])
    (cfg : t.cfg = (setOutput (a :: b :: more) w).1.cfg) : (outputResponse (u16 a b) t).take 6 = a :: b :: more := by
  obtain ⟨f, fields⟩ := readFields_indexed (sgs := List.replicate 3 false) h
  have bytes := readFields_written (sgs := List.replicate 3 false) h
  have index : (u16 a b : Int) = f 0 := (List.cons.inj fields).1
  unfold setOutput at ok cfg
  rw [fields] at ok cfg bytes
  obtain ⟨inRange, written⟩ := writeRecord_ok ok
  have stored := cfg.trans (congrArg State.cfg written)
  simp only [List.forall_mem_cons, within_eq_true] at inRange
  obtain ⟨number, imax, polarity, -⟩ := inRange
  by_cases belt : f 0 = 2
  · have n : u16 a b = 2 := by omega
    have number2 : w2 2 = leInt 2 (f 0) := by rw [belt]; rfl
    have normal : w2 Polarity.normal.code = leInt 2 (f 2) := by
      rw [if_pos belt] at polarity
      rw [show f 2 = 0 by omega]
      rfl
    have beltImax : (writeOutput (f 0) (f 1) (f 2) w).cfg.beltImax = (f 1).toNat := by simp [writeOutput, belt]
    rw [n, outputResponse_belt rfl, stored, beltImax, ← bytes]
    simp (disch := omega) only [OutRec.fields, number2, normal, w2_toNat]
    rfl
  · have polarityCode : 0 ≤ f 2 ∧ f 2 ≤ 1 := by
      refine ⟨polarity.1, polarity.2.trans ?_⟩
      split <;> decide
    have named := Side.ofNat?_ofField number.1 (show f 0 ≤ 1 by omega)
    rw [← index, Int.toNat_natCast] at named
    have out : (writeOutput (f 0) (f 1) (f 2) w).cfg.out.get (Side.ofField (f 0))
        = { imax := (f 1).toNat, polarity := Polarity.ofField (f 2) } := by
      simp [writeOutput, belt]
    rw [outputResponse_leg named, stored, index, out, ← bytes]
    have n : u16 a b = (f 0).toNat := by omega
    simp (disch := omega) only [OutRec.fields, n, Polarity.code_ofField, w2_toNat]
    rfl

theorem pulse_readsBack (h : (a :: b :: more).length = 2 * 5) (ok : (setPulse (a :: b :: more) w).2 = [0x00#8])
    (cfg : t.cfg = (setPulse (a :: b :: more) w).1.cfg) : (pulseResponse (u16 a b) t).take 10 = a :: b :: more := by
  obtain ⟨f, fields⟩ := readFields_indexed (sgs := List.replicate 5 false) h
  have bytes := readFields_written (sgs := List.replicate 5 false) h
  have index : (u16 a b : Int) = f 0 := (List.cons.inj fields).1
  unfold setPulse at ok cfg
  rw [fields] at ok cfg bytes
  obtain ⟨inRange, written⟩ := writeRecord_ok ok
  have stored := cfg.trans (congrArg State.cfg written)
  simp only [List.forall_mem_cons, within_eq_true] at inRange
  obtain ⟨input, edge, prescale, scale, option, -⟩ := inRange
  have prescaleBound : 0 ≤ f 2 ∧ f 2 ≤ 256 := by
    simp [goodPrescale] at prescale
    omega
  have scaleBound := goodScale_bounds scale
  rw [pulseResponse_fields, index, stored, writePulse_cfg, writeOption_pulse, Pulses.get_set_same, ← bytes]
  simp (disch := omega) only [PulseRec.fields, optionField_written option, PulseInput.code_ofField,
    EdgeSelect.code_ofField, w2_toNat]
  rfl

end

/-- Settles O49: a record written in range is stored, and its fields are encoded as they were read. -/
theorem writtenRecordReadsBack : Obligations.WrittenRecordReadsBack := by
  intro tag a b more s t free
  dsimp only
  refine ⟨fun ⟨length, run, ok⟩ => ?_, fun ⟨length, run, ok⟩ => ?_, fun ⟨length, run, ok⟩ => ?_,
    fun ⟨length, run, ok⟩ => ?_, fun ⟨length, run, ok⟩ => ?_, fun ⟨length, run, ok⟩ => ?_,
    fun ⟨length, run, ok⟩ => ?_, fun ⟨length, run, ok⟩ => ?_, fun ⟨length, run, ok⟩ => ?_⟩
  · obtain ⟨done, _, sfe⟩ := configSet_written (p := .sensor) rfl length free run ok
    exact sensor_readsBack length done sfe
  · obtain ⟨done, cfg, _⟩ := configSet_written (p := .side) rfl length free run ok
    exact side_readsBack length done cfg
  · obtain ⟨done, cfg, _⟩ := configSet_written (p := .plan) rfl length free run ok
    exact plan_readsBack length done cfg
  · obtain ⟨done, cfg, _⟩ := configSet_written (p := .pulse) rfl length free run ok
    exact pulse_readsBack length done cfg
  · obtain ⟨done, cfg, _⟩ := configSet_written (p := .belt) rfl length free run ok
    exact belt_readsBack length done cfg
  · obtain ⟨done, cfg, _⟩ := configSet_written (p := .limits) rfl length free run ok
    exact limits_readsBack length done cfg
  · obtain ⟨done, cfg, _⟩ := configSet_written (p := .output) rfl length free run ok
    exact output_readsBack length done cfg
  · obtain ⟨done, cfg, _⟩ := configSet_written (p := .link) rfl length free run ok
    exact link_readsBack length done cfg
  · obtain ⟨done, cfg, _⟩ := configSet_written (p := .supply) rfl length free run ok
    exact supply_readsBack length done cfg

end Sys2Proof.Machine

namespace Sys2Proof.Machine

/-! ### The pages of a response (R204) -/

/-- The first pages one after another are the beginning of the response. -/
theorem pages_flatMap (response : List Byte) (k : Nat) :
    (List.range k).flatMap (fun p => (response.drop (56 * p)).take 56) = response.take (56 * k) := by
  induction k with
  | zero => rfl
  | succ k ih =>
    rw [List.range_succ, List.flatMap_append, ih, List.flatMap_singleton, Nat.mul_succ, List.take_add]

/-- All pages one after another are the response. -/
theorem pages_whole (response : List Byte) :
    (List.range ((response.length + 55) / 56)).flatMap (fun p => (response.drop (56 * p)).take 56) = response := by
  rw [pages_flatMap, List.take_of_length_le (by omega)]

theorem pageReply_past {response : List Byte} {page : Byte} (h : (response.length + 55) / 56 ≤ page.toNat) :
    pageReply response page.toNat = [0x12#8, 0xFE#8] :=
  if_neg (Nat.not_lt.2 h)

theorem pageReply_within {response : List Byte} {page : Byte} (h : page.toNat < (response.length + 55) / 56) :
    pageReply response page.toNat =
      [0x00#8, page, BitVec.ofNat 8 ((response.length + 55) / 56)] ++ (response.drop (56 * page.toNat)).take 56 := by
  refine (if_pos h).trans ?_
  rw [BitVec.ofNat_toNat, BitVec.setWidth_eq]
  rfl

/-- The bytes of an index and a page read back. -/
theorem getRecord_paged {bound index : Nat} {response : Nat → State → List Byte} {page : Byte} {s : State}
    (h : index < 65536) :
    getRecord bound response (le 2 index ++ [page]) s =
      if index < bound then pageReply (response index s) page.toNat else replyField 0 := by
  have carried := u16_le index
  rw [Nat.mod_eq_of_lt h] at carried
  simp only [le_two, List.cons_append, List.nil_append, getRecord, carried]

/-- A CONFIG_GET whose section answers this response for every index below its bound: the refusals, the page and what
the pages hold. -/
theorem configGet_paged {i : Instr} {p : Part} {tag page : Byte} {index bound : Nat} {s : State}
    {answer : Nat → State → List Byte} (response : List Byte) (hs : Listening s) (hi : index < 65536)
    (run : exec i s = act (takeTelegram ReqKind.configGet.code tag (getForm p (le 2 index ++ [page]))) s)
    (reads : ∀ rest t, readPart p rest t = getRecord bound answer rest t)
    (same : index < bound → answer index (heard s) = response) :
    (bound ≤ index → exec i s = .next (answered 0x11#8 tag [0x12#8, 0#8] (heard s))) ∧
    (index < bound → (response.length + 55) / 56 ≤ page.toNat →
      exec i s = .next (answered 0x11#8 tag [0x12#8, 0xFE#8] (heard s))) ∧
    (index < bound → page.toNat < (response.length + 55) / 56 →
      exec i s = .next (answered 0x11#8 tag ([0x00#8, page, BitVec.ofNat 8 ((response.length + 55) / 56)]
        ++ (response.drop (56 * page.toNat)).take 56) (heard s))) ∧
    ([0x00#8, page, BitVec.ofNat 8 ((response.length + 55) / 56)]
      ++ (response.drop (56 * page.toNat)).take 56).length ≤ 59 ∧
    (List.range ((response.length + 55) / 56)).flatMap (fun p => (response.drop (56 * p)).take 56) = response := by
  rw [run, getForm_good (by simp [le_two]) hs, reads, getRecord_paged hi]
  refine ⟨fun outside => ?_, fun inside past => ?_, fun inside within => ?_, ?_, pages_whole response⟩
  · rw [if_neg (Nat.not_lt.2 outside)]
    rfl
  · rw [if_pos inside, same inside, pageReply_past past]
  · rw [if_pos inside, same inside, pageReply_within within]
  · simp only [List.length_append, List.length_take, List.length_cons, List.length_nil]
    omega

/-! ### A value as its position in the list of its values (log 12) -/

@[simp] theorem place_mark (b : Bool) : place b [true, false] = markField b := by cases b <;> rfl
@[simp] theorem place_bit (b : Bool) : place b [false, true] = bitField b := by cases b <;> rfl

@[simp] theorem placeOr_eq (x : Option Int) : placeOr x = optField x := by
  cases x with
  | none => decide
  | some v => rfl

@[simp] theorem place_role (x : Role) : place x [.unused, .height, .slope, .pressure] = w2 x.code := by cases x <;> rfl
@[simp] theorem place_side (x : Side) : place x [.left, .right] = w2 (Side.code x) := by cases x <;> rfl
@[simp] theorem place_qual (x : Qual) : place x [.qualified, .unqualified] = w2 x.code := by cases x <;> rfl
@[simp] theorem place_pubState (x : PubState) : place x [.qualified, .unqualified, .substituted] = w2 x.code := by
  cases x <;> rfl
@[simp] theorem place_sideMode (x : SideMode) : place x [.depth, .slope] = w2 x.code := by cases x <;> rfl
@[simp] theorem place_refState (x : RefState) : place x [.full, .degraded, .lost] = w2 x.code := by cases x <;> rfl
@[simp] theorem place_tracking (x : Tracking) : place x [.track, .rebase] = w2 x.code := by cases x <;> rfl
@[simp] theorem place_gainSet (x : GainSet) : place x [.normal, .hard] = w2 x.code := by cases x <;> rfl
@[simp] theorem place_edge (x : EdgeSelect) : place x [.rising, .falling, .both] = w2 x.code := by cases x <;> rfl
@[simp] theorem place_dirPolarity (x : DirPolarity) : place x [.highForward, .lowForward] = w2 x.code := by cases x <;> rfl
@[simp] theorem place_tag (x : Tag) : place x [.current, .next] = w2 x.code := by cases x <;> rfl
@[simp] theorem place_beltMode (x : BeltMode) : place x [.stop, .fixed, .follow] = w2 x.code := by cases x <;> rfl
@[simp] theorem place_material (x : Material) : place x [.soft, .hard] = w2 x.code := by cases x <;> rfl
@[simp] theorem place_classMode (x : ClassMode) : place x [.auto, .manual] = w2 x.code := by cases x <;> rfl
@[simp] theorem place_cutState (x : CutState) :
    place x [.config, .ready, .engaging, .cutting, .lifting, .holdSoft, .holdHard] = w2 x.code := by cases x <;> rfl
@[simp] theorem place_reason (x : CeilingReason) : place x [.state, .load, .depth, .belt, .truck, .supply] = w2 x.code := by
  cases x <;> rfl
@[simp] theorem place_polarity (x : Polarity) : place x [.normal, .swapped] = w2 x.code := by cases x <;> rfl
@[simp] theorem place_owner (x : Owner) : place x [.none, .loop, .jog] = w2 x.code := by cases x <;> rfl

@[simp] theorem place_cause (x : Option HoldCause) :
    place x [some .request, some .silence, some .silenceEscalated, some .refLost, some .drumStall, some .timeout,
      some .stop, some .supply, none] = w2 (causePosition x) := by
  cases x with
  | none => rfl
  | some c => cases c <;> rfl

/-! ### What each section answers -/

theorem w2_eq : w2 = le 2 := rfl
theorem i2_eq : i2 = leInt 2 := rfl
theorem w4_eq : w4 = le 4 := rfl

theorem sensorResponse_eq {index : Nat} (h : index < 8) (s : State) :
    sensorResponse index s = (s.sfe.chans.get (Chan.all.getD index .a0)).response (Chan.all.getD index .a0) ∧
      (Chan.all.getD index .a0).num = index := by
  have known : ∀ n, n < 8 → Chan.ofNat? n = some (Chan.all.getD n .a0) ∧ (Chan.all.getD n .a0).num = n := by decide
  obtain ⟨chan, number⟩ := known index h
  exact ⟨by rw [sensorResponse, chan], number⟩

/-- R62: the plan position from the first and the last waypoint. -/
theorem planPosition_code (h : Nat) (l : List Waypoint) :
    (planPosition h l).code = match l.head?, l.getLast? with
      | some a, some b => if h < a.station then 1 else if b.station ≤ h then 3 else 2
      | _, _ => 0 := by
  cases l with
  | nil => rfl
  | cons a rest =>
    obtain ⟨b, last⟩ : ∃ b, (a :: rest).getLast? = some b := ⟨_, List.getLast?_eq_some_getLast (by simp)⟩
    simp only [planPosition, lastStation, List.head?_cons, last, Option.map_some, Option.any_some, decide_eq_true_eq]
    split
    · rfl
    · split <;> rfl

theorem coil_code (a : Int) : (coil a).code = if 0 < a then 1 else if a < 0 then 2 else 0 := by
  unfold coil
  split
  · rfl
  · split <;> rfl

theorem appliedDrive_eq (low : Bool) (held : Int) :
    appliedDrive low held = if low then max (-700) (min 700 held) else held := by
  rw [appliedDrive, clamp_eq (by decide)]

theorem intakeVolume_eq (segs : List Segment) : intakeVolume segs = (segs.map Segment.vol).headD 0 := by
  cases segs <;> rfl

theorem Dlm.material_eq (d : Dlm) : d.material = if d.mode = .auto then d.auto else d.manual := by
  unfold Dlm.material
  cases d.mode <;> rfl

theorem Side.ofIndex {index : Nat} (h : index < 2) :
    let i : Side := if index = 0 then .left else .right
    Side.ofNat? index = some i ∧ Side.code i = index ∧ (i = .right ↔ index ≠ 0) := by
  obtain rfl | rfl : index = 0 ∨ index = 1 := by omega
  all_goals decide

/-- R156: the truck term is open while the current truck loads or another waits. -/
theorem truckTerm_eq (t : Tlu) (vmax : Nat) :
    truckTerm t vmax =
      if (t.current.any fun x => decide (x.state = .loading)) = true ∨ t.next.isSome = true then vmax else 0 := by
  have loading : isLoading t.current = t.current.any fun x => decide (x.state = .loading) := rfl
  rw [truckTerm, ← loading]
  cases isLoading t.current <;> cases t.next <;> rfl

theorem pulseReadings_travel (p : Pcu) :
    pulseReadings .travel p =
      i2 p.travelSpeed ++ w4 p.station ++ w4 p.high ++ w2 p.travelRem ++ markField p.forward :=
  rfl
theorem pulseReadings_belt (p : Pcu) : pulseReadings .belt p = w2 p.beltSpeed ++ w2 p.beltRem := rfl
theorem pulseReadings_drum (p : Pcu) : pulseReadings .drum p = w2 p.drumSpeed ++ w2 p.stall := rfl

theorem place_hunt : place RxState.hunt [.hunt, .length, .header, .body, .check] = w2 RxState.hunt.code := rfl

theorem sourceReadings_eq (e : Events) :
    sourceReadings e = fun i => le 2 (Config.pendingCode (marked e.pending i)).toNat ++ bitField (marked e.enable i)
      ++ bitField (marked e.route i) :=
  rfl

/-! A telegram's arrival moves no reading that a response computes from the state. -/

section
variable (s : State)

theorem targets_heard : targets (heard s) = targets s := rfl
theorem activeSlope_heard : activeSlope (heard s) = activeSlope s := rfl
theorem condition_heard (e : EventSrc) : condition e (heard s) = condition e s := rfl
theorem ceiling_heard : ceiling (heard s) = ceiling s := rfl
theorem ceilingReason_heard : ceilingReason (heard s) = ceilingReason s := rfl
theorem advancePermit_heard : advancePermit (heard s) = advancePermit s := rfl

end

/-- Settles O42: CONFIG_GET of each section pages its response, and each response holds its rules' fields and readings
byte for byte. -/
theorem configGetAnswersPages : Obligations.ConfigGetAnswersPages := by
  intro tag page index s hs hi paged rest mark bit nats channels first sensor side plan pulse vmax beltTerm' belt
    classes limits output link supply
  refine ⟨configGet_paged (p := .sensor) (answer := sensorResponse) sensor hs hi rfl (fun _ _ => rfl) fun inside => ?_,
    configGet_paged (p := .side) (answer := sideResponse) side hs hi rfl (fun _ _ => rfl) fun inside => ?_,
    configGet_paged (p := .plan) (answer := fun _ => planResponse) plan hs hi rfl (fun _ _ => rfl) fun inside => ?_,
    configGet_paged (p := .pulse) (answer := pulseResponse) pulse hs hi rfl (fun _ _ => rfl) fun inside => ?_,
    configGet_paged (p := .belt) (answer := fun _ => beltResponse) belt hs hi rfl (fun _ _ => rfl) fun inside => ?_,
    configGet_paged (p := .limits) (answer := fun _ => limitsResponse) limits hs hi rfl (fun _ _ => rfl)
      fun inside => ?_,
    configGet_paged (p := .output) (answer := outputResponse) output hs hi rfl (fun _ _ => rfl) fun inside => ?_,
    configGet_paged (p := .link) (answer := fun _ => linkResponse) link hs hi rfl (fun _ _ => rfl) fun inside => ?_,
    configGet_paged (p := .supply) (answer := fun _ => supplyResponse) supply hs hi rfl (fun _ _ => rfl)
      fun inside => ?_⟩
  · obtain ⟨response, number⟩ := sensorResponse_eq inside (heard s)
    rw [response]
    simp [-List.getD_eq_getElem?_getD, sensor, mark, nats, Channel.response, SensorRec.fields, number,
      ← List.flatMap_def, w2_eq, i2_eq, placeOr_eq]
  · obtain ⟨known, code, second⟩ := Side.ofIndex inside
    rw [sideResponse, known]
    rcases hslope : s.sru.slope with _ | ⟨c, v⟩ <;>
      simp [side, first, mark, nats, channels, SideRec.fields, Gains.fields, code, second, SideRef.readings,
        chanList, Loop.readings, slopeReadings, hslope, absent, w2_eq, i2_eq]
  · simp [plan, mark, nats, planResponse, PlanRec.fields, countAhead, planPosition_code, targets_heard,
      activeSlope_heard, condition_heard, placeOr_eq, w2_eq] <;> rfl
  · obtain rfl | rfl | rfl : index = 0 ∨ index = 1 ∨ index = 2 := by omega
    all_goals simp [pulse, mark, nats, pulseResponse, PulseRec.fields, PulseInput.code, optionField,
      pulseReadings_travel, pulseReadings_belt, pulseReadings_drum, w2_eq, w4_eq, i2_eq]
  · simp [belt, mark, nats, beltTerm', vmax, beltResponse, BeltRec.fields, beltHolding, segLen, rate, beltTerm_eq,
      intakeVolume_eq, ← List.flatMap_def, w2_eq, w4_eq]
  · simp [limits, mark, nats, beltTerm', vmax, classes, limitsResponse, LimitsRec.fields, dlmReadings, cscReadings,
      ceiling_heard, ceilingReason_heard, advancePermit_heard, ceilingTerms, stateTerm, depthTerm,
      supplyTerm, truckTerm_eq, beltTerm_eq, loadTerm_eq, intakeVolume_eq, Dlm.material_eq, placeOr_eq, w2_eq] <;> rfl
  · obtain rfl | rfl | rfl : index = 0 ∨ index = 1 ∨ index = 2 := by omega
    all_goals simp [output, nats, outputResponse, Side.ofNat?, legReadings, OutRec.fields, appliedDrive_eq, coil_code,
      coilCurrent, Polarity.code, w2_eq, i2_eq]
  · simp [link, mark, bit, nats, linkResponse, LinkRec.fields, placeOr_eq, w2_eq, ← List.flatMap_def,
      sourceReadings_eq, place_hunt]
  · simp [supply, nats, supplyResponse, lowThreshold, w2_eq]

end Sys2Proof.Machine

namespace Sys2Proof.Machine

/-! ### The commands that wait (O3)

Nothing that a command does touches them: each operation of a block below, then each request's work, then each
command. -/

/-- The commands that wait stay as they are. -/
abbrev Waits (s t : State) : Prop := t.pending = s.pending

theorem Waits.ite {s a b : State} {p : Prop} [Decidable p] (ha : Waits s a) (hb : Waits s b) :
    Waits s (if p then a else b) := by
  split
  · exact ha
  · exact hb

/-! #### Pulses -/

theorem countedTravel_waits (d f : Bool) (s : State) : Waits s (countedTravel d f s) := by
  unfold countedTravel
  exact .ite (advance_frame _ _ _).waiting rfl

theorem countedBelt_waits (s : State) : Waits s (countedBelt s) := by
  unfold countedBelt
  exact .ite (beltTravel_pending _ _) rfl

theorem countedEvent_waits (i : PulseInput) (d f : Bool) (s : State) : Waits s (countedEvent i d f s) := by
  cases i with
  | travel => exact countedTravel_waits d f s
  | belt => exact countedBelt_waits s
  | drum => rfl

theorem pinEdge_waits (i : PulseInput) (r d f : Bool) (s : State) : Waits s (pinEdge i r d f s) := by
  unfold pinEdge
  exact .ite (.ite ((countedEvent_waits i d f _).trans (State.mapPins_pending _ s)) rfl) rfl

theorem applyStall_waits (s : State) : Waits s (applyStall s) := by
  unfold applyStall
  split
  · dsimp only
    split
    · exact enterHold_pending _ _ _
    · exact enterHold_pending _ _ _
    all_goals rfl
  · rfl

theorem testDrumStall_waits (s : State) : Waits s (testDrumStall s) := by
  unfold testDrumStall
  exact .ite (.ite (raise_pending _ _) rfl) rfl

theorem drumSpeedUpdate_waits (apart : Bool) (s : State) : Waits s (drumSpeedUpdate apart s) := by
  have tested : Waits s (testDrumStall (closeDrumWindow (applyStall s))) :=
    (testDrumStall_waits _).trans (applyStall_waits s)
  unfold drumSpeedUpdate
  exact .ite tested ((applyStall_waits _).trans tested)

/-! #### Channels, timers and pins -/

theorem unlockChannel_waits (i : Chan) (raw : Nat) (s : State) : Waits s (unlockChannel i raw s) := by
  unfold unlockChannel
  exact .ite (.ite (by simp [Waits]) (by simp [Waits])) rfl

theorem lockChannel_waits (i : Chan) (raw : Nat) (s : State) : Waits s (lockChannel i raw s) := by
  unfold lockChannel
  exact .ite (by simp [Waits]) rfl

theorem expireStateTimer_waits (s : State) : Waits s (expireStateTimer s) := by
  unfold expireStateTimer
  split
  · rfl
  · exact .ite (by simp [Waits]) rfl

theorem escalateSilence_waits (s : State) : Waits s (escalateSilence s) := by
  unfold escalateSilence
  dsimp only
  split <;> simp [Waits]

theorem expireStatusPeriod_waits (s : State) : Waits s (expireStatusPeriod s) := by
  unfold expireStatusPeriod
  split
  · rfl
  · exact .ite (formReport_pending s) rfl

theorem assertStop_waits (s : State) : Waits s (assertStop s) := by
  unfold assertStop
  dsimp only
  split <;> simp [Waits]

theorem releaseStop_waits (s : State) : Waits s (releaseStop s) := by simp [Waits, releaseStop]

theorem driveStop_waits (s : State) : Waits s (driveStop s) :=
  .ite rfl (.ite rfl ((arbitrate_pending _).trans (assertStop_waits s)))

theorem undriveStop_waits (s : State) : Waits s (undriveStop s) :=
  .ite rfl (.ite rfl ((arbitrate_pending _).trans (releaseStop_waits s)))

/-! #### Resets and the line -/

theorem resetBlocks_waits (p : Straps) (s : State) : Waits s (resetBlocks p s) := by simp [Waits, resetBlocks]

theorem endTransmission_waits (s : State) : Waits s (endTransmission s) := by
  unfold endTransmission
  split
  · rfl
  · exact .ite (resetBlocks_waits _ s) rfl

/-! #### What the requests do -/

/-- A request's work keeps the waiting commands. -/
def Work.Waits (f : State → State × Reply) : Prop := ∀ s, Machine.Waits s (f s).1

theorem writeRecord_waits (checks : List Bool) (structural : Bool) {write : State → State} {s : State}
    (h : Waits s (write s)) : Waits s (writeRecord checks structural write s).1 := by
  unfold writeRecord
  split
  · rfl
  · split
    · rfl
    · exact h

theorem writeSensor_waits (i : Chan) (r : SensorRec) (s : State) : Waits s (writeSensor i r s) :=
  .ite (by simp [Waits]) (by simp [Waits])

theorem writeSide_waits (i : Side) (r : SideRec) (s : State) : Waits s (writeSide i r s) :=
  .ite (by simp [Waits]) (by simp [Waits])

theorem writePulse_waits (i : PulseInput) (r : PulseRec) (opt : Int) (s : State) : Waits s (writePulse i r opt s) :=
  .ite (.ite rfl rfl) (.ite rfl rfl)

theorem writeBelt_waits (r : BeltRec) (s : State) : Waits s (writeBelt r s) := by
  have length : Waits s (if s.cfg.belt.length ≠ r.length then
      (s.mapCfg fun c => { c with belt := r }).mapBtq fun b => { b with acc := 0 }
    else s.mapCfg fun c => { c with belt := r }) := .ite rfl rfl
  exact .ite ((applyCapacity_pending _).trans length) length

theorem writeOutput_waits (n imax polarity : Int) (s : State) : Waits s (writeOutput n imax polarity s) :=
  .ite rfl rfl

/-- CONFIG_SET of each section: a record that does not split into its fields is refused, and the others are written. -/
theorem setForm_waits (p : Part) (rest : List Byte) : Work.Waits (setForm p rest).carryOut := fun s => by
  cases p
  case sensor =>
    change Waits s (setSensor rest s).1
    unfold setSensor
    split
    · exact writeRecord_waits _ _ (writeSensor_waits _ _ s)
    · rfl
  case side =>
    change Waits s (setSide rest s).1
    unfold setSide
    split
    · exact writeRecord_waits _ _ (writeSide_waits _ _ s)
    · rfl
  case plan =>
    change Waits s (setPlan rest s).1
    unfold setPlan
    split
    · exact writeRecord_waits _ _ (judgePlanLow_pending _)
    · rfl
  case pulse =>
    change Waits s (setPulse rest s).1
    unfold setPulse
    split
    · exact writeRecord_waits _ _ (writePulse_waits _ _ _ s)
    · rfl
  case belt =>
    change Waits s (setBelt rest s).1
    unfold setBelt
    split
    · exact writeRecord_waits _ _ (writeBelt_waits _ s)
    · rfl
  case limits =>
    change Waits s (setLimits rest s).1
    unfold setLimits
    split
    · exact writeRecord_waits _ _ rfl
    · rfl
  case output =>
    change Waits s (setOutput rest s).1
    unfold setOutput
    split
    · exact writeRecord_waits _ _ (writeOutput_waits _ _ _ s)
    · rfl
  case link =>
    change Waits s (setLink rest s).1
    unfold setLink
    split
    · exact writeRecord_waits _ _ rfl
    · rfl
  case supply =>
    change Waits s (setSupply rest s).1
    unfold setSupply
    split
    · exact writeRecord_waits _ _ rfl
    · rfl

theorem lintabLoad_waits (payload : List Byte) : Work.Waits (lintabLoad payload) := fun s => by
  unfold lintabLoad
  dsimp only
  repeat' split
  all_goals simp [Waits]

theorem commission_waits : Work.Waits commission := fun s => by
  unfold commission
  repeat' split
  all_goals simp [Waits]

theorem decommission_waits : Work.Waits decommission := fun s => by
  unfold decommission
  split <;> simp [Waits]

theorem planAppend_waits (payload : List Byte) : Work.Waits (planAppend payload) := fun s => by
  unfold planAppend
  dsimp only
  split <;> simp [Waits]

theorem planClear_waits : Work.Waits planClear := fun s => by
  unfold planClear
  dsimp only
  split
  · rfl
  · exact .ite (by simp [Waits]) (emptyPlan_pending s)

theorem windowSet_waits (payload : List Byte) : Work.Waits (windowSet payload) := fun s => by
  unfold windowSet
  dsimp only
  repeat' split
  all_goals simp [Waits]

theorem windowClear_waits (payload : List Byte) : Work.Waits (windowClear payload) := fun s => by
  unfold windowClear
  repeat' split
  all_goals rfl

theorem stationSet_waits (payload : List Byte) : Work.Waits (stationSet payload) := fun s => by
  unfold stationSet
  dsimp only
  repeat' split
  all_goals simp [Waits]

theorem engage_waits : Work.Waits engage := fun s => by
  unfold engage
  repeat' split
  all_goals simp [Waits]

theorem lift_waits : Work.Waits lift := fun s => by
  unfold lift
  split <;> simp [Waits]

theorem hold_waits (payload : List Byte) : Work.Waits (hold payload) := fun s => by
  have soft : Waits s (holdSoft s).1 := by
    unfold holdSoft
    split <;> simp [Waits]
  have hard : Waits s (holdHard s).1 := by
    unfold holdHard
    split <;> simp [Waits]
  unfold hold
  split
  · split
    · exact soft
    · split
      · exact hard
      · rfl
  · rfl

theorem resume_waits : Work.Waits resume := fun s => by
  unfold resume
  repeat' split
  all_goals simp [Waits]

theorem jog_waits (payload : List Byte) : Work.Waits (jog payload) := fun s => by
  unfold jog
  repeat' split
  all_goals rfl

theorem zeroRequest_waits (payload : List Byte) : Work.Waits (zeroRequest payload) := fun s => by
  unfold zeroRequest
  dsimp only
  repeat' split
  all_goals rfl

theorem substitute_waits (payload : List Byte) : Work.Waits (substitute payload) := fun s => by
  unfold substitute
  dsimp only
  repeat' split
  all_goals simp [Waits]

theorem release_waits (payload : List Byte) : Work.Waits (release payload) := fun s => by
  unfold release
  repeat' split
  all_goals rfl

theorem materialSet_waits (payload : List Byte) : Work.Waits (materialSet payload) := fun s => by
  unfold materialSet
  dsimp only
  repeat' split
  all_goals simp [Waits]

theorem beltMode_waits (payload : List Byte) : Work.Waits (beltMode payload) := fun s => by
  unfold beltMode
  repeat' split
  all_goals simp [Waits, takeBeltMode]

theorem truckNext_waits (payload : List Byte) : Work.Waits (truckNext payload) := fun s => by
  unfold truckNext
  dsimp only
  repeat' split
  all_goals rfl

theorem truckIn_waits : Work.Waits truckIn := fun s => by
  unfold truckIn
  split <;> simp [Waits, retagQueue]

theorem truckOut_waits : Work.Waits truckOut := fun s => by
  unfold truckOut
  split <;> simp [Waits, retagQueue]

theorem planRead_waits (payload : List Byte) : Work.Waits (planRead payload) := fun s => by
  unfold planRead
  split <;> rfl

theorem tallyRead_waits (payload : List Byte) : Work.Waits (tallyRead payload) := fun s => by
  unfold tallyRead
  repeat' split
  all_goals rfl

theorem writeRoute_waits (i : Nat) (enable route : Bool) (s : State) : Waits s (writeRoute i enable route s) :=
  .ite (latch_pending _ _) rfl

theorem eventRoute_waits (payload : List Byte) : Work.Waits (eventRoute payload) := fun s => by
  unfold eventRoute
  split
  · split
    · rfl
    · exact writeRoute_waits _ _ _ s
  · rfl

theorem eventAck_waits (payload : List Byte) : Work.Waits (eventAck payload) := fun s => by
  unfold eventAck
  split <;> rfl

/-! #### Every request -/

theorem sectionForm_waits {form : Part → List Byte → Request} (readOnly : Bool) (payload : List Byte)
    (h : ∀ p rest, Work.Waits (form p rest).carryOut) : Work.Waits (sectionForm readOnly form payload).carryOut := by
  unfold sectionForm
  split
  · exact fun _ => rfl
  · split
    · exact fun _ => rfl
    · exact h _ _

theorem kindForm_waits (k : ReqKind) (payload : List Byte) : Work.Waits (kindForm k payload).carryOut := by
  cases k
  case identify | poll | restart => exact fun _ => rfl
  case configSet => exact sectionForm_waits _ _ setForm_waits
  case configGet => exact sectionForm_waits _ _ fun _ _ _ => rfl
  case lintabLoad => exact lintabLoad_waits payload
  case commission => exact commission_waits
  case decommission => exact decommission_waits
  case planAppend => exact planAppend_waits payload
  case planClear => exact planClear_waits
  case planRead => exact planRead_waits payload
  case windowSet => exact windowSet_waits payload
  case windowClear => exact windowClear_waits payload
  case stationSet => exact stationSet_waits payload
  case engage => exact engage_waits
  case lift => exact lift_waits
  case hold => exact hold_waits payload
  case resume => exact resume_waits
  case jog => exact jog_waits payload
  case zero => exact zeroRequest_waits payload
  case substitute => exact substitute_waits payload
  case release => exact release_waits payload
  case materialSet => exact materialSet_waits payload
  case beltMode => exact beltMode_waits payload
  case truckNext => exact truckNext_waits payload
  case truckIn => exact truckIn_waits
  case truckOut => exact truckOut_waits
  case tallyRead => exact tallyRead_waits payload
  case eventRoute => exact eventRoute_waits payload
  case eventAck => exact eventAck_waits payload

theorem requestForm_waits (kind : Byte) (payload : List Byte) : Work.Waits (requestForm kind payload).carryOut := by
  unfold requestForm
  split
  · exact fun _ => rfl
  · exact kindForm_waits _ _

theorem Request.answer_waits {r : Request} (h : Work.Waits r.carryOut) (s : State) : Waits s (r.answer s).1 := by
  unfold Request.answer
  split
  · rfl
  · split
    · rfl
    · split
      · rfl
      · exact h s

theorem takeTelegram_waits (kind tag : Byte) {r : Request} (hr : Work.Waits r.carryOut) (s : State) :
    Waits s (takeTelegram kind tag r s) := by
  unfold takeTelegram
  exact .ite rfl (.ite rfl (Request.answer_waits hr _))

theorem takeByte_waits (b : Byte) (s : State) : Waits s (takeByte b s) := by
  unfold takeByte
  split
  · exact .ite rfl rfl
  · exact .ite rfl rfl
  · exact .ite rfl rfl
  · rfl
  · exact .ite rfl (.ite (takeTelegram_waits _ _ (requestForm_waits _ _) s) rfl)

/-! #### Every command -/

/-- A command has an outcome, and it keeps the waiting commands. -/
def Waiting (r : Result) (s : State) : Prop := ∃ t, r = .next t ∧ Waits s t

theorem Waits.next {s t : State} (h : Waits s t) : Waiting (.next t) s := ⟨t, rfl, h⟩

/-- A command that acts unless the part is held. -/
theorem Waits.act {f : State → State} {s : State} (h : Waits s (f s)) : Waiting (Machine.act f s) s := by
  unfold Machine.act
  split
  · exact Waits.next rfl
  · exact Waits.next ((arbitrate_pending _).trans h)

theorem takeRequest_waiting (k : ReqKind) (tag : Byte) (payload : List Byte) (s : State) :
    Waiting (Machine.act (takeRequest k tag payload) s) s :=
  Waits.act (takeTelegram_waits _ _ (kindForm_waits _ _) s)

/-- Settles O3, by the command. -/
theorem everyCommandAnswersNext : Obligations.EveryCommandAnswersNext := by
  intro c s
  change Waiting (exec c s) s
  cases c with
  | powerOnReset p => exact Waits.next (resetBlocks_waits _ _)
  | resetnAsserted => exact Waits.next rfl
  | stopAsserted => exact (driveStop_waits s).next
  | stopReleased => exact (undriveStop_waits s).next
  | restartReset => exact Waits.act (.ite (resetBlocks_waits _ _) rfl)
  | sampleSet scan o => exact Waits.act (sampleSet_frame scan o s).waiting
  | channelUnlock ch raw => exact Waits.act (unlockChannel_waits _ _ s)
  | channelLock ch raw => exact Waits.act (lockChannel_waits _ _ s)
  | zeroCaptureComplete => exact Waits.act (completeCapture_pending s)
  | engageDone => exact Waits.act (settleEngage_frame s).waiting
  | liftDone => exact Waits.act (settleLift_frame s).waiting
  | classWindowClose => exact Waits.act (closeClassWindow_pending s)
  | supplyLowSet => exact Waits.act (settleLowSet_pending s)
  | supplyLowClear => exact Waits.act (settleLowClear_pending s)
  | supplyCutoff => exact Waits.act (applyCutoff_frame s).waiting
  | qualifyingEdge i r d f => exact Waits.act (pinEdge_waits i r d f s)
  | countedTravelEvent d f => exact Waits.act (countedTravel_waits d f s)
  | countedBeltEvent => exact Waits.act (countedBelt_waits s)
  | countedDrumEvent => exact Waits.act rfl
  | speedWindowClose apart =>
    exact Waits.act (f := fun u => beltSpeedUpdate apart (closeSpeedWindow (settleBeltStall u)))
      ((beltSpeedUpdate_pending _ _).trans (settleBeltStall_pending s))
  | beltStall => exact Waits.act (settleBeltStall_pending s)
  | drumSpeedUpdate apart => exact Waits.act (drumSpeedUpdate_waits apart s)
  | drumStall => exact Waits.act (applyStall_waits s)
  | stateTimerExpiry => exact Waits.act (expireStateTimer_waits s)
  | silenceTimerExpiry => exact Waits.act (.ite (escalateSilence_waits s) rfl)
  | jogExpiry i => exact Waits.act (.ite rfl rfl)
  | statusPeriodExpiry => exact Waits.act (expireStatusPeriod_waits s)
  | transmitComplete => exact Waits.act (endTransmission_waits s)
  | telegramBadCrc b => exact Waits.act (.ite rfl rfl)
  | telegramOverlength b => exact Waits.act (.ite rfl rfl)
  | framingError | receiveGapTimeout => exact Waits.act rfl
  | receiverByteTaken b => exact Waits.act (takeByte_waits b s)
  | unknownRequest kind tag payload => exact Waits.act (takeTelegram_waits _ _ (requestForm_waits _ _) s)
  | configSetSensor tag rest | configSetSide tag rest | configSetPlan tag rest | configSetPulse tag rest
  | configSetBelt tag rest | configSetLimits tag rest | configSetOutput tag rest | configSetLink tag rest
  | configSetSupply tag rest => exact Waits.act (takeTelegram_waits _ _ (setForm_waits _ _) s)
  | configGetSensor tag rest | configGetSide tag rest | configGetPlan tag rest | configGetPulse tag rest
  | configGetBelt tag rest | configGetLimits tag rest | configGetOutput tag rest | configGetLink tag rest
  | configGetSupply tag rest => exact Waits.act (takeTelegram_waits _ _ (fun _ => rfl) s)
  | identify tag rest | poll tag rest | restart tag rest | lintabLoad tag rest | commission tag rest
  | decommission tag rest | planAppend tag rest | planClear tag rest | planReadWaypoints tag rest
  | planReadWindows tag rest | windowSet tag rest | windowClear tag rest | stationSet tag rest | engage tag rest
  | lift tag rest | holdSoft tag rest | holdHard tag rest | resume tag rest | jog tag rest | zero tag rest
  | substitute tag rest | release tag rest | materialSetManual tag rest | materialSetAuto tag rest
  | beltMode tag rest | truckNext tag rest | truckIn tag rest | truckOut tag rest | tallyRead tag rest
  | eventRoute tag rest | eventAck tag rest => exact takeRequest_waiting _ _ _ s

end Sys2Proof.Machine

namespace Sys2Proof.Machine

/-! ### The step on a queue with a command at its front (log 1); `step_empty` is the empty queue's -/

theorem step_cons {c : Instr} {rest : List Instr} {s : State} (h : s.pending = c :: rest) :
    step s = exec c { s with pending := rest } := by
  rw [step, h]

/-- Settles O1, by the queue's non-empty branch of the step. -/
theorem stepRunsFrontCommand : Obligations.StepRunsFrontCommand :=
  fun _ _ _ h => step_cons h

end Sys2Proof.Machine
